-- ==== Sys2Proof/Word.lean ====
section
/-! DEFINITION. The words that cross the link, and the index types of the controller's tables. -/

namespace Sys2Proof

/-- One byte of a frame (R164, R180). -/
abbrev Byte := BitVec 8

/-- A two-byte field, sent low byte first (R180). -/
abbrev DByte := BitVec 16

/-- A line number, 0 to 15 (R1). -/
abbrev LineId := Fin 16

/-- A slot of the cycle, 0 to 23 (R19). Addition and subtraction are mod 24. -/
abbrev Slot := Fin 24

/-- A ring code, held as its number less 1: codes 1 to 8 are 0 to 7 (R23). -/
abbrev CodeId := Fin 8

/-- A party of a line, held as its number less 1: parties 1 to 8 are 0 to 7 (R2). -/
abbrev PartyNo := Fin 8

/-- A timer: `none` is stopped, `some n` is running toward `n` (milliseconds, or bit times on the link). -/
abbrev Timer := Option Nat

end Sys2Proof
end

