-- ==== Sys2Proof/Config.lean ====
section
/-! DEFINITION. What the manual fixes for every VG-816: durations, ranges and power-on settings. -/

namespace Sys2Proof.Config

/-- ARM lasts 20 ms (R62). -/
def armMs : Nat := 20
/-- QUENCH lasts 30 ms (R63). -/
def quenchMs : Nat := 30
/-- The slot clock advances every 250 ms (R19). -/
def slotMs : Nat := 250
/-- A loop held closed for 50 ms is recognised (R96). -/
def closedHoldMs : Nat := 50
/-- A break is a clear when it reaches 1050 ms (R97). -/
def breakMs : Nat := 1050
/-- The make that ends a pulse train lasts 300 ms (R100). -/
def makeMs : Nat := 300
/-- The verify timer runs 100 ms (R85). -/
def verifyMs : Nat := 100
/-- The loop scanner samples every 5 ms (R92). -/
def loopSampleMs : Nat := 5
/-- A drop of a source-good input held for 50 ms is a bus fault (R33). -/
def dropMs : Nat := 50
/-- A return of a source-good input held for 1 s is a recovery (R33). -/
def returnMs : Nat := 1000
/-- The gap limit: three character times, 33 bit times (R167). -/
def gapBits : Nat := 33
/-- The turnaround: two character times, 22 bit times (R169). -/
def turnaroundBits : Nat := 22
/-- The longest trip sample, 600 dmA (R78). -/
def sampleMax : Nat := 600
/-- The highest baseline, 6000 cmA (R72). -/
def baselineMax : Nat := 6000
/-- The highest recorded conductance, 2000 µS (R110). -/
def conductanceMax : Nat := 2000
/-- The highest margin, 100 dmA, and the step of a raise, 10 dmA (R86). -/
def marginMax : Nat := 100
def marginStep : Nat := 10
/-- The report queue holds at most 32 entries (R178). -/
def queueMax : Nat := 32
/-- The room for reports in a POLL reply (R179). -/
def pollRoom : Nat := 45
/-- At most four reports in a POLL reply (R179). -/
def pollCount : Nat := 4
/-- The test backlog saturates at 15 (R115). -/
def backlogMax : Nat := 15
/-- The backlog that sets the MUST-run flag, and the one that clears it (R116). -/
def mustSetAt : Nat := 12
def mustClearAt : Nat := 8
/-- The early-pickup limit of a reverting call (R156). -/
def earlyPickupLimit : Nat := 3
/-- The digit queue holds at most 16 digits (R101). -/
def digitMax : Nat := 16
/-- The payload of a frame holds at most 48 bytes (R164). -/
def payloadMax : Nat := 48

end Sys2Proof.Config
end

