-- ==== Sys2Proof/Syntax.lean ====
section
/-! DEFINITION. The commands and events of opcode_table.json, one constructor per row. A command from the link
carries its payload fields as bytes (R180); an event carries what its outside cause brings. -/

namespace Sys2Proof

/-- A ringing bus (R31). -/
inductive Bus
  | a | b
  deriving DecidableEq, Repr

/-- A party record as CONFIGURE_LINE carries it, four bytes (R180). -/
structure PartyField where
  number : Byte
  side : Byte
  code : Byte
  cls : Byte
  deriving DecidableEq, Repr

/-- A code burst as SET_CODE carries it, two bytes (R180). -/
structure BurstField where
  start : Byte
  length : Byte
  deriving DecidableEq, Repr

/-- A character received from the pair (R162): its stop bit and its nine data bits, bit 8 the ninth. -/
structure LinkChar where
  stop : Bool
  data : BitVec 9
  deriving DecidableEq, Repr

/-- What a measurement job read on one side of its line (R110): the conductance in µS, before it saturates at 2000, and
the number of the job that read it, by which its completion finds that job and no other (R114; log entry 17). -/
structure Reading where
  job : Nat
  conductance : Nat
  deriving DecidableEq, Repr

/-- The steps of the controller. -/
inductive Instr
  /-- POWER_ON (R17): the five address straps, the two rate straps (RATE1 in bit 1, closed is 1), and the two
  source-good inputs as they stand at power-on (R33). -/
  | powerOn (address : BitVec 5) (rate : BitVec 2) (goodA goodB : Bool)
  /-- POLL (R179). -/
  | poll
  /-- RESTART (R177), from a frame addressed to the station or from a broadcast (R168). -/
  | restart (broadcast : Bool)
  /-- SET_PARAMETERS (R175). -/
  | setParameters (mask : DByte) (values : Vector DByte 13)
  /-- SET_REPORTS (R176). -/
  | setReports (enables : Byte)
  /-- CONFIGURE_LINE (R9 to R12). -/
  | configureLine (line tipLoad ringLoad dialMode blockCount : Byte) (parties : List PartyField)
  /-- BLOCK (R13). -/
  | block (line : Byte)
  /-- UNBLOCK (R15). -/
  | unblock (line : Byte)
  /-- READ_LINE (R16). -/
  | readLine (line : Byte)
  /-- TEST_LINE (R123). -/
  | testLine (line : Byte)
  /-- SET_CODE (R28). -/
  | setCode (code : Byte) (bursts : List BurstField)
  /-- SET_BUS (R52). -/
  | setBus (bus budget : Byte)
  /-- READ_SCHEDULE (R54). -/
  | readSchedule (bus : Byte)
  /-- RING (R137). -/
  | ring (line party cycles : Byte)
  /-- CANCEL (R141, R154, R158). -/
  | cancel (line : Byte)
  /-- CONNECT (R135). -/
  | connect (line : Byte)
  /-- RELEASE (R136). -/
  | release (line : Byte)
  /-- REVERT (R148). -/
  | revert (line called caller recallByte : Byte)
  /-- UNKNOWN_KIND (R173): a good frame of an unlisted kind. -/
  | unknownKind (kind : Byte) (payload : List Byte)
  /-- LINK_CHARACTER (R166, R167). -/
  | linkCharacter (c : LinkChar)
  /-- GAP_TIMER_EXPIRY (R167). -/
  | gapTimerExpiry
  /-- TURNAROUND_EXPIRY (R169). -/
  | turnaroundExpiry
  /-- REPLY_END (R169). -/
  | replyEnd
  /-- SLOT_BOUNDARY (R42): which of the burst sequencer and the ring planner takes the boundary first (R45). -/
  | slotBoundary (sequencerFirst : Bool)
  /-- ASSIGNMENT_EXPIRY (R45). -/
  | assignmentExpiry (line : LineId)
  /-- ARM_EXPIRY (R62). -/
  | armExpiry (line : LineId)
  /-- RING_END (R62). -/
  | ringEnd (line : LineId)
  /-- QUENCH_END (R63). -/
  | quenchEnd (line : LineId)
  /-- TRIP_SAMPLE (R78): the DC current on the rung side in dmA, before it saturates at 600. -/
  | tripSample (line : LineId) (current : Nat)
  /-- VERIFY_TIMER_EXPIRY (R85). -/
  | verifyTimerExpiry (line : LineId)
  /-- LOOP_SAMPLE (R93): the loop as read, closed or open. -/
  | loopSample (line : LineId) (closed : Bool)
  /-- CLOSED_HOLD_EXPIRY (R96). -/
  | closedHoldExpiry (line : LineId)
  /-- BREAK_TIMER_EXPIRY (R97). -/
  | breakTimerExpiry (line : LineId)
  /-- MAKE_TIMER_EXPIRY (R100). -/
  | makeTimerExpiry (line : LineId)
  /-- INTERDIGIT_TIMER_EXPIRY (R102). -/
  | interdigitTimerExpiry (line : LineId)
  /-- PERMANENT_SIGNAL_EXPIRY (R134). -/
  | permanentSignalExpiry (line : LineId)
  /-- REVERT_HOLD_EXPIRY (R151). -/
  | revertHoldExpiry (line : LineId)
  /-- TEST_TICK (R115). -/
  | testTick
  /-- ORIGIN_ID_COMPLETE (R125, R126): the readings the job made of TIP and of RING. -/
  | originIdComplete (tip ring : Reading)
  /-- ANSWER_SIDE_COMPLETE (R127, R155), with the same operands. -/
  | answerSideComplete (tip ring : Reading)
  /-- TEST_COMPLETE (R120), with the same operands. -/
  | testComplete (tip ring : Reading)
  /-- SOURCE_GOOD_CHANGE (R33): the bus and its input's new value. -/
  | sourceGoodChange (bus : Bus) (good : Bool)
  /-- BUS_FAULT (R49). -/
  | busFault (bus : Bus)
  /-- BUS_RECOVERY (R51). -/
  | busRecovery (bus : Bus)
  deriving DecidableEq, Repr

end Sys2Proof
end

