-- ==== Sys2Proof/Decode.lean ====
section
/-! DEFINITION. The command a frame's kind and payload spell (R173, R180), and its encoder. opcode_table.json gives
its rows no bits, so `decodeTableWord` spells none. -/

namespace Sys2Proof

/-- Why a good frame is not handed to a block (R173, steps 1 and 2). -/
inductive FrameError
  | unknownKind
  | badLength
  deriving DecidableEq, Repr

/-- A two-byte field, sent low byte first (R180). -/
def dbyte (lo hi : Byte) : DByte := hi ++ lo

/-- The low byte of a two-byte field. -/
def DByte.lo (w : DByte) : Byte := w.setWidth 8

/-- The high byte of a two-byte field. -/
def DByte.hi (w : DByte) : Byte := (w >>> 8).setWidth 8

/-- The two bytes of a two-byte field, low byte first (R180). -/
def dbyteBytes (w : DByte) : List Byte := [DByte.lo w, DByte.hi w]

/-- A run of bytes as two-byte fields; none for an odd run. -/
def readDBytes : List Byte → Option (List DByte)
  | [] => some []
  | lo :: hi :: rest => (readDBytes rest).map (dbyte lo hi :: ·)
  | [_] => none

/-- A run of bytes as party records of four bytes each (R180). -/
def readPartyFields : List Byte → Option (List PartyField)
  | [] => some []
  | n :: s :: c :: k :: rest => (readPartyFields rest).map (⟨n, s, c, k⟩ :: ·)
  | _ => none

/-- A run of bytes as code bursts of two bytes each (R180). -/
def readBurstFields : List Byte → Option (List BurstField)
  | [] => some []
  | s :: n :: rest => (readBurstFields rest).map (⟨s, n⟩ :: ·)
  | [_] => none

/-- The kinds R173 lists. -/
def listedKinds : List Byte :=
  [0x01, 0x02, 0x03, 0x04, 0x10, 0x11, 0x12, 0x13, 0x14, 0x20, 0x21, 0x22, 0x30, 0x31, 0x32, 0x33, 0x34]

/-- The payload of a kind whose only field is one byte. -/
def oneField (make : Byte → Instr) : List Byte → Except FrameError Instr
  | [x] => .ok (make x)
  | _ => .error .badLength

/-- POLL and RESTART carry no payload. -/
def noField (i : Instr) : List Byte → Except FrameError Instr
  | [] => .ok i
  | _ => .error .badLength

/-- SET_PARAMETERS: mask, then thirteen values, 28 bytes in all. -/
def readParameters (payload : List Byte) : Except FrameError Instr :=
  match readDBytes payload with
  | some (mask :: values) =>
    if h : values.length = 13 then .ok (.setParameters mask ⟨values.toArray, h⟩) else .error .badLength
  | _ => .error .badLength

/-- CONFIGURE_LINE: five bytes, then 0 to 8 party records. -/
def readConfigureLine : List Byte → Except FrameError Instr
  | line :: tip :: ring :: mode :: count :: rest =>
    match readPartyFields rest with
    | some ps => if ps.length ≤ 8 then .ok (.configureLine line tip ring mode count ps) else .error .badLength
    | none => .error .badLength
  | _ => .error .badLength

/-- SET_CODE: the code, then any whole number of bursts (R173, step 2). -/
def readSetCode : List Byte → Except FrameError Instr
  | code :: rest =>
    match readBurstFields rest with
    | some bs => .ok (.setCode code bs)
    | none => .error .badLength
  | _ => .error .badLength

/-- SET_BUS: bus, budget. -/
def readSetBus : List Byte → Except FrameError Instr
  | [bus, budget] => .ok (.setBus bus budget)
  | _ => .error .badLength

/-- RING: line, party, cycles. -/
def readRing : List Byte → Except FrameError Instr
  | [line, party, cycles] => .ok (.ring line party cycles)
  | _ => .error .badLength

/-- REVERT: line, called party, caller party, recall. -/
def readRevert : List Byte → Except FrameError Instr
  | [line, called, caller, r] => .ok (.revert line called caller r)
  | _ => .error .badLength

/-- The command of a good frame addressed to the station, from its kind and payload (R173). -/
def decodeCommand (kind : Byte) (payload : List Byte) : Except FrameError Instr :=
  if kind = 0x01 then noField .poll payload
  else if kind = 0x02 then noField (.restart false) payload
  else if kind = 0x03 then readParameters payload
  else if kind = 0x04 then oneField .setReports payload
  else if kind = 0x10 then readConfigureLine payload
  else if kind = 0x11 then oneField .block payload
  else if kind = 0x12 then oneField .unblock payload
  else if kind = 0x13 then oneField .readLine payload
  else if kind = 0x14 then oneField .testLine payload
  else if kind = 0x20 then readSetCode payload
  else if kind = 0x21 then readSetBus payload
  else if kind = 0x22 then oneField .readSchedule payload
  else if kind = 0x30 then readRing payload
  else if kind = 0x31 then oneField .cancel payload
  else if kind = 0x32 then oneField .connect payload
  else if kind = 0x33 then oneField .release payload
  else if kind = 0x34 then readRevert payload
  else .error .unknownKind

/-- The kind and payload of a command's frame, as the line processor sends it (R173, R180); none for an event, and
for a broadcast RESTART, whose frame has another address. -/
def encodeCommand : Instr → Option (Byte × List Byte)
  | .poll => some (0x01, [])
  | .restart false => some (0x02, [])
  | .setParameters mask values => some (0x03, dbyteBytes mask ++ values.toList.flatMap dbyteBytes)
  | .setReports e => some (0x04, [e])
  | .configureLine l t r m n ps =>
    some (0x10, [l, t, r, m, n] ++ ps.flatMap fun p => [p.number, p.side, p.code, p.cls])
  | .block l => some (0x11, [l])
  | .unblock l => some (0x12, [l])
  | .readLine l => some (0x13, [l])
  | .testLine l => some (0x14, [l])
  | .setCode c bs => some (0x20, c :: bs.flatMap fun b => [b.start, b.length])
  | .setBus b n => some (0x21, [b, n])
  | .readSchedule b => some (0x22, [b])
  | .ring l p n => some (0x30, [l, p, n])
  | .cancel l => some (0x31, [l])
  | .connect l => some (0x32, [l])
  | .release l => some (0x33, [l])
  | .revert l d r x => some (0x34, [l, d, r, x])
  | .unknownKind k p => some (k, p)
  | .restart true | .powerOn .. | .linkCharacter .. | .gapTimerExpiry | .turnaroundExpiry | .replyEnd
  | .slotBoundary .. | .assignmentExpiry .. | .armExpiry .. | .ringEnd .. | .quenchEnd .. | .tripSample ..
  | .verifyTimerExpiry .. | .loopSample .. | .closedHoldExpiry .. | .breakTimerExpiry .. | .makeTimerExpiry ..
  | .interdigitTimerExpiry .. | .permanentSignalExpiry .. | .revertHoldExpiry .. | .testTick | .originIdComplete ..
  | .answerSideComplete .. | .testComplete .. | .sourceGoodChange .. | .busFault .. | .busRecovery .. => none

/-- The command a table word spells: opcode_table.json gives no row any bits, so none. -/
def decodeTableWord (_nbits _w : Nat) : Option Instr := none

end Sys2Proof
end

