-- ==== Sys2Proof/Machine/State.lean ====
section
/-! DEFINITION. The controller's state, block by block, as plain data, and its power-on values. -/

namespace Sys2Proof.Machine

/-- A wire of the loop (R2). -/
inductive Side
  | tip | ring
  deriving DecidableEq, Repr

/-- What is held once for each side of a line. -/
structure PerSide (α : Type) where
  tip : α
  ring : α
  deriving DecidableEq, Repr

/-! ### Code table (02) -/

/-- A burst: its start and length in slots of a half (R21). -/
structure Burst where
  start : Nat
  length : Nat
  deriving DecidableEq, Repr

/-- A code's pattern, its bursts in order of start (R22). -/
abbrev Pattern := List Burst

/-! ### Line table (01) -/

/-- A party record (R2): the identification class is 0 to 3. -/
structure Party where
  number : PartyNo
  side : Side
  code : CodeId
  cls : Fin 4
  deriving DecidableEq, Repr

/-- How digits are reported (R4). -/
inductive DialMode
  | each | firstThenBlock | block
  deriving DecidableEq, Repr

/-- The ten call states (R5). -/
inductive CallState
  | unequipped | blocked | idle | originating | connected | ringing | parked | revertHold | revertRinging | revertCheck
  deriving DecidableEq, Repr

/-- The grade of a line (R6). -/
inductive Condition
  | normal | degraded | faulted
  deriving DecidableEq, Repr

/-- The reasons against a line (R6). -/
structure Reasons where
  leak : Bool
  tripMargin : Bool
  deriving DecidableEq, Repr

/-- The latched conditions of a line (R8). -/
structure Latches where
  noise : PerSide Bool
  lineCondition : Bool
  deriving DecidableEq, Repr

/-- The line record of the line table (R1). -/
structure LineRecord where
  parties : List Party
  loads : PerSide Nat
  dialMode : DialMode
  blockCount : Nat
  callState : CallState
  condition : Condition
  reasons : Reasons
  earlyPickups : Nat
  latched : Latches
  deriving DecidableEq, Repr

/-! ### Ring planner (03) -/

/-- PLAIN for a terminating ring, REVERT for a reverting one (R34). -/
inductive AssignmentKind
  | plain | revert
  deriving DecidableEq, Repr

/-- One code rung on one side, at the side's load (R25). -/
structure Stroke where
  side : Side
  code : CodeId
  load : Nat
  deriving DecidableEq, Repr

/-- Where an assignment stands (R34). A waiting one's position is its place in the waiting list. -/
inductive Placement
  | placed (bus : Bus) (offset : Slot) (order : Nat)
  | waiting
  deriving DecidableEq, Repr

/-- The assignment record of a line being rung (R34). -/
structure Assignment where
  kind : AssignmentKind
  stroke0 : Stroke
  stroke1 : Option Stroke
  placement : Placement
  cyclesLeft : Nat
  skipped : Bool
  createdOrder : Nat
  waited : Nat
  deriving DecidableEq, Repr

/-- The status of a bus (R31). -/
inductive BusStatus
  | good | faulted
  deriving DecidableEq, Repr

/-- A bus record (R31), its source-good input and the filter's timing of a drop or a return (R33). -/
structure BusRecord where
  status : BusStatus
  budget : Nat
  loads : Vector Nat 24
  stateLatch : Bool
  sourceGood : Bool
  filterTimer : Timer
  deriving DecidableEq, Repr

/-! ### Burst sequencer (04) -/

/-- The stage of a line's ringing relays (R57). -/
inductive RelayPhase
  | silent | arm | ring | quench
  deriving DecidableEq, Repr

/-- How the QUENCH in progress was reached (R57). -/
inductive QuenchKind
  | normal | early
  deriving DecidableEq, Repr

/-- The sequencer's record of a line (R57). The timer is the 20 ms of ARM or the 30 ms of QUENCH (R62, R63). -/
structure RelayRecord where
  phase : RelayPhase
  bus : Option Bus
  side : Option Side
  lastSlot : Option Slot
  quenchKind : Option QuenchKind
  quiet : Bool
  timer : Timer
  deriving DecidableEq, Repr

/-! ### Trip detector (05) -/

/-- The side record (R72): baseline in cmA, margin and threshold in dmA. -/
structure SideRecord where
  baseline : Nat
  margin : Nat
  threshold : Nat
  pinned : Bool
  deriving DecidableEq, Repr

/-- The detector's stage on a line (R77). -/
inductive DetectorMode
  | idle | watch | window | verify
  deriving DecidableEq, Repr

/-- Why a verify is pending or running (R77). -/
inductive VerifyCause
  | unresolved | openAtEnd
  deriving DecidableEq, Repr

/-- The detector's record of a line (R77). `verifyRunning` is also the verify timer of 100 ms (R85): it runs
exactly while the field is yes. -/
structure DetectorRecord where
  mode : DetectorMode
  side : Option Side
  run : Nat
  windowLength : Nat
  sampleSum : Nat
  sampleCount : Nat
  verifyCause : Option VerifyCause
  verifyRunning : Bool
  deriving DecidableEq, Repr

/-! ### Loop scanner and dial reception (06) -/

/-- The scanner's record of a line (R93, R94). `breakTimer` holds the length in ms that the break has reached;
`lastSample` is the sample before the present one while reacquiring (R95). -/
structure ScannerRecord where
  closed : Bool
  filterCount : Nat
  reacquiring : Bool
  reacquireCount : Nat
  lastSample : Bool
  closedHold : Timer
  breakTimer : Option Nat
  makeTimer : Timer
  deriving DecidableEq, Repr

/-- Whether digits are being taken (R99). -/
inductive Collection
  | off | opened | done
  deriving DecidableEq, Repr

/-- The dialling errors since the queue was last served or emptied (R99). -/
structure DialErrors where
  tooManyPulses : Bool
  badBreak : Bool
  digitOverrun : Bool
  deriving DecidableEq, Repr

/-- The dial reception record of a line (R99). -/
structure DialRecord where
  collection : Collection
  pulseCount : Nat
  received : Nat
  interdigit : Timer
  digits : List Nat
  errors : DialErrors
  complete : Bool
  originationReported : Bool
  markerOwed : Bool
  deriving DecidableEq, Repr

/-! ### Call control (08, 09) -/

/-- Call control's record of a line: the ordinary call (R130) and the reverting call (R147). -/
structure CallRecord where
  ringingParty : Option PartyNo
  originationPending : Bool
  permanentSignal : Timer
  called : Option PartyNo
  caller : Option PartyNo
  recallOn : Bool
  revertHold : Timer
  deriving DecidableEq, Repr

/-! ### A line, as all blocks hold it -/

/-- Everything the blocks hold for one line. `leaks` are the measurement unit's leak values in µS (R120). -/
structure Line where
  record : LineRecord
  asg : Option Assignment
  relay : RelayRecord
  sides : PerSide SideRecord
  det : DetectorRecord
  scan : ScannerRecord
  dial : DialRecord
  call : CallRecord
  leaks : PerSide Nat
  deriving DecidableEq, Repr

/-! ### Measurement unit (07) -/

/-- The four kinds of job (R110). -/
inductive JobKind
  | originId | answerSide | hostTest | insulation
  deriving DecidableEq, Repr

/-- An entry of the job list (R111). -/
structure JobEntry where
  line : LineId
  kind : JobKind
  arrival : Nat
  deriving DecidableEq, Repr

/-- The job on the measuring head, with its job timer in ms (R119). `number` is the model's own (log entry 17): the
job's place in the count of jobs started, by which a completion names the one job whose timer brings it (R114). -/
structure RunningJob where
  line : LineId
  kind : JobKind
  timer : Nat
  number : Nat
  deriving DecidableEq, Repr

/-- The measurement unit but for the leak values (R110 to R118). `startCount` is the model's own (log entry 17): how many
jobs have been started, from which each takes its number. -/
structure MeasurementUnit where
  jobs : List JobEntry
  running : Option RunningJob
  arrivalCount : Nat
  startCount : Nat
  backlog : Nat
  mustRun : Bool
  pointer : LineId
  tickTimer : Nat
  deriving DecidableEq, Repr

/-! ### Parameters (R175) -/

/-- The thirteen parameters, in the order of R175. -/
structure Params where
  confirm : Nat
  window : Nat
  marginDefault : Nat
  tmin : Nat
  tmax : Nat
  bias : Nat
  ringCycles : Nat
  interdigitS : Nat
  permanentSignalS : Nat
  revertHoldS : Nat
  testTickS : Nat
  degradeLimit : Nat
  faultLimit : Nat
  deriving DecidableEq, Repr

/-! ### Report queue (11) -/

/-- Why an origination is not identified (R126, R131, R133). -/
inductive Unidentified
  | outOfBand | bothSides | noMatch | lineFault | abandoned
  deriving DecidableEq, Repr

/-- The result of an identification (R126). -/
inductive IdResult
  | identified (party : PartyNo)
  | candidates (parties : List PartyNo)
  | unidentified (reason : Unidentified)
  deriving DecidableEq, Repr

/-- Who or what answered (R139, R155). -/
inductive AnswerSource
  | trip | silence | called | sharedSide | unknown
  deriving DecidableEq, Repr

/-- Why a reverting call was given up (R151, R156). -/
inductive AbandonReason
  | holdTimeout | earlyLimit
  deriving DecidableEq, Repr

/-- An entry of the report queue (R178, R180). The DIGITS marker names only its line. The absent values of a
report are `none`; an aborted TEST_RESULT has none. -/
inductive Report
  | originate (line : LineId) (result : IdResult) (gc : Option (PerSide Nat))
  | digits (line : LineId)
  | answer (line : LineId) (side : Option Side) (source : AnswerSource) (party : Option PartyNo)
  | noAnswer (line : LineId) (party : Option PartyNo)
  | clear (line : LineId) (state : CallState)
  | flash (line : LineId)
  | parked (line : LineId)
  | revertEarly (line : LineId) (count : Nat)
  | revertAbandon (line : LineId) (reason : AbandonReason)
  | tripNoise (line : LineId) (side : Side) (margin threshold : Nat)
  | lineCondition (line : LineId) (condition : Condition) (reasons : Reasons) (leaks : PerSide Nat)
  | testResult (line : LineId) (result : Option (PerSide Nat))
  | busState (bus : Bus) (status : BusStatus)
  | restarted
  deriving DecidableEq, Repr

/-- The report enables (R176). -/
structure Enables where
  tripNoise : Bool
  lineCondition : Bool
  busState : Bool
  deriving DecidableEq, Repr

/-- The report queue, its flag and its enables (R176, R178). -/
structure ReportQueue where
  queue : List Report
  lost : Bool
  enables : Enables
  deriving DecidableEq, Repr

/-! ### Link interface (10) -/

/-- A frame without its check (R164). -/
structure Frame where
  address : Byte
  kind : Byte
  payload : List Byte
  deriving DecidableEq, Repr

/-- What the receiver is doing (R166). -/
inductive ReceiverMode
  | hunt | assemble
  deriving DecidableEq, Repr

/-- The character a frame expects next (R166).
DESIGN CHOICE (log entry 3): the record's table names ADDRESS among the values; a frame in ASSEMBLE has had its address
and never expects one, so ADDRESS is no value here and the field reads `kind` in HUNT. -/
inductive FramePosition
  | kind | length | payload | checkLow | checkHigh
  deriving DecidableEq, Repr

/-- The receiver (R166). The payload count is the length of `payload`. -/
structure Receiver where
  mode : ReceiverMode
  broadcast : Bool
  next : FramePosition
  address : Byte
  kind : Byte
  length : Nat
  payload : List Byte
  checkLow : Byte
  gapTimer : Timer
  deriving DecidableEq, Repr

/-- Whether a reply is in hand (R169). -/
inductive ReplyState
  | idle | pending | sending
  deriving DecidableEq, Repr

/-- The link error latches (R171). -/
structure LinkLatches where
  framing : Bool
  gap : Bool
  length : Bool
  check : Bool
  overrun : Bool
  deriving DecidableEq, Repr

/-- The link interface: the strap values read at power-on (R162, R163), the receiver, the reply and the latches. -/
structure Link where
  address : BitVec 5
  rate : BitVec 2
  receiver : Receiver
  replyState : ReplyState
  reply : Option Frame
  turnaround : Timer
  latches : LinkLatches
  deriving DecidableEq, Repr

/-! ### The controller -/

/-- The controller's state. `pending` is the model's own queue of commands and events not yet taken. -/
structure State where
  lines : Vector Line 16
  codes : Vector Pattern 8
  slot : Slot
  busA : BusRecord
  busB : BusRecord
  waiting : List LineId
  createdCount : Nat
  placedCount : Nat
  msu : MeasurementUnit
  params : Params
  link : Link
  reports : ReportQueue
  pending : List Instr
  deriving DecidableEq, Repr

/-- The manual describes no fault that stops the controller, so no step answers one. -/
inductive Fault
  deriving DecidableEq, Repr

/-- Why a step is refused. -/
inductive Refusal
  /-- A row of the table that has no meaning yet; raised only by an arm of `exec`. Safe: the machine stops. -/
  | notModelled (mnemonic : String)
  deriving DecidableEq, Repr

/-! ### Power-on values -/

/-- The line record at power-on (R17). -/
def LineRecord.powerOn : LineRecord where
  parties := []
  loads := ⟨0, 0⟩
  dialMode := .each
  blockCount := 7
  callState := .unequipped
  condition := .normal
  reasons := ⟨false, false⟩
  earlyPickups := 0
  latched := ⟨⟨false, false⟩, false⟩

/-- The sequencer's record at power-on (R70). -/
def RelayRecord.powerOn : RelayRecord where
  phase := .silent
  bus := none
  side := none
  lastSlot := none
  quenchKind := none
  quiet := true
  timer := none

/-- A side record at power-on (R90). -/
def SideRecord.powerOn : SideRecord where
  baseline := 0
  margin := 60
  threshold := 60
  pinned := false

/-- The detector's record at power-on (R90). -/
def DetectorRecord.powerOn : DetectorRecord where
  mode := .idle
  side := none
  run := 0
  windowLength := 0
  sampleSum := 0
  sampleCount := 0
  verifyCause := none
  verifyRunning := false

/-- The scanner's record at power-on (R108). `lastSample` has no value there: DESIGN CHOICE open (log entry 3). -/
def ScannerRecord.powerOn : ScannerRecord where
  closed := false
  filterCount := 0
  reacquiring := false
  reacquireCount := 0
  lastSample := false
  closedHold := none
  breakTimer := none
  makeTimer := none

/-- The dial reception record at power-on (R108). -/
def DialRecord.powerOn : DialRecord where
  collection := .off
  pulseCount := 0
  received := 0
  interdigit := none
  digits := []
  errors := ⟨false, false, false⟩
  complete := false
  originationReported := false
  markerOwed := false

/-- Call control's record at power-on (R146, R160). -/
def CallRecord.powerOn : CallRecord where
  ringingParty := none
  originationPending := false
  permanentSignal := none
  called := none
  caller := none
  recallOn := false
  revertHold := none

/-- A line at power-on. -/
def Line.powerOn : Line where
  record := .powerOn
  asg := none
  relay := .powerOn
  sides := ⟨.powerOn, .powerOn⟩
  det := .powerOn
  scan := .powerOn
  dial := .powerOn
  call := .powerOn
  leaks := ⟨0, 0⟩

/-- The code table at power-on (R24). -/
def defaultCodes : Vector Pattern 8 :=
  #v[[⟨0, 8⟩], [⟨0, 2⟩, ⟨4, 2⟩], [⟨0, 6⟩, ⟨8, 2⟩], [⟨0, 2⟩, ⟨4, 6⟩], [⟨0, 2⟩, ⟨3, 2⟩, ⟨6, 2⟩], [], [], []]

/-- A bus at power-on (R33, R55): its status is set directly from its input. -/
def BusRecord.powerOn (sourceGood : Bool) : BusRecord where
  status := if sourceGood then .good else .faulted
  budget := 40
  loads := Vector.replicate 24 0
  stateLatch := false
  sourceGood := sourceGood
  filterTimer := none

/-- The parameters at power-on (R175). -/
def Params.powerOn : Params where
  confirm := 3
  window := 12
  marginDefault := 60
  tmin := 40
  tmax := 140
  bias := 48
  ringCycles := 20
  interdigitS := 4
  permanentSignalS := 40
  revertHoldS := 30
  testTickS := 10
  degradeLimit := 20
  faultLimit := 100

/-- The measurement unit at power-on (R128). -/
def MeasurementUnit.powerOn : MeasurementUnit where
  jobs := []
  running := none
  arrivalCount := 0
  startCount := 0
  backlog := 0
  mustRun := false
  pointer := 0
  tickTimer := 10000

/-- The receiver at power-on (R172), which is also the receiver when it has returned to HUNT. -/
def Receiver.hunting : Receiver where
  mode := .hunt
  broadcast := false
  next := .kind
  address := 0
  kind := 0
  length := 0
  payload := []
  checkLow := 0
  gapTimer := none

/-- The link at power-on (R172). -/
def Link.powerOn (address : BitVec 5) (rate : BitVec 2) : Link where
  address := address
  rate := rate
  receiver := .hunting
  replyState := .idle
  reply := none
  turnaround := none
  latches := ⟨false, false, false, false, false⟩

/-- The report queue at power-on (R176, R178). -/
def ReportQueue.powerOn : ReportQueue where
  queue := []
  lost := false
  enables := ⟨true, true, true⟩

/-- The controller after power-on, with the straps and the source-good inputs as they stand at power-on
(R17, R20, R24, R55, R70, R90, R108, R128, R146, R160, R172, R178). -/
def State.powerOn (address : BitVec 5) (rate : BitVec 2) (goodA goodB : Bool) : State where
  lines := Vector.replicate 16 Line.powerOn
  codes := defaultCodes
  slot := 0
  busA := .powerOn goodA
  busB := .powerOn goodB
  waiting := []
  createdCount := 0
  placedCount := 0
  msu := .powerOn
  params := .powerOn
  link := .powerOn address rate
  reports := .powerOn
  pending := []

/-- The machine right after reset: power-on. DESIGN CHOICE (log entry 1): strap address 1, both rate straps open
(1200 bit/s), both generators good; the spec gives these pins no value of their own. -/
def State.reset : State := State.powerOn 1 0 true true

end Sys2Proof.Machine
end

