-- ==== Sys2Proof/Machine/Flags.lean ====
section
/-! DEFINITION. The bit-packed bytes of R180: the status byte, reasons, latched conditions, enables, error flags. -/

namespace Sys2Proof.Machine

/-- A byte with bit `i` set for each flag `i` that is set, bit 0 the first. -/
def flagByte : List Bool → Byte
  | [] => 0
  | b :: bs => (if b then 1 else 0) ||| (flagByte bs <<< 1)

/-- The status byte (R174, R180): bit 0 reports waiting, bit 1 reports lost, bits 2 to 6 the link error latches
FRAMING, GAP, LENGTH, CHECK and OVERRUN. -/
def statusByte (waiting lost : Bool) (x : LinkLatches) : Byte :=
  flagByte [waiting, lost, x.framing, x.gap, x.length, x.check, x.overrun]

/-- The reasons: bit 0 LEAK, bit 1 TRIP_MARGIN (R180). -/
def reasonsByte (r : Reasons) : Byte := flagByte [r.leak, r.tripMargin]

/-- The latched conditions: bit 0 TRIP_NOISE on TIP, bit 1 TRIP_NOISE on RING, bit 2 LINE_CONDITION (R180). -/
def latchesByte (x : Latches) : Byte := flagByte [x.noise.tip, x.noise.ring, x.lineCondition]

/-- The report enables: bit 0 TRIP_NOISE, bit 1 LINE_CONDITION, bit 2 BUS_STATE (R180). -/
def enablesByte (e : Enables) : Byte := flagByte [e.tripNoise, e.lineCondition, e.busState]

/-- The enables a SET_REPORTS byte carries; its other bits are ignored (R176). -/
def readEnables (b : Byte) : Enables := ⟨b.getLsbD 0, b.getLsbD 1, b.getLsbD 2⟩

/-- The flags byte of a DIGITS report: bit 0 TOO_MANY_PULSES, bit 1 BAD_BREAK, bit 2 DIGIT_OVERRUN, bit 3 complete
(R180). -/
def digitFlagsByte (d : DialRecord) : Byte :=
  flagByte [d.errors.tooManyPulses, d.errors.badBreak, d.errors.digitOverrun, d.complete]

/-- The candidates of an ORIGINATE report: bit k − 1 set for party k (R180). -/
def candidatesByte (ps : List PartyNo) : Byte :=
  ps.foldl (fun b p => b ||| (1 <<< p.val : Byte)) 0

/-- No latch set. -/
def LinkLatches.clear : LinkLatches := ⟨false, false, false, false, false⟩

/-- No condition latched. -/
def Latches.clear : Latches := ⟨⟨false, false⟩, false⟩

end Sys2Proof.Machine
end

