-- ==== Sys2Proof/Machine/Operands.lean ====
section
/-! DEFINITION. The operand bytes of commands and the field bytes of replies and reports (R180), and a frame's check
(R165). -/

namespace Sys2Proof.Machine

/-! ### Sides and buses -/

/-- The item of one side. -/
def PerSide.get {α : Type} (x : PerSide α) : Side → α
  | .tip => x.tip
  | .ring => x.ring

/-- The pair with the item of one side changed. -/
def PerSide.modify {α : Type} (x : PerSide α) (f : α → α) : Side → PerSide α
  | .tip => ⟨f x.tip, x.ring⟩
  | .ring => ⟨x.tip, f x.ring⟩

/-- The other bus. -/
def otherBus : Bus → Bus
  | .a => .b
  | .b => .a

/-! ### Reading operand bytes -/

/-- A line number, 0 to 15. -/
def readLineId (b : Byte) : Option LineId := if h : b.toNat < 16 then some ⟨b.toNat, h⟩ else none

/-- A number 1 to 8: a party or a code. -/
def readNumber (b : Byte) : Option (Fin 8) :=
  if h : 1 ≤ b.toNat ∧ b.toNat ≤ 8 then some ⟨b.toNat - 1, by omega⟩ else none

/-- Side: 0 TIP, 1 RING. -/
def readSide (b : Byte) : Option Side := if b = 0 then some .tip else if b = 1 then some .ring else none

/-- Bus: 0 A, 1 B. -/
def readBus (b : Byte) : Option Bus := if b = 0 then some .a else if b = 1 then some .b else none

/-- Recall: 0 off, 1 on. -/
def readRecall (b : Byte) : Option Bool := if b = 0 then some false else if b = 1 then some true else none

/-- Dial mode: 0 EACH, 1 FIRST_THEN_BLOCK, 2 BLOCK. -/
def readDialMode (b : Byte) : Option DialMode :=
  if b = 0 then some .each else if b = 1 then some .firstThenBlock else if b = 2 then some .block else none

/-- Identification class, 0 to 3. -/
def readClass (b : Byte) : Option (Fin 4) := if h : b.toNat < 4 then some ⟨b.toNat, h⟩ else none

/-- A party record, when every field is in its range (R9, check 3). -/
def readParty (p : PartyField) : Option Party :=
  match readNumber p.number, readSide p.side, readNumber p.code, readClass p.cls with
  | some n, some s, some c, some k => some ⟨n, s, c, k⟩
  | _, _, _, _ => none

/-- All of a list's party records, when every field of each is in its range. -/
def readParties : List PartyField → Option (List Party)
  | [] => some []
  | p :: ps =>
    match readParty p, readParties ps with
    | some q, some qs => some (q :: qs)
    | _, _ => none

/-- The bursts as SET_CODE carries them. -/
def readBursts (bs : List BurstField) : Pattern := bs.map fun b => ⟨b.start.toNat, b.length.toNat⟩

/-! ### Field codes -/

/-- A number as a one-byte field. -/
def byteOf (n : Nat) : Byte := BitVec.ofNat 8 n

/-- A number as a two-byte field, low byte first. -/
def wordBytes (n : Nat) : List Byte := dbyteBytes (BitVec.ofNat 16 n)

/-- A line's byte. -/
def lineByte (l : LineId) : Byte := byteOf l.val

/-- The byte of a party or a code: its number, 1 to 8. -/
def numberByte (n : Fin 8) : Byte := byteOf (n.val + 1)

/-- The byte of a report's party (a report of a ringing or reverting call always has one; log entry 8). -/
def partyByte : Option PartyNo → Byte
  | some p => numberByte p
  | none => 0

/-- Side: 0 TIP, 1 RING. -/
def Side.byte : Side → Byte
  | .tip => 0
  | .ring => 1

/-- Bus: 0 A, 1 B. -/
def busByte : Bus → Byte
  | .a => 0
  | .b => 1

/-- A bus, or 0xFF when none. -/
def busOrNone : Option Bus → Byte
  | some bus => busByte bus
  | none => 0xFF

/-- Bus status: 0 GOOD, 1 FAULTED. -/
def BusStatus.byte : BusStatus → Byte
  | .good => 0
  | .faulted => 1

/-- Condition: 0 NORMAL, 1 DEGRADED, 2 FAULTED. -/
def Condition.byte : Condition → Byte
  | .normal => 0
  | .degraded => 1
  | .faulted => 2

/-- Call state, 0 to 9 in the order of R180. -/
def CallState.byte : CallState → Byte
  | .unequipped => 0
  | .blocked => 1
  | .idle => 2
  | .originating => 3
  | .connected => 4
  | .ringing => 5
  | .parked => 6
  | .revertHold => 7
  | .revertRinging => 8
  | .revertCheck => 9

/-- Relay phase: 0 SILENT, 1 ARM, 2 RING, 3 QUENCH. -/
def RelayPhase.byte : RelayPhase → Byte
  | .silent => 0
  | .arm => 1
  | .ring => 2
  | .quench => 3

/-- ANSWER source: 0 TRIP, 1 SILENCE, 2 CALLED, 3 SHARED_SIDE, 4 UNKNOWN. -/
def AnswerSource.byte : AnswerSource → Byte
  | .trip => 0
  | .silence => 1
  | .called => 2
  | .sharedSide => 3
  | .unknown => 4

/-- UNIDENTIFIED reason: 0 OUT_OF_BAND, 1 BOTH_SIDES, 2 NO_MATCH, 3 LINE_FAULT, 4 ABANDONED. -/
def Unidentified.byte : Unidentified → Byte
  | .outOfBand => 0
  | .bothSides => 1
  | .noMatch => 2
  | .lineFault => 3
  | .abandoned => 4

/-- REVERT_ABANDON reason: 0 HOLD_TIMEOUT, 1 EARLY_LIMIT. -/
def AbandonReason.byte : AbandonReason → Byte
  | .holdTimeout => 0
  | .earlyLimit => 1

/-- The result and detail of an ORIGINATE report. -/
def IdResult.bytes : IdResult → List Byte
  | .identified p => [0, numberByte p]
  | .candidates ps => [1, candidatesByte ps]
  | .unidentified r => [2, r.byte]

/-- Two conductances of two bytes each, TIP first; each 0xFFFF when absent. -/
def gcBytes : Option (PerSide Nat) → List Byte
  | some g => wordBytes g.tip ++ wordBytes g.ring
  | none => [0xFF, 0xFF, 0xFF, 0xFF]

/-- Digits two to a byte, the earlier in the low four bits, an odd last digit alone. -/
def packDigits : List Nat → List Byte
  | [] => []
  | [d] => [byteOf d]
  | d :: e :: rest => byteOf (d + 16 * e) :: packDigits rest

/-- A report entry's bytes (R180). A DIGITS entry is built from the line's dial reception record (R104). -/
def reportBytes (dial : LineId → DialRecord) : Report → List Byte
  | .originate l r g => [0x01, lineByte l] ++ r.bytes ++ gcBytes g
  | .digits l =>
    [0x02, lineByte l, digitFlagsByte (dial l), byteOf (dial l).digits.length] ++ packDigits (dial l).digits
  | .answer l sd src p => [0x03, lineByte l, (sd.map Side.byte).getD 0xFF, src.byte, partyByte p]
  | .noAnswer l p => [0x04, lineByte l, partyByte p]
  | .clear l c => [0x05, lineByte l, c.byte]
  | .flash l => [0x06, lineByte l]
  | .parked l => [0x07, lineByte l]
  | .revertEarly l n => [0x08, lineByte l, byteOf n]
  | .revertAbandon l r => [0x09, lineByte l, r.byte]
  | .tripNoise l sd m t => [0x0A, lineByte l, sd.byte, byteOf m, byteOf t]
  | .lineCondition l c r g => [0x0B, lineByte l, c.byte, reasonsByte r] ++ wordBytes g.tip ++ wordBytes g.ring
  | .testResult l (some g) => [0x0C, lineByte l, 0] ++ wordBytes g.tip ++ wordBytes g.ring
  | .testResult l none => [0x0C, lineByte l, 1, 0, 0, 0, 0]
  | .busState bus st => [0x0D, busByte bus, st.byte]
  | .restarted => [0x0E]

/-- The size of a report entry (R180): a DIGITS entry's from the digits its line's queue holds (R179). -/
def reportSize (dial : LineId → DialRecord) : Report → Nat
  | .originate .. => 8
  | .digits l => 4 + ((dial l).digits.length + 1) / 2
  | .answer .. => 5
  | .noAnswer .. => 3
  | .clear .. => 3
  | .flash _ => 2
  | .parked _ => 2
  | .revertEarly .. => 3
  | .revertAbandon .. => 3
  | .tripNoise .. => 5
  | .lineCondition .. => 8
  | .testResult .. => 7
  | .busState .. => 3
  | .restarted => 1

/-! ### Results -/

/-- The result codes of a reply (R173). -/
inductive ResultCode
  | ok | unknownKind | badLength | badField | lineState | lineFault | notConfigured | codeInUse | overBudget
  | duplicateSignature | sameParty
  deriving DecidableEq, Repr

/-- The byte of a result code (R173). -/
def ResultCode.byte : ResultCode → Byte
  | .ok => 0
  | .unknownKind => 1
  | .badLength => 2
  | .badField => 3
  | .lineState => 4
  | .lineFault => 5
  | .notConfigured => 6
  | .codeInUse => 7
  | .overBudget => 8
  | .duplicateSignature => 9
  | .sameParty => 10

/-! ### Bits on the pair -/

/-- The rate in bit/s that the two rate straps select, RATE1 in bit 1 and closed 1 (R162). -/
def bitRate (straps : BitVec 2) : Nat :=
  match straps.getLsbD 1, straps.getLsbD 0 with
  | false, false => 1200
  | false, true => 2400
  | true, false => 4800
  | true, true => 9600

/-- How long a number of bit times lasts at the rate the link read at power-on, in tenths of a microsecond, to the
nearest: 11 for a character, 22 for the turnaround, 33 for the gap limit (R162, R167, R169). -/
def Link.duration (k : Link) (bits : Nat) : Nat := (bits * 10000000 + bitRate k.rate / 2) / bitRate k.rate

/-- A character's eleven bits in the order they are sent: the start bit 0, nine data bits least significant first, the
stop bit (R162). -/
def charBits (c : LinkChar) : List Bool := false :: ((List.range 9).map c.data.getLsbD ++ [c.stop])

/-- The value of bits given least significant first. -/
def valueOf (bits : List Bool) : Nat := bits.foldr (fun b n => b.toNat + 2 * n) 0

/-- The receiver's reading of the pair, one level a bit time (R162): the pair rests at 1 until the falling edge of a start
bit, then nine data bits and last the stop bit are read. With the character come the levels after it, from the next
rest on where the stop bit read 0. None while no whole character has come. -/
def readCharacter (levels : List Bool) : Option (LinkChar × List Bool) :=
  match levels.dropWhile id with
  | _ :: bits =>
    match bits.drop 9 with
    | stop :: rest =>
      some (⟨stop, BitVec.ofNat 9 (valueOf (bits.take 9))⟩, if stop then rest else rest.dropWhile fun b => !b)
    | [] => none
  | [] => none

/-! ### The check of a frame -/

/-- The polynomial's terms below x^16 with their order reversed (R165). -/
def checkPolynomial : DByte := 0xA6BC

/-- One bit into the check register (R165). -/
def checkBit (reg : DByte) (bit : Bool) : DByte :=
  if bit != reg.getLsbD 0 then (reg >>> 1) ^^^ checkPolynomial else reg >>> 1

/-- One byte into the check register, its bits least significant first (R165). -/
def checkByte (reg : DByte) (b : Byte) : DByte :=
  (List.range 8).foldl (fun r i => checkBit r (b.getLsbD i)) reg

/-- The check of the covered bytes: the remainder with every bit inverted (R165). -/
def frameCheck (covered : List Byte) : DByte := ~~~(covered.foldl checkByte 0)

/-- The bytes of a frame its check covers: address, kind, length and payload (R165). -/
def Frame.covered (f : Frame) : List Byte := [f.address, f.kind, byteOf f.payload.length] ++ f.payload

/-- A well-framed address character. -/
def addressChar (b : Byte) : LinkChar := ⟨true, (1 : BitVec 1) ++ b⟩

/-- A well-framed data character. -/
def dataChar (b : Byte) : LinkChar := ⟨true, (0 : BitVec 1) ++ b⟩

/-- A frame's characters in the order of R164. -/
def Frame.characters (f : Frame) : List LinkChar :=
  addressChar f.address ::
    ([f.kind, byteOf f.payload.length] ++ f.payload ++ dbyteBytes (frameCheck f.covered)).map dataChar

/-- The byte of a character: its eight low data bits (R162). -/
def charByte (c : LinkChar) : Byte := c.data.setWidth 8

/-- Whether the ninth data bit is 1 (R162). -/
def charIsAddress (c : LinkChar) : Bool := c.data.getLsbD 8

end Sys2Proof.Machine
end

