-- ==== Sys2Proof/Machine/Ops.lean ====
section
/-! DEFINITION. The operations every block shares: reading and writing a line, the report queue, a line's condition,
call states, the detector and scanner at a change of relay phase, early QUENCH, jobs and the arbiter. -/

namespace Sys2Proof.Machine

/-! ### Reading and writing -/

/-- A vector from a function of its index. -/
def tabulate {α : Type} {n : Nat} (f : Fin n → α) : Vector α n := ⟨⟨List.ofFn f⟩, by simp⟩

/-- The sixteen lines in ascending order. -/
def allLines : List LineId := List.ofFn id

/-- What is held for a line. -/
def State.line (s : State) (l : LineId) : Line := s.lines.get l

/-- The state with one line changed. -/
def State.modLine (s : State) (l : LineId) (f : Line → Line) : State :=
  { s with lines := s.lines.set l.val (f (s.line l)) l.isLt }

/-- The state with every line changed. -/
def State.mapLines (s : State) (f : Line → Line) : State :=
  { s with lines := tabulate fun l => f (s.line l) }

/-- A bus's record. -/
def State.bus (s : State) : Bus → BusRecord
  | .a => s.busA
  | .b => s.busB

/-- The state with one bus record changed. -/
def State.modBus (s : State) (bus : Bus) (f : BusRecord → BusRecord) : State :=
  match bus with
  | .a => { s with busA := f s.busA }
  | .b => { s with busB := f s.busB }

/-- The pattern of a code. -/
def State.pattern (s : State) (c : CodeId) : Pattern := s.codes.get c

def State.modRecord (s : State) (l : LineId) (f : LineRecord → LineRecord) : State :=
  s.modLine l fun x => { x with record := f x.record }
def State.modRelay (s : State) (l : LineId) (f : RelayRecord → RelayRecord) : State :=
  s.modLine l fun x => { x with relay := f x.relay }
def State.modDet (s : State) (l : LineId) (f : DetectorRecord → DetectorRecord) : State :=
  s.modLine l fun x => { x with det := f x.det }
def State.modScan (s : State) (l : LineId) (f : ScannerRecord → ScannerRecord) : State :=
  s.modLine l fun x => { x with scan := f x.scan }
def State.modDial (s : State) (l : LineId) (f : DialRecord → DialRecord) : State :=
  s.modLine l fun x => { x with dial := f x.dial }
def State.modCall (s : State) (l : LineId) (f : CallRecord → CallRecord) : State :=
  s.modLine l fun x => { x with call := f x.call }
def State.setAsg (s : State) (l : LineId) (a : Option Assignment) : State :=
  s.modLine l fun x => { x with asg := a }

/-- Whether a line is equipped: its party table is not empty (R1). -/
def State.equipped (s : State) (l : LineId) : Bool := !(s.line l).record.parties.isEmpty

/-- A line's call state. -/
def State.callState (s : State) (l : LineId) : CallState := (s.line l).record.callState

/-- A line's dial reception record. -/
def State.dialOf (s : State) (l : LineId) : DialRecord := (s.line l).dial

/-! ### Lists in order -/

/-- Insertion into a list in ascending order of a key, behind equal keys. -/
def insertBy {α : Type} (key : α → Nat) (x : α) : List α → List α
  | [] => [x]
  | y :: ys => if key x < key y then x :: y :: ys else y :: insertBy key x ys

/-- A list in ascending order of a key. -/
def sortBy {α : Type} (key : α → Nat) (xs : List α) : List α := xs.foldl (fun acc x => insertBy key x acc) []

/-! ### The report queue (11) -/

/-- A report falls due: it enters at the tail, or is lost on a full queue (R178). -/
def State.queueReport (s : State) (r : Report) : State :=
  if s.reports.queue.length < Config.queueMax then
    { s with reports := { s.reports with queue := s.reports.queue ++ [r] } }
  else { s with reports := { s.reports with lost := true } }

/-- Whether a DIGITS marker of the line is in the report queue. -/
def State.markerPending (s : State) (l : LineId) : Bool := s.reports.queue.contains (.digits l)

/-- A line's DIGITS marker is removed from the report queue; the entries behind it keep their order (R106, R178). -/
def State.removeMarker (s : State) (l : LineId) : State :=
  { s with reports := { s.reports with queue := s.reports.queue.filter (· ≠ .digits l) } }

/-! ### Condition and thresholds (01, 05) -/

/-- A change of condition or reasons is reported (R7): on an equipped line by a LINE_CONDITION report when those are
enabled, otherwise by the latch. -/
def reportCondition (l : LineId) (s : State) : State :=
  let x := s.line l
  if x.record.callState ≠ .unequipped ∧ s.reports.enables.lineCondition then
    s.queueReport (.lineCondition l x.record.condition x.record.reasons x.leaks)
  else s.modRecord l fun r => { r with latched := { r.latched with lineCondition := true } }

/-- The report of R7, due when the line's condition or reasons differ from those it held `before`. -/
def reportIfChanged (l : LineId) (before : State) (s : State) : State :=
  let r := (s.line l).record
  let r0 := (before.line l).record
  if r.condition ≠ r0.condition ∨ r.reasons ≠ r0.reasons then reportCondition l s else s

/-- The threshold computation of one side (R73). -/
def computeThreshold (p : Params) (x : SideRecord) : SideRecord :=
  let t := (x.baseline + 9) / 10 + x.margin
  if t < p.tmin then { x with threshold := p.tmin, pinned := false }
  else if t ≤ p.tmax then { x with threshold := t, pinned := false }
  else { x with threshold := p.tmax, pinned := true }

/-- TRIP_MARGIN is brought into agreement with the two sides (R6, R73). -/
def agreeTripMargin (x : Line) : Line :=
  let pinned := x.sides.tip.pinned || x.sides.ring.pinned
  let r := x.record
  if pinned = r.reasons.tripMargin then x
  else if pinned then
    { x with record := { r with reasons := { r.reasons with tripMargin := true }
                                condition := if r.condition = .normal then .degraded else r.condition } }
  else
    { x with record := { r with reasons := { r.reasons with tripMargin := false }
                                condition := if r.condition = .degraded ∧ !r.reasons.leak then .normal
                                  else r.condition } }

/-- A change of one side's baseline or margin, its threshold computed again, and TRIP_MARGIN with it (R73, R74). -/
def updateSide (p : Params) (sd : Side) (f : SideRecord → SideRecord) (x : Line) : Line :=
  agreeTripMargin { x with sides := x.sides.modify (fun y => computeThreshold p (f y)) sd }

/-- A change of both sides, their thresholds computed again, and TRIP_MARGIN once after both (R74). -/
def updateSides (p : Params) (tip ring : SideRecord → SideRecord) (x : Line) : Line :=
  agreeTripMargin { x with sides := ⟨computeThreshold p (tip x.sides.tip), computeThreshold p (ring x.sides.ring)⟩ }

/-! ### Call states (01, 06) -/

/-- Whether a line is blind to the scanner: its relay phase is not SILENT (R92). -/
def Line.blind (x : Line) : Bool := x.relay.phase ≠ .silent

/-- A line enters a call state. On entry to IDLE, RINGING or REVERT_RINGING with its debounced state closed, not
blind or reacquiring, and the closed-hold timer not running, the timer starts (R96). -/
def Line.enter (st : CallState) (x : Line) : Line :=
  let x := { x with record := { x.record with callState := st } }
  if (st = .idle ∨ st = .ringing ∨ st = .revertRinging) ∧ x.scan.closed ∧ !x.blind ∧ !x.scan.reacquiring
      ∧ x.scan.closedHold = none then
    { x with scan := { x.scan with closedHold := some Config.closedHoldMs } }
  else x

/-- The state with a line entering a call state. -/
def State.setCallState (s : State) (l : LineId) (st : CallState) : State := s.modLine l (Line.enter st)

/-- IDLE if the held debounced loop state is open, PARKED if it is closed (R11, R15, R18, R136). -/
def idleOrParked (x : Line) : CallState := if x.scan.closed then .parked else .idle

/-! ### The trip detector at the sequencer's notices (05) -/

/-- Why a burst is cut short (R64 to R68, R71). -/
inductive CutCause
  | trip | unresolved | removal | busFault | budget | restart
  deriving DecidableEq, Repr

/-- RING has begun on a side (R78). -/
def DetectorRecord.ringBegins (side : Option Side) (d : DetectorRecord) : DetectorRecord :=
  { d with mode := .watch, side := side, run := 0, windowLength := 0, sampleSum := 0, sampleCount := 0
           verifyCause := none, verifyRunning := false }

/-- RING was cut short (R84): for TRIP and UNRESOLVED nothing further; for every other cause the burst is dropped. -/
def DetectorRecord.cutShort (cause : CutCause) (d : DetectorRecord) : DetectorRecord :=
  match cause with
  | .trip | .unresolved => d
  | .removal | .busFault | .budget | .restart =>
    { d with mode := .idle, run := 0, windowLength := 0, sampleSum := 0, sampleCount := 0 }

/-- The silent interval has begun (R85): a pending verify begins. -/
def DetectorRecord.silentBegins (d : DetectorRecord) : DetectorRecord :=
  if d.mode = .verify then { d with verifyRunning := true } else d

/-- A verify ends or is dropped (R85, R87). -/
def DetectorRecord.endVerify (d : DetectorRecord) : DetectorRecord :=
  { d with mode := .idle, verifyCause := none, verifyRunning := false }

/-- A pending or running verify is dropped (R87). -/
def DetectorRecord.dropVerify (d : DetectorRecord) : DetectorRecord :=
  if d.mode = .verify then d.endVerify else d

/-! ### Relay phases (04) and the scanner at their changes (06) -/

/-- The relay record in QUENCH: the drives are removed, the bus, side and last slot held (R57, R63). -/
def RelayRecord.quench (kind : QuenchKind) (r : RelayRecord) : RelayRecord :=
  { r with phase := .quench, quenchKind := some kind, timer := some Config.quenchMs }

/-- Early QUENCH by relay phase (R64). From ARM the detector is told nothing. -/
def Line.earlyQuench (cause : CutCause) (x : Line) : Line :=
  match x.relay.phase with
  | .arm => { x with relay := x.relay.quench .early }
  | .ring => { x with relay := x.relay.quench .early, det := x.det.cutShort cause }
  | .quench | .silent => x

/-- The state with early QUENCH forced on a line. -/
def State.earlyQuench (s : State) (l : LineId) (cause : CutCause) : State := s.modLine l (Line.earlyQuench cause)

/-- The scanner stops sampling at ARM (R95). -/
def ScannerRecord.stopForArm (c : ScannerRecord) : ScannerRecord :=
  { c with filterCount := 0, reacquireCount := 0, reacquiring := false, closedHold := none, breakTimer := none
           makeTimer := none }

/-- The scanner resumes sampling of an equipped line and reacquires it (R95). -/
def ScannerRecord.resume (c : ScannerRecord) : ScannerRecord :=
  { c with reacquiring := true, reacquireCount := 0, filterCount := 0 }

/-- A QUENCH ends (R63): SILENT, and the scanner (of an equipped line, R92) and the detector are told. -/
def Line.endQuench (x : Line) : Line :=
  { x with
    relay := { x.relay with phase := .silent, bus := none, side := none, lastSlot := none, quenchKind := none
                            timer := none }
    scan := if x.record.parties.isEmpty then x.scan else x.scan.resume
    det := x.det.silentBegins }

/-- The bus to which the bus-select relay is driven: in ARM and RING the burst's, otherwise none (R58). -/
def RelayRecord.busSelect (r : RelayRecord) : Option Bus :=
  match r.phase with
  | .arm | .ring => r.bus
  | .silent | .quench => none

/-- Whether a side's ringing relay is driven (R58). -/
def RelayRecord.ringingRelay (r : RelayRecord) (sd : Side) : Bool :=
  match r.phase with
  | .arm | .ring => r.side = some sd
  | .silent | .quench => false

/-- Whether the feed switch is closed: in RING and in no other phase (R58). -/
def RelayRecord.feedClosed (r : RelayRecord) : Bool := r.phase = .ring

/-! ### Measurement jobs (07) -/

/-- How long a job takes, in ms (R110). -/
def jobMs : JobKind → Nat
  | .originId => 120
  | .answerSide => 80
  | .hostTest => 300
  | .insulation => 300

/-- A job joins the list with the next arrival number (R111). -/
def State.requestJob (s : State) (l : LineId) (k : JobKind) : State :=
  { s with msu := { s.msu with jobs := s.msu.jobs ++ [⟨l, k, s.msu.arrivalCount⟩]
                               arrivalCount := s.msu.arrivalCount + 1 } }

/-- The line's jobs, waiting or running, leave the unit; a running one frees the head. -/
def MeasurementUnit.dropJobs (l : LineId) (m : MeasurementUnit) : MeasurementUnit :=
  { m with jobs := m.jobs.filter (·.line ≠ l)
           running := m.running.filter (·.line ≠ l) }

/-- Whether the line has a HOST_TEST entry, waiting or running. -/
def State.hasHostTest (s : State) (l : LineId) : Bool :=
  s.msu.jobs.any fun j => j.line = l && j.kind = .hostTest

/-- The line's jobs are aborted (R113): an aborted HOST_TEST queues TEST_RESULT with status ABORTED. -/
def State.abortJobs (s : State) (l : LineId) : State :=
  let t := { s with msu := s.msu.dropJobs l }
  if s.hasHostTest l then t.queueReport (.testResult l none) else t

/-- The urgency of an insulation job (R116). -/
inductive Urgency
  | must | need | may
  deriving DecidableEq, Repr

/-- The urgency the backlog and the MUST-run flag give (R116); none with an empty backlog. -/
def MeasurementUnit.urgency (m : MeasurementUnit) : Option Urgency :=
  if m.backlog = 0 then none
  else if m.mustRun then some .must
  else if m.backlog ≤ 3 then some .may
  else some .need

/-- Whether a line is eligible for insulation (R112). -/
def State.insulationEligible (s : State) (l : LineId) : Bool :=
  s.callState l = .idle && !(s.msu.jobs.any fun j => j.line = l) && (s.line l).relay.phase = .silent

/-- The line the rotating pointer's search finds (R118). -/
def State.insulationLine (s : State) : Option LineId :=
  ((List.range 16).map fun i => s.msu.pointer + Fin.ofNat 16 i).find? s.insulationEligible

/-- The entry of a kind with the lowest arrival number among those whose line is SILENT (R112, R117). -/
def State.firstEntry (s : State) (k : JobKind) : Option JobEntry :=
  (sortBy JobEntry.arrival s.msu.jobs).find? fun j => j.kind = k && (s.line j.line).relay.phase = .silent

/-- An entry of the job list as the arbiter's choice. -/
def State.entryChoice (s : State) (k : JobKind) : Option (LineId × JobKind) :=
  (s.firstEntry k).map fun j => (j.line, k)

/-- The insulation job as the arbiter's choice, when its urgency is the one asked and a line is eligible. -/
def State.insulationChoice (s : State) (u : Urgency) : Option (LineId × JobKind) :=
  if s.msu.urgency = some u then s.insulationLine.map fun l => (l, .insulation) else none

/-- The highest-ranked runnable job, ranks 1 to 6 (R117). -/
def State.chooseJob (s : State) : Option (LineId × JobKind) :=
  (s.entryChoice .originId).or ((s.insulationChoice .must).or ((s.entryChoice .answerSide).or
    ((s.insulationChoice .need).or ((s.entryChoice .hostTest).or (s.insulationChoice .may)))))

/-- A job takes the head with the next number (R117, R119); an insulation job sets the pointer to the line after its own
(R118). -/
def MeasurementUnit.start (l : LineId) (k : JobKind) (m : MeasurementUnit) : MeasurementUnit :=
  { m with running := some ⟨l, k, jobMs k, m.startCount⟩
           startCount := m.startCount + 1
           pointer := if k = .insulation then l + 1 else m.pointer }

/-- With the head free, the arbiter starts the highest-ranked runnable job (R117). -/
def State.arbitrate (s : State) : State :=
  match s.msu.running with
  | some _ => s
  | none =>
    match s.chooseJob with
    | some (l, k) => { s with msu := s.msu.start l k }
    | none => s

/-! ### Replies (10, 11) -/

/-- What a block gives back for a command: the state it leaves, the result and the reply fields (R173). -/
structure Answer where
  state : State
  result : ResultCode
  fields : List Byte

/-- A refusal: the state as it was, no fields (R173). -/
def refuse (r : ResultCode) (s : State) : Answer := ⟨s, r, []⟩

/-- A controller strapped 0 or 31 listens only (R163). -/
def State.listensOnly (s : State) : Bool := s.link.address = 0 || s.link.address = 31

/-- The status byte of a reply built now (R174). -/
def State.statusByte (s : State) : Byte :=
  Machine.statusByte (!s.reports.queue.isEmpty) s.reports.lost s.link.latches

/-- The reply frame of a kind, with its result, status byte and fields, addressed to 0 (R164, R173). -/
def replyFrame (kind : Byte) (a : Answer) : Frame :=
  ⟨0, kind, [a.result.byte, a.state.statusByte] ++ a.fields⟩

/-- The reply is built and handed back to the link (R169, R171, R173, R174): the link error latches and the
reports-lost flag go into its status byte and are cleared, and the turnaround starts. A controller that listens only
builds no reply (R163). -/
def reply (kind : Byte) (a : Answer) : State :=
  if a.state.listensOnly then a.state
  else
    { a.state with
      link := { a.state.link with replyState := .pending, reply := some (replyFrame kind a)
                                  turnaround := some Config.turnaroundBits, latches := .clear }
      reports := { a.state.reports with lost := false } }

/-- The characters the controller drives on the pair: its reply's, in SENDING and at no other time (R169). -/
def State.driven (s : State) : List LinkChar :=
  match s.link.replyState, s.link.reply with
  | .sending, some f => f.characters
  | _, _ => []

/-- The bits the controller drives on the pair, back to back (R162, R169). -/
def State.drivenBits (s : State) : List Bool := s.driven.flatMap charBits

/-- The level of the pair a number of bit times after the controller began to drive it: its bits, and at rest 1
(R162). -/
def State.drivenLevel (s : State) (bit : Nat) : Bool := s.drivenBits.getD bit true

end Sys2Proof.Machine
end

