-- ==== Sys2Proof/Machine/Planner.lean ====
section
/-! DEFINITION. The ring planner's shared operations (02, 03): ringing slots, load maps, placement, the waiting list,
removal and displacement. -/

namespace Sys2Proof.Machine

/-- The twenty-four slots of the cycle in ascending order. -/
def allSlots : List Slot := List.ofFn id

/-! ### Ringing slots (02) -/

/-- Whether a burst rings in a slot of its half (R21). -/
def Burst.rings (b : Burst) (h : Nat) : Bool := b.start ≤ h && h < b.start + b.length

/-- Whether a pattern rings in a slot of its half (R22). -/
def ringsAt (p : Pattern) (h : Nat) : Bool := p.any fun b => b.rings h

/-- Where a slot of the cycle falls in an assignment placed at an offset (R26): 0 to 11 in stroke 0's half, 12 to 23
in stroke 1's. -/
def placeOf (offset g : Slot) : Nat := (g - offset).val

/-- The stroke of an assignment, placed at an offset, whose half holds a slot of the cycle, and the half slot (R26). -/
def strokeOver (a : Assignment) (offset g : Slot) : Option (Stroke × Nat) :=
  if placeOf offset g < 12 then some (a.stroke0, placeOf offset g)
  else a.stroke1.map fun k => (k, placeOf offset g - 12)

/-- The stroke of an assignment, placed at an offset, that rings in a slot of the cycle (R26). -/
def strokeAt (codes : CodeId → Pattern) (a : Assignment) (offset g : Slot) : Option Stroke :=
  match strokeOver a offset g with
  | some (k, h) => if ringsAt (codes k.code) h then some k else none
  | none => none

/-- The load an assignment, placed at an offset, brings to a slot of the cycle (R25, R32). -/
def loadAt (codes : CodeId → Pattern) (a : Assignment) (offset g : Slot) : Nat :=
  match strokeAt codes a offset g with
  | some k => k.load
  | none => 0

/-! ### Load maps (03) -/

/-- The peak of a bus: the greatest of its slot loads (R31). -/
def BusRecord.peak (r : BusRecord) : Nat := r.loads.toList.foldl max 0

/-- An assignment's loads are added to a bus (R36). -/
def State.addLoads (s : State) (a : Assignment) (bus : Bus) (offset : Slot) : State :=
  s.modBus bus fun r => { r with loads := tabulate fun g => r.loads.get g + loadAt s.pattern a offset g }

/-- An assignment's loads are subtracted from a bus (R32, R47). -/
def State.subtractLoads (s : State) (a : Assignment) (bus : Bus) (offset : Slot) : State :=
  s.modBus bus fun r => { r with loads := tabulate fun g => r.loads.get g - loadAt s.pattern a offset g }

/-- Whether an assignment fits a bus at an offset within the bus's budget (R36). -/
def State.fits (s : State) (a : Assignment) (bus : Bus) (offset : Slot) : Bool :=
  allSlots.all fun g => (s.bus bus).loads.get g + loadAt s.pattern a offset g ≤ (s.bus bus).budget

/-! ### Placement (03) -/

/-- The GOOD buses in the order a placement attempt tries them: the lower peak first, bus A on equal peaks (R36). -/
def State.busesToTry (s : State) : List Bus :=
  (if s.busB.peak < s.busA.peak then [.b, .a] else [.a, .b]).filter fun bus => (s.bus bus).status = .good

/-- The offsets in the order a placement attempt tries them: c + 1 to c + 24 (R36). -/
def State.offsetsToTry (s : State) : List Slot :=
  (List.range 24).map fun i => s.slot + 1 + Fin.ofNat 24 i

/-- A placement attempt's result: the first offset and bus at which the assignment fits (R36). -/
def State.search (s : State) (a : Assignment) : Option (Slot × Bus) :=
  s.offsetsToTry.findSome? fun o => (s.busesToTry.find? fun bus => s.fits a bus o).map fun bus => (o, bus)

/-- An assignment is placed (R36): its loads are added, it takes the next placed-order number and it is off the
waiting list. -/
def State.place (s : State) (l : LineId) (a : Assignment) (bus : Bus) (offset : Slot) : State :=
  { (s.addLoads a bus offset).setAsg l (some { a with placement := .placed bus offset s.placedCount }) with
    placedCount := s.placedCount + 1
    waiting := s.waiting.filter (· ≠ l) }

/-- The created-order number of a line's assignment. -/
def State.createdOf (s : State) (l : LineId) : Nat :=
  match (s.line l).asg with
  | some a => a.createdOrder
  | none => 0

/-- An assignment joins the waiting list at the position its created-order number gives it, with waited boundaries 0
(R41, R43). -/
def State.joinWaiting (s : State) (l : LineId) (a : Assignment) : State :=
  let t := s.setAsg l (some { a with placement := .waiting, waited := 0 })
  { t with waiting := insertBy t.createdOf l s.waiting }

/-- The record of a new assignment (R34, R39). -/
def newAssignment (kind : AssignmentKind) (stroke0 : Stroke) (stroke1 : Option Stroke) (cycles order : Nat) :
    Assignment where
  kind := kind
  stroke0 := stroke0
  stroke1 := stroke1
  placement := .waiting
  cyclesLeft := cycles
  skipped := false
  createdOrder := order
  waited := 0

/-- An assignment is created: it takes the next created-order number, makes a placement attempt at once, and joins
the waiting list if the attempt fails (R39, R40). -/
def State.createAssignment (s : State) (l : LineId) (kind : AssignmentKind) (stroke0 : Stroke)
    (stroke1 : Option Stroke) (cycles : Nat) : State :=
  let a := newAssignment kind stroke0 stroke1 cycles s.createdCount
  let t := { s with createdCount := s.createdCount + 1 }
  match t.search a with
  | some (o, bus) => t.place l a bus o
  | none => t.joinWaiting l a

/-- The impossibility check: a bus could carry strokes of this largest load when its budget is at least that, whatever
its status and slot loads (R39, R148). -/
def State.couldCarry (s : State) (load : Nat) : Bool := load ≤ s.busA.budget || load ≤ s.busB.budget

/-- The walk of the waiting list (R42, R43): an aged entry that fails ends it. -/
def walk : List LineId → State → State
  | [], s => s
  | l :: ls, s =>
    match (s.line l).asg with
    | none => walk ls s
    | some a =>
      match s.search a with
      | some (o, bus) => walk ls (s.place l a bus o)
      | none => if 2 ≤ a.waited then s else walk ls s

/-- Each waiting assignment's waited boundaries increase by 1, saturating at 2 (R42). -/
def Assignment.age (a : Assignment) : Assignment :=
  match a.placement with
  | .waiting => { a with waited := min 2 (a.waited + 1) }
  | .placed .. => a

/-- The timeout count of one assignment (R44). -/
def Assignment.countDown (a : Assignment) : Assignment :=
  if a.skipped then { a with cyclesLeft := a.cyclesLeft - 1 } else { a with skipped := true }

/-- A change of every assignment. -/
def State.mapAssignments (s : State) (f : Assignment → Assignment) : State :=
  s.mapLines fun x => { x with asg := x.asg.map f }

/-- Whether a line's assignment has come to the end of its count. -/
def Line.expired (x : Line) : Bool :=
  match x.asg with
  | some a => a.cyclesLeft = 0
  | none => false

/-- The lines whose assignments expire, in ascending order of created-order number (R45). -/
def State.expiredLines (s : State) : List LineId :=
  sortBy s.createdOf (allLines.filter fun l => (s.line l).expired)

/-! ### Removal and displacement (03) -/

/-- A line's assignment is removed (R47): off its bus with early QUENCH, or off the waiting list; a pending or running
verify of the line is dropped (R87). -/
def State.removeAssignment (s : State) (l : LineId) (cause : CutCause) : State :=
  match (s.line l).asg with
  | none => s
  | some a =>
    let t := match a.placement with
      | .placed bus offset _ => (s.subtractLoads a bus offset).earlyQuench l cause
      | .waiting => { s with waiting := s.waiting.filter (· ≠ l) }
    (t.setAsg l none).modDet l DetectorRecord.dropVerify

/-- The placed-order number of a line's assignment on a bus. -/
def Line.placedOrderOn (bus : Bus) (x : Line) : Option Nat :=
  match x.asg with
  | some a =>
    match a.placement with
    | .placed other _ order => if other = bus then some order else none
    | .waiting => none
  | none => none

/-- The lines whose assignments are placed on a bus, in ascending order of placed-order number. -/
def State.linesOn (s : State) (bus : Bus) : List LineId :=
  sortBy (fun l => ((s.line l).placedOrderOn bus).getD 0)
    (allLines.filter fun l => ((s.line l).placedOrderOn bus).isSome)

/-- A displaced assignment's loads leave its bus (R49, R53). -/
def State.unload (s : State) (l : LineId) : State :=
  match (s.line l).asg with
  | some a =>
    match a.placement with
    | .placed bus offset _ => s.subtractLoads a bus offset
    | .waiting => s
  | none => s

/-- A displaced assignment tries its own offset on the other bus, if that is GOOD, and otherwise joins the waiting
list (R49, R53). -/
def State.rehome (s : State) (l : LineId) : State :=
  match (s.line l).asg with
  | some a =>
    match a.placement with
    | .placed bus offset _ =>
      if (s.bus (otherBus bus)).status = .good ∧ s.fits a (otherBus bus) offset then
        s.place l a (otherBus bus) offset
      else s.joinWaiting l a
    | .waiting => s
  | none => s

/-- Assignments are taken off a bus, newest first, until its peak is within its budget; the lines taken off, in the
order they were (R53). -/
def shed (bus : Bus) : List LineId → State → List LineId × State
  | [], s => ([], s)
  | l :: ls, s =>
    if (s.bus bus).peak ≤ (s.bus bus).budget then ([], s)
    else
      let (off, t) := shed bus ls (s.unload l)
      (l :: off, t)

/-- A change of a bus's status is reported, or latched when BUS_STATE reports are disabled (R31). -/
def State.reportBus (s : State) (bus : Bus) : State :=
  if s.reports.enables.busState then s.queueReport (.busState bus (s.bus bus).status)
  else s.modBus bus fun r => { r with stateLatch := true }

/-- The bus is brought within a lowered budget (R53). -/
def State.shedBus (s : State) (bus : Bus) : State :=
  let (off, t) := shed bus (s.linesOn bus).reverse s
  let t := off.foldl (fun t l => t.earlyQuench l .budget) t
  off.reverse.foldl State.rehome t

/-- Every line in ARM or RING on the bus is put into QUENCH (R49, R68). -/
def State.quenchBus (s : State) (bus : Bus) : State :=
  allLines.foldl
    (fun t l => if (t.line l).relay.busSelect = some bus then t.earlyQuench l .busFault else t) s

/-- The assignments of a bus are displaced, in ascending order of placed-order number (R49). -/
def State.displaceBus (s : State) (bus : Bus) : State :=
  (s.linesOn bus).foldl State.rehome ((s.linesOn bus).foldl State.unload s)

end Sys2Proof.Machine
end

