-- ==== Sys2Proof/Machine/CallOps.lean ====
section
/-! DEFINITION. What call control, dial reception and the identification share (06, 07, 08, 09): markers, collections,
the exits from ORIGINATING, answers, expiry and the creation of a reverting ring. -/

namespace Sys2Proof.Machine

/-! ### DIGITS markers and collections (06) -/

/-- A reportable event of dial reception acts on the line's marker (R103). -/
def State.markerEvent (s : State) (l : LineId) : State :=
  if s.markerPending l then s
  else if (s.dialOf l).originationReported then s.queueReport (.digits l)
  else s.modDial l fun d => { d with markerOwed := true }

/-- The line's ORIGINATE report falls due (R132, R133); an owed marker is queued directly behind it (R103). -/
def State.originateDue (s : State) (l : LineId) (r : IdResult) (gc : Option (PerSide Nat)) : State :=
  let t := (s.queueReport (.originate l r gc)).modCall l fun c => { c with originationPending := false }
  let owed := (t.dialOf l).markerOwed
  let t := t.modDial l fun d => { d with originationReported := true, markerOwed := false }
  if owed then t.queueReport (.digits l) else t

/-- A collection ends: OFF, its train discarded and its timers stopped (R105). -/
def State.endCollection (s : State) (l : LineId) : State :=
  s.modLine l fun x =>
    { x with dial := { x.dial with collection := .off, pulseCount := 0, interdigit := none }
             scan := { x.scan with makeTimer := none } }

/-- A new collection opens on a return to ORIGINATING, without the emptying of R99 (R105). -/
def State.reopenCollection (s : State) (l : LineId) : State :=
  s.modDial l fun d => { d with collection := .opened, pulseCount := 0, received := 0 }

/-- The digit queue is emptied without being served (R106): the flags, complete, the marker and what is owed go with
it, and the collection ends. -/
def State.emptyDigits (s : State) (l : LineId) : State :=
  ((s.removeMarker l).endCollection l).modDial l fun d =>
    { d with digits := [], errors := ⟨false, false, false⟩, complete := false, markerOwed := false }

/-- A collection opens at the recognition of an origination (R99). -/
def State.openCollection (s : State) (l : LineId) : State :=
  ((s.emptyDigits l).modDial l fun d => { d with originationReported := false }).reopenCollection l

/-- The permanent-signal timer is started or restarted for the permanent-signal time in force (R130, R134). -/
def State.startPermanentSignal (s : State) (l : LineId) : State :=
  s.modCall l fun c => { c with permanentSignal := some (s.params.permanentSignalS * 1000) }

/-- The revert-hold timer is started or restarted for the revert-hold time in force (R147). -/
def State.startRevertHold (s : State) (l : LineId) : State :=
  s.modCall l fun c => { c with revertHold := some (s.params.revertHoldS * 1000) }

/-! ### Call control (08, 09) -/

/-- What every exit from ORIGINATING but BLOCK and RESTART does first: the ORIGIN_ID job is aborted, ORIGINATE
(ABANDONED) falls due if it is still owed, the permanent-signal timer stops and the collection ends (R133, R135). -/
def State.leaveOriginating (s : State) (l : LineId) : State :=
  let s := s.abortJobs l
  let s := if (s.line l).call.originationPending then s.originateDue l (.unidentified .abandoned) none else s
  (s.modCall l fun c => { c with permanentSignal := none }).endCollection l

/-- The called party, the caller and the recall setting are cleared (R147). -/
def State.clearRevert (s : State) (l : LineId) : State :=
  s.modCall l fun c => { c with called := none, caller := none, recallOn := false }

/-- A reverting call gives the line back to its caller: ORIGINATING with a new collection and the permanent-signal
timer started; no new origination begins (R151, R156, R158). -/
def State.returnToCaller (s : State) (l : LineId) : State :=
  ((((s.clearRevert l).modCall l fun c => { c with revertHold := none }).setCallState l
    .originating).reopenCollection l).startPermanentSignal l

/-- A party of a line. -/
def Line.party (x : Line) (n : PartyNo) : Option Party := x.record.parties.find? fun p => p.number = n

/-- The stroke of a party's signature, with the line's load for its side (R3, R25). -/
def Line.strokeOf (x : Line) (p : Party) : Stroke := ⟨p.side, p.code, x.record.loads.get p.side⟩

/-- The strokes of a reverting call (R152): the called party's, and with recall the caller's. -/
def Line.revertStrokes (x : Line) : Option (Stroke × Option Stroke) :=
  match x.call.called.bind x.party, x.call.recallOn, x.call.caller.bind x.party with
  | some d, false, _ => some (x.strokeOf d, none)
  | some d, true, some r => some (x.strokeOf d, some (x.strokeOf r))
  | _, _, _ => none

/-- The ringing of a reverting call begins (R150, R152, R157): a REVERT assignment is created, with cycles left from
the ring-cycles parameter (R40), and the line is REVERT_RINGING. -/
def State.beginReverting (s : State) (l : LineId) : State :=
  match (s.line l).revertStrokes with
  | some (k0, k1) => (s.createAssignment l .revert k0 k1 s.params.ringCycles).setCallState l .revertRinging
  | none => s

/-- An answer reaches call control (R139, R153). On a line in any other state it has no effect (R14). -/
def State.answer (s : State) (l : LineId) (source : AnswerSource) (side : Option Side) : State :=
  match s.callState l with
  | .ringing =>
    let t := (s.removeAssignment l .removal).setCallState l .connected
    (t.queueReport (.answer l side source (s.line l).call.ringingParty)).modCall l
      fun c => { c with ringingParty := none }
  | .revertRinging => ((s.removeAssignment l .removal).setCallState l .revertCheck).requestJob l .answerSide
  | _ => s

/-- A line's assignment expires (R45): it is removed, the line becomes IDLE and NO_ANSWER is queued, with the ringing
party (R140) or the called party (R154). -/
def State.expire (s : State) (l : LineId) : State :=
  match (s.line l).asg with
  | none => s
  | some a =>
    let t := (s.removeAssignment l .removal).setCallState l .idle
    match a.kind with
    | .plain =>
      (t.queueReport (.noAnswer l (s.line l).call.ringingParty)).modCall l fun c => { c with ringingParty := none }
    | .revert => (t.queueReport (.noAnswer l (s.line l).call.called)).clearRevert l

/-- A clear (R142, R143): IDLE, with a CLEAR report that names the state cleared from. -/
def State.clearLine (s : State) (l : LineId) (state : CallState) : State :=
  (s.setCallState l .idle).queueReport (.clear l state)

/-! ### Identification (07) -/

/-- A measured conductance above 2000 µS is recorded as 2000 µS (R110). -/
def recorded (tip ring : Nat) : PerSide Nat := ⟨min Config.conductanceMax tip, min Config.conductanceMax ring⟩

/-- The corrected conductances: the measured less the stored leak values, at least 0 (R125). -/
def corrected (measured leaks : PerSide Nat) : PerSide Nat :=
  ⟨measured.tip - leaks.tip, measured.ring - leaks.ring⟩

/-- The band of a corrected conductance (R125). -/
inductive Band
  | none | out | cls (c : Fin 4)
  deriving DecidableEq, Repr

/-- The bands of R125. -/
def bandOf (g : Nat) : Band :=
  if g ≤ 39 then .none
  else if g ≤ 69 then .out
  else if g ≤ 130 then .cls 3
  else if g ≤ 149 then .out
  else if g ≤ 260 then .cls 2
  else if g ≤ 299 then .out
  else if g ≤ 520 then .cls 1
  else .out

/-- The parties sought, mapped to the result (R126). -/
def mapParties (ps : List Party) : IdResult :=
  match ps with
  | [] => .unidentified .noMatch
  | [p] => .identified p.number
  | _ => .candidates (ps.map Party.number)

/-- The identification result of corrected conductances on a line's party table (R126). -/
def identify (parties : List Party) (gc : PerSide Nat) : IdResult :=
  match bandOf gc.tip, bandOf gc.ring with
  | .out, _ => .unidentified .outOfBand
  | _, .out => .unidentified .outOfBand
  | .cls _, .cls _ => .unidentified .bothSides
  | .cls c, .none => mapParties (parties.filter fun p => p.side = .tip ∧ p.cls = c)
  | .none, .cls c => mapParties (parties.filter fun p => p.side = .ring ∧ p.cls = c)
  | .none, .none => mapParties (parties.filter fun p => p.cls = 0)

/-- The side result of corrected conductances: a side, or none for UNKNOWN (R127). -/
def sideResult (gc : PerSide Nat) : Option Side :=
  match bandOf gc.tip, bandOf gc.ring with
  | .cls _, .none => some .tip
  | .none, .cls _ => some .ring
  | _, _ =>
    if 70 ≤ gc.tip ∧ gc.ring < 70 then some .tip
    else if gc.tip < 70 ∧ 70 ≤ gc.ring then some .ring
    else none

end Sys2Proof.Machine
end

