-- ==== Sys2Proof/Machine/Bursts.lean ====
section
/-! DEFINITION. The burst sequencer (04) and the slot boundary (R42): SLOT_BOUNDARY, ARM_EXPIRY, RING_END,
QUENCH_END. -/

namespace Sys2Proof.Machine

/-! ### The start of a burst -/

/-- What a burst is rung with: its bus, its side and the slot of its last ringing slot (R60). -/
structure BurstStart where
  bus : Bus
  side : Side
  lastSlot : Slot
  deriving DecidableEq, Repr

/-- The burst of an assignment that begins in slot g: the assignment is placed, rings in g and does not ring in the
slot before (R60, conditions 1 and 2). -/
def Assignment.burstAt (codes : CodeId → Pattern) (a : Assignment) (g : Slot) : Option BurstStart :=
  match a.placement with
  | .waiting => none
  | .placed bus offset _ =>
    match strokeOver a offset g, strokeAt codes a offset (g - 1) with
    | some (k, h), none =>
      ((codes k.code).find? fun b => b.rings h).map fun b => ⟨bus, k.side, g + Fin.ofNat 24 (b.length - 1)⟩
    | _, _ => none

/-- The burst that begins on a line at the boundary into slot g (R60): the line is SILENT, and was when the most
recent boundary was taken. -/
def Line.burstStart (codes : CodeId → Pattern) (g : Slot) (x : Line) : Option BurstStart :=
  if x.relay.phase = .silent ∧ x.relay.quiet then x.asg.bind fun a => a.burstAt codes g else none

/-- A burst begins (R60): ARM, with the burst's bus, side and last slot; the scanner stops sampling (R95). -/
def Line.arm (b : BurstStart) (x : Line) : Line :=
  { x with
    relay := { x.relay with phase := .arm, bus := some b.bus, side := some b.side, lastSlot := some b.lastSlot
                            timer := some Config.armMs }
    scan := x.scan.stopForArm }

/-- Whether a QUENCH ends at the boundary into slot g (R63): one of kind NORMAL, and an early one whose burst's last
slot the boundary leads out of. An early QUENCH that ends earlier has ended by its own expiry before the boundary. -/
def RelayRecord.quenchDue (g : Slot) (r : RelayRecord) : Bool :=
  r.phase = .quench && (r.quenchKind = some .normal || r.lastSlot = some (g - 1))

/-- A QUENCH that is due at the boundary ends as part of the response to it (R63). -/
def Line.endDueQuench (g : Slot) (x : Line) : Line := if x.relay.quenchDue g then x.endQuench else x

/-- A line at the boundary into slot g: a burst ends, a burst begins, and the quiet field is recorded (R60, R61, R63). -/
def Line.takeBoundary (codes : CodeId → Pattern) (g : Slot) (x : Line) : Line :=
  let x := x.endDueQuench g
  let x := match x.burstStart codes g with
    | some b => x.arm b
    | none => x
  { x with relay := { x.relay with quiet := x.relay.phase = .silent } }

/-- The burst sequencer takes the boundary into the current slot. -/
def State.sequencerBoundary (s : State) : State := s.mapLines (Line.takeBoundary s.pattern s.slot)

/-! ### The slot boundary -/

/-- The timeout count of a cycle boundary and the expiries it brings (R42, step 1; R44, R45). -/
def State.timeoutCount (s : State) : State :=
  let t := s.mapAssignments Assignment.countDown
  t.expiredLines.foldl State.expire t

/-- What the planner does at a cycle boundary before the walk's ageing. -/
def State.plannerCount (s : State) : State := if s.slot = 0 then s.timeoutCount else s

/-- The ageing of the waiting list at a cycle boundary (R42, step 2). -/
def State.plannerAge (s : State) : State := if s.slot = 0 then s.mapAssignments Assignment.age else s

/-- The walk of the waiting list at a boundary (R42, step 3). -/
def State.plannerWalk (s : State) : State := walk s.waiting s

/-- The slot counter advances, and the planner and the burst sequencer take the boundary (R19, R42, R60). The planner
makes its count and the sequencer its bursts in either order (R45); a placement made by the walk is made at this
boundary and not before it, so no burst begins from it here (R38). -/
def slotBoundaryStep (sequencerFirst : Bool) (s : State) : State :=
  let s := { s with slot := s.slot + 1 }
  let s := if sequencerFirst then s.sequencerBoundary.plannerCount else s.plannerCount.sequencerBoundary
  (s.plannerAge.plannerWalk).arbitrate

/-- SLOT_BOUNDARY (R19, R42). -/
def execSlotBoundary (sequencerFirst : Bool) (s : State) : Host.Outcome State Fault Refusal :=
  .next (slotBoundaryStep sequencerFirst s)

/-! ### The course of a burst -/

/-- ARM expires (R62): RING, and the detector is told the side. -/
def Line.beginRing (x : Line) : Line :=
  { x with relay := { x.relay with phase := .ring, timer := none }, det := x.det.ringBegins x.relay.side }

def armExpiryStep (l : LineId) (s : State) : State :=
  if (s.line l).relay.phase = .arm then s.modLine l Line.beginRing else s

/-- ARM_EXPIRY (R62, R78). -/
def execArmExpiry (l : LineId) (s : State) : Host.Outcome State Fault Refusal := .next (armExpiryStep l s)

/-- The baseline after a quiet burst (R88), from the burst's sample sum and count. -/
def baselineUpdate (sum count baseline : Nat) : Nat :=
  if count = 0 then baseline
  else ((baseline : Int) + ((10 * (sum / count) : Nat) - (baseline : Int)).tdiv 8).toNat

/-- The detector at the normal end of RING (R83): a quiet burst updates the recorded side's baseline, an open window
goes to verify. DESIGN CHOICE (log entry 3): the run and the window length stay as the window left them, since R83
discards the sample sum and count alone and says nothing of these two. -/
def Line.ringEnded (p : Params) (x : Line) : Line :=
  match x.det.mode with
  | .watch =>
    let y := match x.det.side with
      | some sd =>
        if x.det.sampleCount = 0 then x
        else updateSide p sd
          (fun r => { r with baseline := baselineUpdate x.det.sampleSum x.det.sampleCount r.baseline }) x
      | none => x
    { y with det := { y.det with mode := .idle } }
  | .window =>
    { x with det := { x.det with mode := .verify, verifyCause := some .openAtEnd, verifyRunning := false
                                 sampleSum := 0, sampleCount := 0 } }
  | .idle | .verify => x

/-- RING ends normally (R62): QUENCH of kind NORMAL, the detector told, and a change of TRIP_MARGIN reported. -/
def ringEnds (l : LineId) (s : State) : State :=
  reportIfChanged l s (s.modLine l fun x => Line.ringEnded s.params { x with relay := x.relay.quench .normal })

def ringEndStep (l : LineId) (s : State) : State :=
  if (s.line l).relay.phase = .ring ∧ (s.line l).relay.lastSlot = some s.slot then ringEnds l s else s

/-- RING_END (R62, R83, R88): taken in the burst's last slot. -/
def execRingEnd (l : LineId) (s : State) : Host.Outcome State Fault Refusal := .next (ringEndStep l s)

def quenchEndStep (l : LineId) (s : State) : State :=
  if (s.line l).relay.phase = .quench then (s.modLine l Line.endQuench).arbitrate else s

/-- QUENCH_END (R63). -/
def execQuenchEnd (l : LineId) (s : State) : Host.Outcome State Fault Refusal := .next (quenchEndStep l s)

end Sys2Proof.Machine
end

