-- ==== Sys2Proof/Machine/Calls.lean ====
section
/-! DEFINITION. Call control's commands and timers (08, 09): RING, CANCEL, CONNECT, RELEASE, REVERT,
PERMANENT_SIGNAL_EXPIRY, REVERT_HOLD_EXPIRY. -/

namespace Sys2Proof.Machine

/-! ### RING (R137, R138) -/

/-- The cycles left a RING's cycles field gives: 0 means the ring-cycles parameter, any other value is clamped to
1..60 (R39). -/
def ringCyclesOf (p : Params) (cycles : Byte) : Nat := if cycles = 0 then p.ringCycles else min 60 cycles.toNat

/-- RING accepted (R138): the line's test jobs are aborted, the ringing party set, the assignment created and the line
RINGING. -/
def ringAccepted (l : LineId) (p : Party) (cycles : Nat) (s : State) : State :=
  let s := s.abortJobs l
  let s := s.modCall l fun c => { c with ringingParty := some p.number }
  ((s.createAssignment l .plain ((s.line l).strokeOf p) none cycles).setCallState l .ringing).arbitrate

/-- The outcome of a placement as RING's reply carries it (R39, R180). -/
def placementFields (s : State) (l : LineId) : List Byte :=
  match (s.line l).asg with
  | some a =>
    match a.placement with
    | .placed bus offset _ => [0, busByte bus, byteOf offset.val]
    | .waiting => [1, 0xFF, byteOf (s.waiting.idxOf l + 1)]
  | none => []

/-- RING's checks in order (R137). -/
def ringAnswer (line party cycles : Byte) (s : State) : Answer :=
  match readLineId line with
  | none => refuse .badField s
  | some l =>
    if s.callState l ≠ .idle then refuse .lineState s
    else
      match readNumber party with
      | none => refuse .badField s
      | some n =>
        if (s.line l).record.condition = .faulted then refuse .lineFault s
        else
          match (s.line l).party n with
          | none => refuse .notConfigured s
          | some p =>
            if s.couldCarry ((s.line l).strokeOf p).load then
              let t := ringAccepted l p (ringCyclesOf s.params cycles) s
              ⟨t, .ok, placementFields t l⟩
            else refuse .overBudget s

def ringStep (line party cycles : Byte) (s : State) : State := reply 0xB0 (ringAnswer line party cycles s)

/-- RING (R137, R138). -/
def execRing (line party cycles : Byte) (s : State) : Host.Outcome State Fault Refusal :=
  .next (ringStep line party cycles s)

/-! ### CANCEL (R141, R154, R158) -/

/-- CANCEL's effect by call state; none where it is refused. -/
def cancelEffect (l : LineId) (s : State) : Option State :=
  match s.callState l with
  | .ringing =>
    some (((s.removeAssignment l .removal).modCall l fun c => { c with ringingParty := none }).setCallState l .idle)
  | .revertRinging => some (((s.removeAssignment l .removal).clearRevert l).setCallState l .idle)
  | .revertHold => some (s.returnToCaller l)
  | .revertCheck => some (((s.abortJobs l).clearRevert l).setCallState l .parked)
  | _ => none

def cancelAnswer (line : Byte) (s : State) : Answer :=
  match readLineId line with
  | none => refuse .badField s
  | some l =>
    match cancelEffect l s with
    | none => refuse .lineState s
    | some t => ⟨t.arbitrate, .ok, [(t.callState l).byte]⟩

def cancelStep (line : Byte) (s : State) : State := reply 0xB1 (cancelAnswer line s)

/-- CANCEL (R141, R154, R158). -/
def execCancel (line : Byte) (s : State) : Host.Outcome State Fault Refusal := .next (cancelStep line s)

/-! ### CONNECT and RELEASE (R135, R136) -/

/-- CONNECT accepted (R135). -/
def connectAccepted (l : LineId) (s : State) : State :=
  ((s.leaveOriginating l).setCallState l .connected).arbitrate

def connectAnswer (line : Byte) (s : State) : Answer :=
  match readLineId line with
  | none => refuse .badField s
  | some l =>
    if s.callState l = .originating then
      let t := connectAccepted l s
      ⟨t, .ok, [(t.callState l).byte]⟩
    else refuse .lineState s

def connectStep (line : Byte) (s : State) : State := reply 0xB2 (connectAnswer line s)

/-- CONNECT (R135). -/
def execConnect (line : Byte) (s : State) : Host.Outcome State Fault Refusal := .next (connectStep line s)

/-- RELEASE accepted (R136): PARKED if the loop is closed, IDLE if it is open. -/
def releaseAccepted (l : LineId) (s : State) : State :=
  let t := if s.callState l = .originating then s.leaveOriginating l else s
  (t.setCallState l (idleOrParked (t.line l))).arbitrate

def releaseAnswer (line : Byte) (s : State) : Answer :=
  match readLineId line with
  | none => refuse .badField s
  | some l =>
    if s.callState l = .originating ∨ s.callState l = .connected then
      let t := releaseAccepted l s
      ⟨t, .ok, [(t.callState l).byte]⟩
    else refuse .lineState s

def releaseStep (line : Byte) (s : State) : State := reply 0xB3 (releaseAnswer line s)

/-- RELEASE (R136). -/
def execRelease (line : Byte) (s : State) : Host.Outcome State Fault Refusal := .next (releaseStep line s)

/-! ### REVERT (R148, R149) -/

/-- REVERT accepted (R149). -/
def revertAccepted (l : LineId) (called caller : PartyNo) (recallOn : Bool) (s : State) : State :=
  let s := s.leaveOriginating l
  let s := s.modLine l fun x =>
    { x with call := { x.call with called := some called, caller := some caller, recallOn := recallOn }
             record := { x.record with earlyPickups := 0 } }
  ((s.startRevertHold l).setCallState l .revertHold).arbitrate

/-- The larger load of the strokes a reverting call will ring (R148). -/
def revertLoad (x : Line) (called caller : Party) (recallOn : Bool) : Nat :=
  if recallOn then max (x.strokeOf called).load (x.strokeOf caller).load else (x.strokeOf called).load

/-- REVERT's checks from the third on, over the fields as read (R148). -/
def checkRevert (s : State) (l : LineId) (called caller : PartyNo) (recallOn : Bool) : Option ResultCode :=
  if called = caller then some .sameParty
  else if (s.line l).record.condition = .faulted then some .lineFault
  else
    match (s.line l).party called, (s.line l).party caller with
    | some d, some r => if s.couldCarry (revertLoad (s.line l) d r recallOn) then none else some .overBudget
    | _, _ => some .notConfigured

def revertAnswer (line called caller recallByte : Byte) (s : State) : Answer :=
  match readLineId line with
  | none => refuse .badField s
  | some l =>
    if s.callState l ≠ .originating then refuse .lineState s
    else
      match readNumber called, readNumber caller, readRecall recallByte with
      | some d, some r, some x =>
        match checkRevert s l d r x with
        | some e => refuse e s
        | none =>
          let t := revertAccepted l d r x s
          ⟨t, .ok, [(t.callState l).byte]⟩
      | _, _, _ => refuse .badField s

def revertStep (line called caller recallByte : Byte) (s : State) : State :=
  reply 0xB4 (revertAnswer line called caller recallByte s)

/-- REVERT (R148, R149). -/
def execRevert (line called caller recallByte : Byte) (s : State) : Host.Outcome State Fault Refusal :=
  .next (revertStep line called caller recallByte s)

/-! ### Call control's timers -/

/-- The permanent-signal timer expires on a line in ORIGINATING (R134): ORIGINATE (ABANDONED) if still owed, the
digits emptied, PARKED with a PARKED report. -/
def permanentSignalTaken (l : LineId) (s : State) : State :=
  ((((s.leaveOriginating l).emptyDigits l).setCallState l .parked).queueReport (.parked l)).arbitrate

def permanentSignalExpiryStep (l : LineId) (s : State) : State :=
  if s.callState l = .originating ∧ (s.line l).call.permanentSignal ≠ none then permanentSignalTaken l s else s

/-- PERMANENT_SIGNAL_EXPIRY (R134). -/
def execPermanentSignalExpiry (l : LineId) (s : State) : Host.Outcome State Fault Refusal :=
  .next (permanentSignalExpiryStep l s)

/-- The revert-hold timer expires on a line in REVERT_HOLD (R151). -/
def revertHoldTaken (l : LineId) (s : State) : State :=
  (s.returnToCaller l).queueReport (.revertAbandon l .holdTimeout)

def revertHoldExpiryStep (l : LineId) (s : State) : State :=
  if s.callState l = .revertHold ∧ (s.line l).call.revertHold ≠ none then revertHoldTaken l s else s

/-- REVERT_HOLD_EXPIRY (R151). -/
def execRevertHoldExpiry (l : LineId) (s : State) : Host.Outcome State Fault Refusal :=
  .next (revertHoldExpiryStep l s)

end Sys2Proof.Machine
end

