-- ==== Sys2Proof/Machine/CodeTable.lean ====
section
/-! DEFINITION. The code table's command (02): SET_CODE. -/

namespace Sys2Proof.Machine

/-- Whether a burst is valid (R21). -/
def Burst.valid (b : Burst) : Bool := b.start ≤ 10 && 1 ≤ b.length && b.length ≤ 11 && b.start + b.length ≤ 11

/-- Whether each burst after the first starts at least one slot after the end of the one before (R22). -/
def spaced : Pattern → Bool
  | x :: y :: rest => x.start + x.length + 1 ≤ y.start && spaced (y :: rest)
  | _ => true

/-- Whether a pattern is valid (R22). -/
def Pattern.valid (p : Pattern) : Bool := p.length ≤ 4 && p.all Burst.valid && spaced p

/-- Whether an assignment has a stroke of the code. -/
def Assignment.uses (c : CodeId) (a : Assignment) : Bool :=
  a.stroke0.code = c || (match a.stroke1 with | some k => k.code = c | none => false)

/-- Whether a line uses a code: a party record names it, or its assignment has a stroke of it (R29). An unequipped
line holds no party. -/
def Line.usesCode (c : CodeId) (x : Line) : Bool :=
  (x.record.parties.any fun p => p.code = c) || (match x.asg with | some a => a.uses c | none => false)

/-- Whether a code is in use (R29). -/
def State.codeInUse (s : State) (c : CodeId) : Bool := allLines.any fun l => (s.line l).usesCode c

/-- The code and the bursts of the pattern it holds, as SET_CODE's reply carries them (R28, R180). -/
def codeFields (s : State) (c : CodeId) : List Byte :=
  numberByte c :: (s.pattern c).flatMap fun b => [byteOf b.start, byteOf b.length]

/-- SET_CODE's checks in order (R28). -/
def checkPattern (s : State) (c : CodeId) (p : Pattern) : Option ResultCode :=
  if 4 < p.length then some .badField
  else if ¬p.all Burst.valid then some .badField
  else if ¬spaced p then some .badField
  else if s.codeInUse c then some .codeInUse
  else none

def setCodeAnswer (code : Byte) (bursts : List BurstField) (s : State) : Answer :=
  match readNumber code with
  | none => ⟨s, .badField, [code]⟩
  | some c =>
    match checkPattern s c (readBursts bursts) with
    | some r => ⟨s, r, codeFields s c⟩
    | none =>
      let t := { s with codes := s.codes.set c.val (readBursts bursts) c.isLt }
      ⟨t, .ok, codeFields t c⟩

def setCodeStep (code : Byte) (bursts : List BurstField) (s : State) : State :=
  reply 0xA0 (setCodeAnswer code bursts s)

/-- SET_CODE (R28 to R30). -/
def execSetCode (code : Byte) (bursts : List BurstField) (s : State) : Host.Outcome State Fault Refusal :=
  .next (setCodeStep code bursts s)

end Sys2Proof.Machine
end

