-- ==== Sys2Proof/Machine/LineTable.lean ====
section
/-! DEFINITION. The line table's commands (01): CONFIGURE_LINE, BLOCK, UNBLOCK, READ_LINE. -/

namespace Sys2Proof.Machine

/-! ### CONFIGURE_LINE (R9 to R11) -/

/-- The checks of R9 after the line and its state: the parties to store, or the result of the first check that fails. -/
def checkParties (s : State) (dialMode : Byte) (fields : List PartyField) : Except ResultCode (DialMode × List Party) :=
  match readDialMode dialMode, readParties fields with
  | some mode, some ps =>
    if ¬(ps.map Party.number).Nodup then .error .badField
    else if ¬(ps.map fun p => (p.side, p.code)).Nodup then .error .duplicateSignature
    else if ps.any fun p => (s.pattern p.code).isEmpty then .error .notConfigured
    else .ok (mode, ps)
  | _, _ => .error .badField

/-- The line record as an accepted CONFIGURE_LINE writes it (R10), and both margins set to the margin default with
their thresholds and TRIP_MARGIN. -/
def writeLine (p : Params) (tip ring : Nat) (mode : DialMode) (count : Nat) (parties : List Party) (x : Line) : Line :=
  updateSides p (fun y => { y with margin := p.marginDefault }) (fun y => { y with margin := p.marginDefault })
    { x with record := { x.record with
      parties := sortBy (fun q => q.number.val) parties
      loads := ⟨min 20 tip, min 20 ring⟩
      dialMode := mode
      blockCount := max 1 (min 16 count) } }

/-- An unequipped line's scanner record is frozen, its reacquisition and its timers stopped (R92). -/
def ScannerRecord.freeze (c : ScannerRecord) : ScannerRecord :=
  { c with reacquiring := false, reacquireCount := 0, closedHold := none, breakTimer := none, makeTimer := none }

/-- Sampling begins from the held debounced state when a line is equipped (R92); the reacquisition count is 0 when not
reacquiring (R94). -/
def ScannerRecord.begin (c : ScannerRecord) : ScannerRecord :=
  { c with filterCount := 0, reacquiring := false, reacquireCount := 0 }

/-- The call state an accepted CONFIGURE_LINE sets, with its further effects (R11). -/
def configureState (l : LineId) (unequip : Bool) (s : State) : State :=
  match s.callState l with
  | .unequipped =>
    if unequip then s
    else
      let st := idleOrParked (s.line l)
      let t := (s.modScan l ScannerRecord.begin).setCallState l st
      if st = .parked then t.queueReport (.parked l) else t
  | .idle =>
    if unequip then (((s.abortJobs l).emptyDigits l).modScan l ScannerRecord.freeze).setCallState l .unequipped
    else s
  | .blocked =>
    if unequip then ((s.emptyDigits l).modScan l ScannerRecord.freeze).setCallState l .unequipped else s
  | _ => s

/-- CONFIGURE_LINE accepted: R10, R11, and last the LINE_CONDITION report due from the margin reset (R7, R11). -/
def configureAccepted (l : LineId) (tip ring : Nat) (mode : DialMode) (count : Nat) (parties : List Party)
    (s : State) : State :=
  let t := s.modLine l (writeLine s.params tip ring mode count parties)
  (reportIfChanged l s (configureState l parties.isEmpty t)).arbitrate

/-- CONFIGURE_LINE as the command path takes it. A list of more than 8 party records has no length R173 lists. -/
def configureLineAnswer (line tip ring dialMode count : Byte) (fields : List PartyField) (s : State) : Answer :=
  if 8 < fields.length then refuse .badLength s
  else
    match readLineId line with
    | none => refuse .badField s
    | some l =>
      if s.callState l = .unequipped ∨ s.callState l = .idle ∨ s.callState l = .blocked then
        match checkParties s dialMode fields with
        | .error r => refuse r s
        | .ok (mode, parties) =>
          let t := configureAccepted l tip.toNat ring.toNat mode count.toNat parties s
          let r := (t.line l).record
          ⟨t, .ok, [byteOf r.loads.tip, byteOf r.loads.ring, byteOf r.blockCount, r.callState.byte]⟩
      else refuse .lineState s

def configureLineStep (line tip ring dialMode count : Byte) (fields : List PartyField) (s : State) : State :=
  reply 0x90 (configureLineAnswer line tip ring dialMode count fields s)

/-- CONFIGURE_LINE (R9 to R12). -/
def execConfigureLine (line tip ring dialMode count : Byte) (fields : List PartyField) (s : State) :
    Host.Outcome State Fault Refusal :=
  .next (configureLineStep line tip ring dialMode count fields s)

/-! ### BLOCK and UNBLOCK (R13 to R15) -/

/-- Call control's record of a line taken out of service: its timers stop and nothing of a call is left (R13, R130,
R133, R160). -/
def CallRecord.blocked (_ : CallRecord) : CallRecord := .powerOn

/-- BLOCK accepted (R13). -/
def blockAccepted (l : LineId) (s : State) : State :=
  if s.callState l = .blocked then s
  else
    let s := s.removeAssignment l .removal
    let s := s.abortJobs l
    let s := s.emptyDigits l
    ((s.modCall l CallRecord.blocked).setCallState l .blocked).arbitrate

def blockAnswer (line : Byte) (s : State) : Answer :=
  match readLineId line with
  | none => refuse .badField s
  | some l =>
    if s.callState l = .unequipped then refuse .lineState s
    else ⟨blockAccepted l s, .ok, [(s.callState l).byte]⟩

def blockStep (line : Byte) (s : State) : State := reply 0x91 (blockAnswer line s)

/-- BLOCK (R13, R14). -/
def execBlock (line : Byte) (s : State) : Host.Outcome State Fault Refusal := .next (blockStep line s)

/-- UNBLOCK accepted (R15). -/
def unblockAccepted (l : LineId) (s : State) : State :=
  let st := idleOrParked (s.line l)
  let t := s.setCallState l st
  (if st = .parked then t.queueReport (.parked l) else t).arbitrate

def unblockAnswer (line : Byte) (s : State) : Answer :=
  match readLineId line with
  | none => refuse .badField s
  | some l =>
    if s.callState l = .blocked then
      let t := unblockAccepted l s
      ⟨t, .ok, [(t.callState l).byte]⟩
    else refuse .lineState s

def unblockStep (line : Byte) (s : State) : State := reply 0x92 (unblockAnswer line s)

/-- UNBLOCK (R15). -/
def execUnblock (line : Byte) (s : State) : Host.Outcome State Fault Refusal := .next (unblockStep line s)

/-! ### READ_LINE (R16) -/

/-- A side's items in READ_LINE's reply (R180). -/
def sideBytes (leak : Nat) (x : SideRecord) : List Byte :=
  wordBytes leak ++ wordBytes x.baseline ++ [byteOf x.margin, byteOf x.threshold]

/-- A line's position in the waiting list, 1 to 16 (R41). -/
def State.waitingPosition (s : State) (l : LineId) : Nat := s.waiting.idxOf l + 1

/-- The assignment summary: none, placed or waiting; bus; offset or position; cycles left; stroke count (R180). -/
def assignmentBytes (s : State) (l : LineId) : List Byte :=
  match (s.line l).asg with
  | none => [0, 0xFF, 0, 0, 0]
  | some a =>
    (match a.placement with
      | .placed bus offset _ => [1, busByte bus, byteOf offset.val]
      | .waiting => [2, 0xFF, byteOf (s.waitingPosition l)])
      ++ [byteOf a.cyclesLeft, if a.stroke1.isSome then 2 else 1]

/-- READ_LINE's snapshot (R16), laid out as R180. -/
def lineSnapshot (s : State) (l : LineId) : List Byte :=
  let x := s.line l
  [x.record.callState.byte, x.record.condition.byte, reasonsByte x.record.reasons]
    ++ sideBytes x.leaks.tip x.sides.tip ++ sideBytes x.leaks.ring x.sides.ring
    ++ [x.relay.phase.byte, busOrNone (if x.relay.phase = .silent then none else x.relay.bus)]
    ++ assignmentBytes s l
    ++ [byteOf x.record.earlyPickups, byteOf x.dial.digits.length, latchesByte x.record.latched]

def readLineAnswer (line : Byte) (s : State) : Answer :=
  match readLineId line with
  | none => refuse .badField s
  | some l => ⟨s.modRecord l fun r => { r with latched := .clear }, .ok, lineSnapshot s l⟩

def readLineStep (line : Byte) (s : State) : State := reply 0x93 (readLineAnswer line s)

/-- READ_LINE (R16). -/
def execReadLine (line : Byte) (s : State) : Host.Outcome State Fault Refusal := .next (readLineStep line s)

end Sys2Proof.Machine
end

