-- ==== Sys2Proof/Machine/Measurement.lean ====
section
/-! DEFINITION. The measurement unit's command and events (07), with the decision of the side test (09): TEST_LINE,
TEST_TICK, ORIGIN_ID_COMPLETE, ANSWER_SIDE_COMPLETE, TEST_COMPLETE. -/

namespace Sys2Proof.Machine

/-! ### TEST_LINE (R123) -/

/-- TEST_LINE accepted: a HOST_TEST entry joins the list, unless the line holds one. -/
def testLineAccepted (l : LineId) (s : State) : State :=
  if s.hasHostTest l then s else (s.requestJob l .hostTest).arbitrate

def testLineAnswer (line : Byte) (s : State) : Answer :=
  match readLineId line with
  | none => refuse .badField s
  | some l =>
    if s.callState l = .idle then ⟨testLineAccepted l s, .ok, [if s.hasHostTest l then 1 else 0]⟩
    else refuse .lineState s

def testLineStep (line : Byte) (s : State) : State := reply 0x94 (testLineAnswer line s)

/-- TEST_LINE (R123). -/
def execTestLine (line : Byte) (s : State) : Host.Outcome State Fault Refusal := .next (testLineStep line s)

/-! ### TEST_TICK (R115, R116) -/

/-- A tick raises the backlog, saturating at 15, and sets the MUST-run flag when it brings it to 12 or more; the timer
starts again for one test tick. -/
def MeasurementUnit.tick (testTickS : Nat) (m : MeasurementUnit) : MeasurementUnit :=
  let n := min Config.backlogMax (m.backlog + 1)
  { m with backlog := n, mustRun := m.mustRun || Config.mustSetAt ≤ n, tickTimer := testTickS * 1000 }

def testTickStep (s : State) : State := { s with msu := s.msu.tick s.params.testTickS }.arbitrate

/-- TEST_TICK (R115 to R117). -/
def execTestTick (s : State) : Host.Outcome State Fault Refusal := .next (testTickStep s)

/-! ### Completions (R119) -/

/-- The head is disconnected, and the completed job's entry leaves the list (R111, R119). -/
def State.releaseHead (s : State) (l : LineId) : State :=
  { s with msu := { s.msu with running := none, jobs := s.msu.jobs.filter fun j => j.line ≠ l } }

/-- The line and kind of the running job, when it is the one that made the readings a completion brings; none when that
job is off the head, completed, aborted or ended: such a completion finds no job (R114, R129). -/
def State.completing (s : State) (tip ring : Reading) : Option (LineId × JobKind) :=
  match s.msu.running with
  | some r => if tip.job = r.number ∧ ring.job = r.number then some (r.line, r.kind) else none
  | none => none

/-- ORIGIN_ID completes on a line (R125, R126, R132). -/
def originIdDone (l : LineId) (measured : PerSide Nat) (s : State) : State :=
  let x := s.line l
  let gc := corrected measured x.leaks
  ((s.releaseHead l).originateDue l (identify x.record.parties gc) (some gc)).arbitrate

def originIdCompleteStep (tip ring : Reading) (s : State) : State :=
  match s.completing tip ring with
  | some (l, .originId) => originIdDone l (recorded tip.conductance ring.conductance) s
  | _ => s

/-- ORIGIN_ID_COMPLETE (R125, R126, R132). -/
def execOriginIdComplete (tip ring : Reading) (s : State) : Host.Outcome State Fault Refusal :=
  .next (originIdCompleteStep tip ring s)

/-- A reverting call is answered (R155): CONNECTED, with an ANSWER report for the called party. -/
def State.revertAnswered (s : State) (l : LineId) (side : Option Side) (source : AnswerSource) : State :=
  ((s.setCallState l .connected).queueReport (.answer l side source (s.line l).call.called)).clearRevert l

/-- An early pickup (R156): below the limit the line returns to REVERT_HOLD; at the limit the call is given up. -/
def State.earlyPickup (s : State) (l : LineId) : State :=
  let n := (s.line l).record.earlyPickups + 1
  let t := s.modRecord l fun r => { r with earlyPickups := n }
  if n < Config.earlyPickupLimit then
    ((t.setCallState l .revertHold).startRevertHold l).queueReport (.revertEarly l n)
  else (t.returnToCaller l).queueReport (.revertAbandon l .earlyLimit)

/-- The side of one of a line's parties. -/
def Line.sideOf (x : Line) (n : Option PartyNo) : Option Side := (n.bind x.party).map Party.side

/-- Who answered a reverting call (R155). -/
def State.decideAnswer (s : State) (l : LineId) (result : Option Side) : State :=
  let x := s.line l
  match result with
  | none => s.revertAnswered l none .unknown
  | some sd =>
    if x.sideOf x.call.called = x.sideOf x.call.caller then s.revertAnswered l (some sd) .sharedSide
    else if x.sideOf x.call.called = some sd then s.revertAnswered l (some sd) .called
    else s.earlyPickup l

/-- ANSWER_SIDE completes on a line (R127, R155). -/
def answerSideDone (l : LineId) (measured : PerSide Nat) (s : State) : State :=
  ((s.releaseHead l).decideAnswer l (sideResult (corrected measured (s.line l).leaks))).arbitrate

def answerSideCompleteStep (tip ring : Reading) (s : State) : State :=
  match s.completing tip ring with
  | some (l, .answerSide) => answerSideDone l (recorded tip.conductance ring.conductance) s
  | _ => s

/-- ANSWER_SIDE_COMPLETE (R127, R155, R156). -/
def execAnswerSideComplete (tip ring : Reading) (s : State) : Host.Outcome State Fault Refusal :=
  .next (answerSideCompleteStep tip ring s)

/-- The baseline seeded from a side's conductance and the bias (R89). -/
def seedBaseline (bias g : Nat) : Nat := min Config.baselineMax (g * bias / 10)

/-- Whether a line is FAULTED, and whether it has LEAK, after a test whose worst conductance is given (R121). -/
def evaluateLeak (p : Params) (condition : Condition) (leak : Bool) (worst : Nat) : Bool × Bool :=
  if p.faultLimit ≤ worst then (true, true)
  else if condition = .faulted then
    if p.faultLimit - 10 ≤ worst then (true, true)
    else (false, p.degradeLimit ≤ worst)
  else if p.degradeLimit ≤ worst then (false, true)
  else if p.degradeLimit - 5 ≤ worst then (false, leak)
  else (false, false)

/-- The line record with the LEAK reason and condition evaluated (R121), `condition` and `leak` as before the test. -/
def LineRecord.evaluate (p : Params) (condition : Condition) (leak : Bool) (worst : Nat) (r : LineRecord) :
    LineRecord :=
  let e := evaluateLeak p condition leak worst
  { r with
    reasons := { r.reasons with leak := e.2 }
    condition :=
      if e.1 then .faulted else if e.2 ∨ r.reasons.tripMargin then .degraded else .normal }

/-- A completed test of a line: leak values stored, both baselines seeded, thresholds and TRIP_MARGIN computed, LEAK
and the condition evaluated (R120, steps 1 to 3). -/
def Line.tested (p : Params) (g : PerSide Nat) (x : Line) : Line :=
  let y := updateSides p (fun r => { r with baseline := seedBaseline p.bias g.tip })
    (fun r => { r with baseline := seedBaseline p.bias g.ring }) { x with leaks := g }
  { y with record := y.record.evaluate p x.record.condition x.record.reasons.leak (max g.tip g.ring) }

/-- A completed insulation test decreases the backlog and clears the MUST-run flag at 8 or less (R115, R116). -/
def MeasurementUnit.insulationDone (m : MeasurementUnit) : MeasurementUnit :=
  { m with backlog := m.backlog - 1, mustRun := m.mustRun && !(m.backlog - 1 ≤ Config.mustClearAt : Bool) }

/-- A HOST_TEST completes on a line (R120, R124): its TEST_RESULT comes before the change of condition. -/
def hostTestDone (l : LineId) (g : PerSide Nat) (s : State) : State :=
  (reportIfChanged l s (((s.releaseHead l).modLine l (Line.tested s.params g)).queueReport
    (.testResult l (some g)))).arbitrate

/-- An insulation test completes on a line (R115, R116, R120). -/
def insulationTestDone (l : LineId) (g : PerSide Nat) (s : State) : State :=
  let t := { s with msu := { s.msu.insulationDone with running := none } }
  (reportIfChanged l s (t.modLine l (Line.tested s.params g))).arbitrate

def testCompleteStep (tip ring : Reading) (s : State) : State :=
  match s.completing tip ring with
  | some (l, .hostTest) => hostTestDone l (recorded tip.conductance ring.conductance) s
  | some (l, .insulation) => insulationTestDone l (recorded tip.conductance ring.conductance) s
  | _ => s

/-- TEST_COMPLETE (R120, R121). -/
def execTestComplete (tip ring : Reading) (s : State) : Host.Outcome State Fault Refusal :=
  .next (testCompleteStep tip ring s)

end Sys2Proof.Machine
end

