-- ==== Sys2Proof/Machine/Messages.lean ====
section
/-! DEFINITION. The report queue's and the settings commands (11), with the resets: POLL, SET_PARAMETERS, SET_REPORTS,
RESTART, UNKNOWN_KIND, POWER_ON. -/

namespace Sys2Proof.Machine

/-! ### POLL (R179) -/

/-- A served DIGITS marker takes the line's digits, error flags and complete (R104). -/
def State.serve (s : State) : Report → State
  | .digits l => s.modDial l fun d =>
      { d with digits := [], errors := ⟨false, false, false⟩, complete := false }
  | _ => s

/-- Fills a reply with at most `n` of the oldest reports that fit in `room` bytes: the entries' bytes, their count, and
the state they leave. The filling stops at the first entry that does not fit (R179). -/
def pollFill : Nat → Nat → State → List Byte × Nat × State
  | 0, _, s => ([], 0, s)
  | n + 1, room, s =>
    match s.reports.queue with
    | [] => ([], 0, s)
    | r :: rest =>
      if reportSize s.dialOf r ≤ room then
        let t := { s with reports := { s.reports with queue := rest } }.serve r
        let (bytes, count, u) := pollFill n (room - reportSize s.dialOf r) t
        (reportBytes s.dialOf r ++ bytes, count + 1, u)
      else ([], 0, s)

def pollAnswer (s : State) : Answer :=
  let (bytes, count, t) := pollFill Config.pollCount Config.pollRoom s
  ⟨t, .ok, byteOf count :: bytes⟩

def pollStep (s : State) : State := reply 0x81 (pollAnswer s)

/-- POLL (R104, R179). -/
def execPoll (s : State) : Host.Outcome State Fault Refusal := .next (pollStep s)

/-! ### SET_PARAMETERS (R175) -/

/-- A value clamped into a range. -/
def clampTo (lo hi v : Nat) : Nat := max lo (min hi v)

/-- One parameter of SET_PARAMETERS: the value clamped when its bit is set, otherwise the stored value. -/
def selected (bit : Bool) (lo hi v stored : Nat) : Nat := if bit then clampTo lo hi v else stored

/-- An upper parameter whose lower bound may have moved: a stored value left out of range is raised to it. -/
def selectedAbove (bit : Bool) (lo hi v stored : Nat) : Nat := if bit then clampTo lo hi v else max lo stored

/-- The parameters an accepted SET_PARAMETERS stores (R75, R122, R175). -/
def Params.set (mask : DByte) (values : Vector DByte 13) (p : Params) : Params :=
  let bit := mask.getLsbD
  let v : Fin 13 → Nat := fun b => (values.get b).toNat
  let confirm := selected (bit 0) 2 6 (v 0) p.confirm
  let tmin := selected (bit 3) 20 100 (v 3) p.tmin
  let degradeLimit := selected (bit 11) 5 200 (v 11) p.degradeLimit
  { confirm := confirm
    window := selectedAbove (bit 1) confirm 20 (v 1) p.window
    marginDefault := selected (bit 2) 20 100 (v 2) p.marginDefault
    tmin := tmin
    tmax := selectedAbove (bit 4) (tmin + 20) 200 (v 4) p.tmax
    bias := selected (bit 5) 24 72 (v 5) p.bias
    ringCycles := selected (bit 6) 1 60 (v 6) p.ringCycles
    interdigitS := selected (bit 7) 2 10 (v 7) p.interdigitS
    permanentSignalS := selected (bit 8) 10 120 (v 8) p.permanentSignalS
    revertHoldS := selected (bit 9) 5 60 (v 9) p.revertHoldS
    testTickS := selected (bit 10) 1 60 (v 10) p.testTickS
    degradeLimit := degradeLimit
    faultLimit := selectedAbove (bit 12) (degradeLimit + 10) 500 (v 12) p.faultLimit }

/-- The thirteen parameters in the order of R175. -/
def Params.toList (p : Params) : List Nat :=
  [p.confirm, p.window, p.marginDefault, p.tmin, p.tmax, p.bias, p.ringCycles, p.interdigitS, p.permanentSignalS,
    p.revertHoldS, p.testTickS, p.degradeLimit, p.faultLimit]

/-- Both thresholds of a line are computed again, and a change of its condition reported (R7, R74). -/
def State.recompute (s : State) (l : LineId) : State :=
  reportIfChanged l s (s.modLine l (updateSides s.params id id))

/-- SET_PARAMETERS accepted: a change of Tmin or Tmax computes every threshold, in ascending line number (R74, R175). -/
def setParametersAccepted (mask : DByte) (values : Vector DByte 13) (s : State) : State :=
  let p := s.params.set mask values
  let t := { s with params := p }
  if p.tmin ≠ s.params.tmin ∨ p.tmax ≠ s.params.tmax then allLines.foldl State.recompute t else t

def setParametersAnswer (mask : DByte) (values : Vector DByte 13) (s : State) : Answer :=
  let t := setParametersAccepted mask values s
  ⟨t, .ok, t.params.toList.flatMap wordBytes⟩

def setParametersStep (mask : DByte) (values : Vector DByte 13) (s : State) : State :=
  reply 0x83 (setParametersAnswer mask values s)

/-- SET_PARAMETERS (R74 to R76, R175). -/
def execSetParameters (mask : DByte) (values : Vector DByte 13) (s : State) : Host.Outcome State Fault Refusal :=
  .next (setParametersStep mask values s)

/-! ### SET_REPORTS (R176) -/

def setReportsAnswer (enables : Byte) (s : State) : Answer :=
  let e := readEnables enables
  ⟨{ s with reports := { s.reports with enables := e } }, .ok, [enablesByte e]⟩

def setReportsStep (enables : Byte) (s : State) : State := reply 0x84 (setReportsAnswer enables s)

/-- SET_REPORTS (R176). -/
def execSetReports (enables : Byte) (s : State) : Host.Outcome State Fault Refusal := .next (setReportsStep enables s)

/-! ### RESTART (R177) -/

/-- The call state after RESTART (R18). -/
def restartState (x : Line) : CallState :=
  match x.record.callState with
  | .unequipped => .unequipped
  | .blocked => .blocked
  | _ => idleOrParked x

/-- What RESTART makes of a line's records: the call state and the early-pickup count (R18), the detector's record
(R91), the scanner's timers and the dial reception record (R109), call control's record (R146, R160). -/
def Line.restarted (x : Line) : Line :=
  { x with
    record := { x.record with callState := restartState x, earlyPickups := 0 }
    det := { x.det with mode := .idle, run := 0, windowLength := 0, sampleSum := 0, sampleCount := 0
                        verifyCause := none, verifyRunning := false }
    scan := { x.scan with closedHold := none, breakTimer := none, makeTimer := none }
    dial := .powerOn
    call := .powerOn }

/-- A PARKED report for a line that RESTART has put into PARKED (R18, R177). -/
def State.reportParked (s : State) (l : LineId) : State :=
  if s.callState l = .parked then s.queueReport (.parked l) else s

/-- Every assignment is removed and every line in ARM or RING put into QUENCH (R56, R71). -/
def State.endRinging (s : State) : State :=
  allLines.foldl (fun t l => t.earlyQuench l .restart) (allLines.foldl (fun t l => t.removeAssignment l .restart) s)

/-- RESTART (R18, R56, R71, R91, R109, R129, R146, R160, R177): every block's part of it, and then the report queue's.
DESIGN CHOICE (log entry 18): R174 says that a broadcast frame does not clear the reports-lost flag; R177 clears it in a
RESTART from a broadcast too, and is followed. -/
def restartAll (s : State) : State :=
  let t := s.endRinging.mapLines Line.restarted
  let t := { t with msu := { t.msu with jobs := [], running := none }
                    reports := { t.reports with queue := [.restarted], lost := false } }
  (allLines.foldl State.reportParked t).arbitrate

/-- RESTART from a frame addressed to the station is answered; a broadcast is not (R168, R172, R177). -/
def restartStep (broadcast : Bool) (s : State) : State :=
  if broadcast then restartAll s else reply 0x82 ⟨restartAll s, .ok, []⟩

/-- RESTART (R177). -/
def execRestart (broadcast : Bool) (s : State) : Host.Outcome State Fault Refusal := .next (restartStep broadcast s)

/-! ### UNKNOWN_KIND (R173) and POWER_ON -/

def unknownKindStep (_kind : Byte) (_payload : List Byte) (s : State) : State :=
  reply 0xFF (refuse .unknownKind s)

/-- UNKNOWN_KIND (R173). -/
def execUnknownKind (kind : Byte) (payload : List Byte) (s : State) : Host.Outcome State Fault Refusal :=
  .next (unknownKindStep kind payload s)

/-- The power-on state with the straps and inputs as they stand; the model's own queue is kept. -/
def powerOnStep (address : BitVec 5) (rate : BitVec 2) (goodA goodB : Bool) (s : State) : State :=
  { State.powerOn address rate goodA goodB with pending := s.pending }

/-- POWER_ON (R17, R20, R24, R33, R55, R70, R90, R108, R128, R146, R160, R172, R176, R178). -/
def execPowerOn (address : BitVec 5) (rate : BitVec 2) (goodA goodB : Bool) (s : State) :
    Host.Outcome State Fault Refusal :=
  .next (powerOnStep address rate goodA goodB s)

end Sys2Proof.Machine
end

