-- ==== Sys2Proof/Machine/Planning.lean ====
section
/-! DEFINITION. The ring planner's commands and events (03): SET_BUS, READ_SCHEDULE, ASSIGNMENT_EXPIRY,
SOURCE_GOOD_CHANGE, BUS_FAULT, BUS_RECOVERY. -/

namespace Sys2Proof.Machine

/-! ### SET_BUS and READ_SCHEDULE -/

/-- SET_BUS accepted: the budget is clamped and stored, and the bus brought within it (R52, R53). -/
def setBusAccepted (bus : Bus) (budget : Nat) (s : State) : State :=
  (s.modBus bus fun r => { r with budget := min 60 budget }).shedBus bus

def setBusAnswer (busField budget : Byte) (s : State) : Answer :=
  match readBus busField with
  | none => refuse .badField s
  | some bus =>
    let t := setBusAccepted bus budget.toNat s
    ⟨t, .ok, [busByte bus, byteOf (t.bus bus).budget]⟩

def setBusStep (busField budget : Byte) (s : State) : State := reply 0xA1 (setBusAnswer busField budget s)

/-- SET_BUS (R52, R53). -/
def execSetBus (busField budget : Byte) (s : State) : Host.Outcome State Fault Refusal :=
  .next (setBusStep busField budget s)

/-- READ_SCHEDULE's snapshot (R54), laid out as R180. -/
def scheduleSnapshot (s : State) (bus : Bus) : List Byte :=
  let r := s.bus bus
  [byteOf s.slot.val, r.status.byte, byteOf r.budget] ++ r.loads.toList.map byteOf
    ++ [if r.stateLatch then 1 else 0, byteOf s.waiting.length] ++ s.waiting.map lineByte

def readScheduleAnswer (busField : Byte) (s : State) : Answer :=
  match readBus busField with
  | none => refuse .badField s
  | some bus => ⟨s.modBus bus fun r => { r with stateLatch := false }, .ok, scheduleSnapshot s bus⟩

def readScheduleStep (busField : Byte) (s : State) : State := reply 0xA2 (readScheduleAnswer busField s)

/-- READ_SCHEDULE (R54). -/
def execReadSchedule (busField : Byte) (s : State) : Host.Outcome State Fault Refusal :=
  .next (readScheduleStep busField s)

/-! ### Expiry -/

/-- The expiry of a line's assignment, taken by itself (R45). -/
def assignmentExpiryStep (l : LineId) (s : State) : State :=
  match (s.line l).asg with
  | none => s
  | some _ => (s.expire l).arbitrate

/-- ASSIGNMENT_EXPIRY (R45, R140, R154). -/
def execAssignmentExpiry (l : LineId) (s : State) : Host.Outcome State Fault Refusal :=
  .next (assignmentExpiryStep l s)

/-! ### The source-good filter (R33) -/

/-- A bus record with a changed source-good input: the change starts or forgets the timing of a drop or a return. -/
def BusRecord.inputChanged (good : Bool) (r : BusRecord) : BusRecord :=
  if r.sourceGood = good then r
  else
    { r with
      sourceGood := good
      filterTimer :=
        match r.status, good with
        | .good, false => some Config.dropMs
        | .faulted, true => some Config.returnMs
        | _, _ => none }

def sourceGoodChangeStep (bus : Bus) (good : Bool) (s : State) : State :=
  s.modBus bus (BusRecord.inputChanged good)

/-- SOURCE_GOOD_CHANGE (R33). -/
def execSourceGoodChange (bus : Bus) (good : Bool) (s : State) : Host.Outcome State Fault Refusal :=
  .next (sourceGoodChangeStep bus good s)

/-- A bus's status changes and its filter timer stops. -/
def State.setStatus (s : State) (bus : Bus) (st : BusStatus) : State :=
  s.modBus bus fun r => { r with status := st, filterTimer := none }

/-- A bus fault is taken (R49). -/
def faultTaken (bus : Bus) (s : State) : State :=
  (((s.setStatus bus .faulted).quenchBus bus).displaceBus bus).reportBus bus

def busFaultStep (bus : Bus) (s : State) : State :=
  if (s.bus bus).status = .good ∧ (s.bus bus).filterTimer ≠ none then faultTaken bus s else s

/-- BUS_FAULT (R49): a drop that is being timed on a GOOD bus has lasted 50 ms. -/
def execBusFault (bus : Bus) (s : State) : Host.Outcome State Fault Refusal := .next (busFaultStep bus s)

/-- A recovery is taken (R51). -/
def recoveryTaken (bus : Bus) (s : State) : State := (s.setStatus bus .good).reportBus bus

def busRecoveryStep (bus : Bus) (s : State) : State :=
  if (s.bus bus).status = .faulted ∧ (s.bus bus).filterTimer ≠ none then recoveryTaken bus s else s

/-- BUS_RECOVERY (R51): a return that is being timed on a FAULTED bus has been held for 1 s. -/
def execBusRecovery (bus : Bus) (s : State) : Host.Outcome State Fault Refusal := .next (busRecoveryStep bus s)

end Sys2Proof.Machine
end

