-- ==== Sys2Proof/Machine/LinkInterface.lean ====
section
/-! DEFINITION. The link interface (10): LINK_CHARACTER, GAP_TIMER_EXPIRY, TURNAROUND_EXPIRY, REPLY_END, and the command
path a good frame is handed to (R168, R173). -/

namespace Sys2Proof.Machine

/-! ### The command path -/

/-- The block that owns a command carries it out and the reply is built (R173, step 3). An event is no command. -/
def runCommand (i : Instr) (s : State) : State :=
  match i with
  | .poll => pollStep s
  | .restart broadcast => restartStep broadcast s
  | .setParameters mask values => setParametersStep mask values s
  | .setReports enables => setReportsStep enables s
  | .configureLine line tip ring mode count parties => configureLineStep line tip ring mode count parties s
  | .block line => blockStep line s
  | .unblock line => unblockStep line s
  | .readLine line => readLineStep line s
  | .testLine line => testLineStep line s
  | .setCode code bursts => setCodeStep code bursts s
  | .setBus bus budget => setBusStep bus budget s
  | .readSchedule bus => readScheduleStep bus s
  | .ring line party cycles => ringStep line party cycles s
  | .cancel line => cancelStep line s
  | .connect line => connectStep line s
  | .release line => releaseStep line s
  | .revert line called caller r => revertStep line called caller r s
  | .unknownKind kind payload => unknownKindStep kind payload s
  | .powerOn .. | .linkCharacter .. | .gapTimerExpiry | .turnaroundExpiry | .replyEnd
  | .slotBoundary .. | .assignmentExpiry .. | .armExpiry .. | .ringEnd .. | .quenchEnd .. | .tripSample ..
  | .verifyTimerExpiry .. | .loopSample .. | .closedHoldExpiry .. | .breakTimerExpiry .. | .makeTimerExpiry ..
  | .interdigitTimerExpiry .. | .permanentSignalExpiry .. | .revertHoldExpiry .. | .testTick | .originIdComplete ..
  | .answerSideComplete .. | .testComplete .. | .sourceGoodChange .. | .busFault .. | .busRecovery .. => s

/-- A good frame addressed to the station is taken by the command path (R173). -/
def commandPath (kind : Byte) (payload : List Byte) (s : State) : State :=
  match decodeCommand kind payload with
  | .ok i => runCommand i s
  | .error .badLength => reply (0x80 + kind) (refuse .badLength s)
  | .error .unknownKind => unknownKindStep kind payload s

/-! ### The receiver -/

/-- A change of the receiver. -/
def State.setReceiver (s : State) (r : Receiver) : State := { s with link := { s.link with receiver := r } }

/-- A change of the link error latches (R171). -/
def State.latch (s : State) (f : LinkLatches → LinkLatches) : State :=
  { s with link := { s.link with latches := f s.link.latches } }

/-- The receiver returns to HUNT with its frame buffer emptied and its gap timer stopped (R167). -/
def State.toHunt (s : State) : State := s.setReceiver .hunting

/-- Whether an address character's byte concerns the controller (R163, R166). -/
def State.concerns (s : State) (b : Byte) : Bool :=
  b = 31 || (!s.listensOnly && b = s.link.address.setWidth 8)

/-- The receiver at the start of an assembly (R166). -/
def Receiver.start (b : Byte) : Receiver :=
  { Receiver.hunting with
    mode := .assemble, broadcast := b = 31, address := b, next := .kind, gapTimer := some Config.gapBits }

/-- A character taken in HUNT (R166). -/
def huntCharacter (c : LinkChar) (s : State) : State :=
  if c.stop ∧ charIsAddress c ∧ s.concerns (charByte c) then s.setReceiver (.start (charByte c)) else s

/-- A complete frame is judged and taken (R168, R170); the receiver is back in HUNT. -/
def frameComplete (r : Receiver) (checkHigh : Byte) (s : State) : State :=
  let s := s.toHunt
  if frameCheck (Frame.covered ⟨r.address, r.kind, r.payload⟩) ≠ dbyte r.checkLow checkHigh then
    s.latch fun x => { x with check := true }
  else if r.broadcast then
    if r.kind = 0x02 ∧ r.payload = [] then restartStep true s else s
  else if s.link.replyState = .idle then commandPath r.kind r.payload s
  else s.latch fun x => { x with overrun := true }

/-- A well-framed data character taken in ASSEMBLE (R167). -/
def assembleData (b : Byte) (s : State) : State :=
  let r := { s.link.receiver with gapTimer := some Config.gapBits }
  match r.next with
  | .kind => s.setReceiver { r with kind := b, next := .length }
  | .length =>
    if b.toNat ≤ Config.payloadMax then
      s.setReceiver { r with length := b.toNat, next := if b = 0 then .checkLow else .payload }
    else (s.latch fun x => { x with length := true }).toHunt
  | .payload =>
    let payload := r.payload ++ [b]
    s.setReceiver { r with payload := payload, next := if payload.length < r.length then .payload else .checkLow }
  | .checkLow => s.setReceiver { r with checkLow := b, next := .checkHigh }
  | .checkHigh => frameComplete r b s

/-- A character taken in ASSEMBLE (R167). -/
def assembleCharacter (c : LinkChar) (s : State) : State :=
  if ¬c.stop then (s.latch fun x => { x with framing := true }).toHunt
  else if charIsAddress c then huntCharacter c s.toHunt
  else assembleData (charByte c) s

def linkCharacterStep (c : LinkChar) (s : State) : State :=
  match s.link.receiver.mode with
  | .hunt => huntCharacter c s
  | .assemble => assembleCharacter c s

/-- LINK_CHARACTER (R166 to R168, R170). -/
def execLinkCharacter (c : LinkChar) (s : State) : Host.Outcome State Fault Refusal := .next (linkCharacterStep c s)

def gapTimerExpiryStep (s : State) : State :=
  if s.link.receiver.mode = .assemble ∧ s.link.receiver.gapTimer ≠ none then
    (s.latch fun x => { x with gap := true }).toHunt
  else s

/-- GAP_TIMER_EXPIRY (R167). -/
def execGapTimerExpiry (s : State) : Host.Outcome State Fault Refusal := .next (gapTimerExpiryStep s)

/-! ### Replies -/

def turnaroundExpiryStep (s : State) : State :=
  if s.link.replyState = .pending then
    { s with link := { s.link with replyState := .sending, turnaround := none } }
  else s

/-- TURNAROUND_EXPIRY (R169): the controller begins to drive the pair with the reply's characters. -/
def execTurnaroundExpiry (s : State) : Host.Outcome State Fault Refusal := .next (turnaroundExpiryStep s)

def replyEndStep (s : State) : State :=
  if s.link.replyState = .sending then
    { s with link := { s.link with replyState := .idle, reply := none } }
  else s

/-- REPLY_END (R169): the controller releases the pair, and no reply is in hand. -/
def execReplyEnd (s : State) : Host.Outcome State Fault Refusal := .next (replyEndStep s)

end Sys2Proof.Machine
end

