-- ==== Sys2Proof/Machine/RingTrip.lean ====
section
/-! DEFINITION. The trip detector's events (05): TRIP_SAMPLE, VERIFY_TIMER_EXPIRY. -/

namespace Sys2Proof.Machine

/-- How a sample leaves the trip window (R79, R80). -/
inductive SampleVerdict
  | goesOn | trip | unresolved
  deriving DecidableEq, Repr

/-- A sample is added to the burst's sum and count (R78). -/
def DetectorRecord.countSample (v : Nat) (d : DetectorRecord) : DetectorRecord :=
  { d with sampleSum := d.sampleSum + v, sampleCount := d.sampleCount + 1 }

/-- A sample judged in WATCH: an above-sample opens the window (R79). -/
def DetectorRecord.watchSample (above : Bool) (d : DetectorRecord) : DetectorRecord :=
  if above then { d with mode := .window, run := 1, windowLength := 1 } else d

/-- A sample judged in WINDOW: the window length and the run (R80, steps 1 and 2). -/
def DetectorRecord.windowSample (above : Bool) (d : DetectorRecord) : DetectorRecord :=
  { d with windowLength := d.windowLength + 1, run := if above then d.run + 1 else 0 }

/-- The verdict of a window after a sample (R80, steps 3 and 4). -/
def DetectorRecord.verdict (p : Params) (d : DetectorRecord) : SampleVerdict :=
  if p.confirm ≤ d.run then .trip else if p.window ≤ d.windowLength then .unresolved else .goesOn

/-- The detector after a confirmed trip (R81). -/
def DetectorRecord.tripped (d : DetectorRecord) : DetectorRecord :=
  { d with mode := .idle, sampleSum := 0, sampleCount := 0 }

/-- The detector after an unresolved window (R82). -/
def DetectorRecord.unresolved (d : DetectorRecord) : DetectorRecord :=
  { d with mode := .verify, verifyCause := some .unresolved, verifyRunning := false, sampleSum := 0
           sampleCount := 0 }

/-- The threshold a sample is judged against: the recorded side's (R78). -/
def Line.threshold (x : Line) : Nat :=
  match x.det.side with
  | some sd => (x.sides.get sd).threshold
  | none => 0

/-- A confirmed trip (R65, R81): the RING is cut, and call control takes the answer. -/
def State.confirmTrip (s : State) (l : LineId) : State :=
  (((s.earlyQuench l .trip).modDet l DetectorRecord.tripped).answer l .trip (s.line l).det.side).arbitrate

/-- A window that ends unresolved (R66, R82). -/
def State.windowUnresolved (s : State) (l : LineId) : State :=
  (s.earlyQuench l .unresolved).modDet l DetectorRecord.unresolved

/-- A sample saturated at 600 dmA, judged by mode (R78 to R80). -/
def judgeSample (l : LineId) (v : Nat) (s : State) : State :=
  let above : Bool := (s.line l).threshold < v
  match (s.line l).det.mode with
  | .watch => s.modDet l fun d => (d.countSample v).watchSample above
  | .window =>
    let t := s.modDet l fun d => (d.countSample v).windowSample above
    match (t.line l).det.verdict t.params with
    | .goesOn => t
    | .trip => t.confirmTrip l
    | .unresolved => t.windowUnresolved l
  | .idle | .verify => s

def tripSampleStep (l : LineId) (current : Nat) (s : State) : State :=
  if (s.line l).relay.phase = .ring then judgeSample l (min Config.sampleMax current) s else s

/-- TRIP_SAMPLE (R78 to R82): samples are taken in RING and at no other time. -/
def execTripSample (l : LineId) (current : Nat) (s : State) : Host.Outcome State Fault Refusal :=
  .next (tripSampleStep l current s)

/-! ### Verify -/

/-- A raise of the margin: 10 dmA, saturating at 100 dmA (R86). -/
def SideRecord.raiseMargin (y : SideRecord) : SideRecord :=
  { y with margin := min Config.marginMax (y.margin + Config.marginStep) }

/-- TRIP_NOISE for a side is reported, or latched when those reports are disabled (R8, R86). -/
def State.reportNoise (s : State) (l : LineId) (sd : Side) : State :=
  if s.reports.enables.tripNoise then
    let y := (s.line l).sides.get sd
    s.queueReport (.tripNoise l sd y.margin y.threshold)
  else
    s.modRecord l fun r => { r with latched := { r.latched with noise := r.latched.noise.modify (fun _ => true) sd } }

/-- The margin raise of an on-hook verdict, with its report and then the change of condition (R86). -/
def State.raiseMargin (s : State) (l : LineId) (sd : Side) : State :=
  reportIfChanged l s ((s.modLine l (updateSide s.params sd SideRecord.raiseMargin)).reportNoise l sd)

/-- A verify ends with an on-hook verdict (R85): for cause UNRESOLVED the margin is raised, for OPEN_AT_END nothing is
changed. -/
def verifyExpires (l : LineId) (s : State) : State :=
  let d := (s.line l).det
  let t := s.modDet l DetectorRecord.endVerify
  match d.verifyCause, d.side with
  | some .unresolved, some sd => t.raiseMargin l sd
  | _, _ => t

def verifyTimerExpiryStep (l : LineId) (s : State) : State :=
  if (s.line l).det.mode = .verify ∧ (s.line l).det.verifyRunning then verifyExpires l s else s

/-- VERIFY_TIMER_EXPIRY (R85, R86). -/
def execVerifyTimerExpiry (l : LineId) (s : State) : Host.Outcome State Fault Refusal :=
  .next (verifyTimerExpiryStep l s)

end Sys2Proof.Machine
end

