-- ==== Sys2Proof/Machine/Scanner.lean ====
section
/-! DEFINITION. The loop scanner's and dial reception's events (06): LOOP_SAMPLE, CLOSED_HOLD_EXPIRY,
BREAK_TIMER_EXPIRY, MAKE_TIMER_EXPIRY, INTERDIGIT_TIMER_EXPIRY. -/

namespace Sys2Proof.Machine

/-! ### Dial reception -/

/-- A dial pulse: the pulse count, saturating at 11, and the make timer started (R100). -/
def State.dialPulse (s : State) (l : LineId) : State :=
  if (s.dialOf l).collection = .opened then
    s.modLine l fun x =>
      { x with dial := { x.dial with pulseCount := min 11 (x.dial.pulseCount + 1) }
               scan := { x.scan with makeTimer := some Config.makeMs } }
  else s

/-- A bad break: the train is discarded and BAD_BREAK set, a reportable error (R100, R103). -/
def State.badBreak (s : State) (l : LineId) : State :=
  if (s.dialOf l).collection = .opened then
    (s.modLine l fun x =>
      { x with dial := { x.dial with pulseCount := 0, errors := { x.dial.errors with badBreak := true } }
               scan := { x.scan with makeTimer := none } }).markerEvent l
  else s

/-- The block is complete (R102): the collection is DONE, its timers stop and a train in progress is discarded. -/
def State.completeBlock (s : State) (l : LineId) : State :=
  s.modLine l fun x =>
    { x with dial := { x.dial with collection := .done, complete := true, interdigit := none, pulseCount := 0 }
             scan := { x.scan with makeTimer := none } }

/-- The digit a train of 1 to 10 pulses forms: 10 pulses give 0 (R100). -/
def digitOf (pulses : Nat) : Nat := if pulses = 10 then 0 else pulses

/-- The digit goes to the tail of the queue, or is discarded with DIGIT_OVERRUN when the queue holds 16 (R101). -/
def DialRecord.takeDigit (digit : Nat) (d : DialRecord) : DialRecord :=
  let d := { d with received := min 16 (d.received + 1), pulseCount := 0 }
  if d.digits.length < Config.digitMax then { d with digits := d.digits ++ [digit] }
  else { d with errors := { d.errors with digitOverrun := true } }

/-- A digit is formed (R101): it is queued or overrun, the permanent-signal timer restarts, the block is checked for
completion by count (R102), the interdigit timer starts otherwise, and what is reportable in the line's dial mode acts
on the marker (R103). -/
def State.digitFormed (s : State) (l : LineId) (digit : Nat) : State :=
  let r := (s.line l).record
  let overrun : Bool := Config.digitMax ≤ (s.dialOf l).digits.length
  let t := (s.modDial l (DialRecord.takeDigit digit)).startPermanentSignal l
  let received := (t.dialOf l).received
  let completes : Bool := r.dialMode ≠ .each ∧ received = r.blockCount
  let t :=
    if completes then t.completeBlock l
    else if r.dialMode ≠ .each then
      t.modDial l fun d => { d with interdigit := some (t.params.interdigitS * 1000) }
    else t
  if r.dialMode = .each ∨ overrun ∨ completes ∨ (r.dialMode = .firstThenBlock ∧ received = 1) then t.markerEvent l
  else t

/-- The expiry of the make timer ends the train (R100): a digit, or TOO_MANY_PULSES. -/
def State.trainEnds (s : State) (l : LineId) : State :=
  let n := (s.dialOf l).pulseCount
  if n = 0 then s
  else if n ≤ 10 then s.digitFormed l (digitOf n)
  else (s.modDial l fun d =>
    { d with pulseCount := 0, errors := { d.errors with tooManyPulses := true } }).markerEvent l

def makeTimerExpiryStep (l : LineId) (s : State) : State :=
  if (s.line l).scan.makeTimer = none then s
  else
    let t := s.modScan l fun c => { c with makeTimer := none }
    if (t.dialOf l).collection = .opened then t.trainEnds l else t

/-- MAKE_TIMER_EXPIRY (R100 to R103). -/
def execMakeTimerExpiry (l : LineId) (s : State) : Host.Outcome State Fault Refusal := .next (makeTimerExpiryStep l s)

def interdigitTimerExpiryStep (l : LineId) (s : State) : State :=
  if (s.dialOf l).interdigit = none then s else (s.completeBlock l).markerEvent l

/-- INTERDIGIT_TIMER_EXPIRY (R102, R103): the block is completed by pause. -/
def execInterdigitTimerExpiry (l : LineId) (s : State) : Host.Outcome State Fault Refusal :=
  .next (interdigitTimerExpiryStep l s)

/-! ### Makes and breaks -/

/-- The recognition of a break that a make has ended, by its length and the call state (R98). -/
def State.classifyBreak (s : State) (l : LineId) (length : Nat) : State :=
  match s.callState l with
  | .originating =>
    if 15 ≤ length ∧ length ≤ 100 then s.dialPulse l
    else if 101 ≤ length ∧ length ≤ 1049 then s.badBreak l
    else s
  | .connected => if 300 ≤ length ∧ length ≤ 1049 then s.queueReport (.flash l) else s
  | _ => s

/-- The scanner's record at a make: closed, the break timer stopped, the closed-hold timer started (R94, R96). -/
def ScannerRecord.make (c : ScannerRecord) : ScannerRecord :=
  { c with closed := true, filterCount := 0, breakTimer := none, closedHold := some Config.closedHoldMs }

/-- The scanner's record at a break: open, the closed-hold timer stopped, the break timer started (R94, R97); the make
timer stops at a break (R107). -/
def ScannerRecord.break (c : ScannerRecord) : ScannerRecord :=
  { c with closed := false, filterCount := 0, closedHold := none, breakTimer := some 0, makeTimer := none }

/-- A make of the debounced state: the break it ends is classified by its length (R98). -/
def State.make (s : State) (l : LineId) : State :=
  let t := s.modScan l ScannerRecord.make
  match (s.line l).scan.breakTimer with
  | some n => t.classifyBreak l n
  | none => t

/-- The break in progress grows by one sample's 5 ms, up to 1050 ms (R93, R97). -/
def ScannerRecord.tick (c : ScannerRecord) : ScannerRecord :=
  { c with breakTimer := c.breakTimer.map fun n => min Config.breakMs (n + Config.loopSampleMs) }

/-- A sample through the hit filter (R93). -/
def State.filterSample (s : State) (l : LineId) (closed : Bool) : State :=
  let t := s.modScan l ScannerRecord.tick
  let c := (t.line l).scan
  if closed = c.closed then t.modScan l fun c => { c with filterCount := 0 }
  else if c.filterCount + 1 < 3 then t.modScan l fun c => { c with filterCount := c.filterCount + 1 }
  else if closed then t.make l
  else t.modScan l ScannerRecord.break

/-- The end of reacquisition (R95): the held state confirmed, or a make or break; such a make is not classified (R98). -/
def ScannerRecord.reacquired (sample : Bool) (c : ScannerRecord) : ScannerRecord :=
  let c := { c with reacquiring := false, reacquireCount := 0 }
  match c.closed, sample with
  | false, false => { c with breakTimer := some 0 }
  | false, true => c.make
  | true, true => { c with closedHold := some Config.closedHoldMs }
  | true, false => c.break

/-- A sample while reacquiring: the third consecutive sample of one value ends the reacquisition (R95). -/
def ScannerRecord.reacquire (sample : Bool) (c : ScannerRecord) : ScannerRecord :=
  let n := if 0 < c.reacquireCount ∧ sample = c.lastSample then c.reacquireCount + 1 else 1
  let c := { c with reacquireCount := n, lastSample := sample }
  if n < 3 then c else c.reacquired sample

def loopSampleStep (l : LineId) (closed : Bool) (s : State) : State :=
  if s.equipped l ∧ (s.line l).relay.phase = .silent then
    if (s.line l).scan.reacquiring then s.modScan l (ScannerRecord.reacquire closed)
    else s.filterSample l closed
  else s

/-- LOOP_SAMPLE (R92, R93, R95, R98): a sample of an equipped line that is not blind. -/
def execLoopSample (l : LineId) (closed : Bool) (s : State) : Host.Outcome State Fault Refusal :=
  .next (loopSampleStep l closed s)

/-! ### The closed-hold timer -/

/-- An origination is recognised on an IDLE line (R99, R131). -/
def State.originate (s : State) (l : LineId) : State :=
  let s := s.abortJobs l
  let s := (s.setCallState l .originating).openCollection l
  let s := s.startPermanentSignal l
  if (s.line l).record.condition = .faulted then s.originateDue l (.unidentified .lineFault) none
  else (s.modCall l fun c => { c with originationPending := true }).requestJob l .originId

/-- An answer in silence is recognised on a ringing line (R85, R96): the verify's, if one is running, otherwise call
control's, with the side of the assignment's stroke (R139). -/
def State.silenceAnswer (s : State) (l : LineId) : State :=
  let d := (s.line l).det
  if d.mode = .verify ∧ d.verifyRunning then (s.modDet l DetectorRecord.endVerify).answer l .trip d.side
  else s.answer l .silence ((s.line l).asg.map fun a => a.stroke0.side)

/-- The recognition of a loop held closed for 50 ms, by the call state (R96). -/
def State.heldClosed (s : State) (l : LineId) : State :=
  match s.callState l with
  | .idle => s.originate l
  | .ringing | .revertRinging => s.silenceAnswer l
  | _ => s

def closedHoldExpiryStep (l : LineId) (s : State) : State :=
  if (s.line l).scan.closedHold = none then s
  else ((s.modScan l fun c => { c with closedHold := none }).heldClosed l).arbitrate

/-- CLOSED_HOLD_EXPIRY (R96). -/
def execClosedHoldExpiry (l : LineId) (s : State) : Host.Outcome State Fault Refusal :=
  .next (closedHoldExpiryStep l s)

/-! ### The break timer -/

/-- The recognition of a break that has reached 1050 ms, by the call state (R97): a clear (R133, R142, R143), the
caller on hook (R150), or a clear in REVERT_CHECK (R157). -/
def State.breakReached (s : State) (l : LineId) : State :=
  match s.callState l with
  | .originating => (s.leaveOriginating l).clearLine l .originating
  | .connected => s.clearLine l .connected
  | .parked => s.clearLine l .parked
  | .revertCheck => (s.abortJobs l).beginReverting l
  | .revertHold => (s.modCall l fun c => { c with revertHold := none }).beginReverting l
  | _ => s

def breakTimerExpiryStep (l : LineId) (s : State) : State :=
  if (s.line l).scan.breakTimer = none then s
  else ((s.modScan l fun c => { c with breakTimer := none }).breakReached l).arbitrate

/-- BREAK_TIMER_EXPIRY (R97). -/
def execBreakTimerExpiry (l : LineId) (s : State) : Host.Outcome State Fault Refusal :=
  .next (breakTimerExpiryStep l s)

end Sys2Proof.Machine
end

