-- ==== Sys2Proof/Machine/Dispatch.lean ====
section
/-! DEFINITION. The meaning of every command and event, one arm a constructor. -/

namespace Sys2Proof.Machine

def exec (i : Instr) (s : State) : Host.Outcome State Fault Refusal :=
  match i with
  | .powerOn address rate goodA goodB => Sys2Proof.Machine.execPowerOn address rate goodA goodB s
  | .poll => Sys2Proof.Machine.execPoll s
  | .restart broadcast => Sys2Proof.Machine.execRestart broadcast s
  | .setParameters mask values => Sys2Proof.Machine.execSetParameters mask values s
  | .setReports enables => Sys2Proof.Machine.execSetReports enables s
  | .configureLine line tip ring mode count parties => Sys2Proof.Machine.execConfigureLine line tip ring mode count parties s
  | .block line => Sys2Proof.Machine.execBlock line s
  | .unblock line => Sys2Proof.Machine.execUnblock line s
  | .readLine line => Sys2Proof.Machine.execReadLine line s
  | .testLine line => Sys2Proof.Machine.execTestLine line s
  | .setCode code bursts => Sys2Proof.Machine.execSetCode code bursts s
  | .setBus bus budget => Sys2Proof.Machine.execSetBus bus budget s
  | .readSchedule bus => Sys2Proof.Machine.execReadSchedule bus s
  | .ring line party cycles => Sys2Proof.Machine.execRing line party cycles s
  | .cancel line => Sys2Proof.Machine.execCancel line s
  | .connect line => Sys2Proof.Machine.execConnect line s
  | .release line => Sys2Proof.Machine.execRelease line s
  | .revert line called caller recallByte => Sys2Proof.Machine.execRevert line called caller recallByte s
  | .unknownKind kind payload => Sys2Proof.Machine.execUnknownKind kind payload s
  | .linkCharacter c => Sys2Proof.Machine.execLinkCharacter c s
  | .gapTimerExpiry => Sys2Proof.Machine.execGapTimerExpiry s
  | .turnaroundExpiry => Sys2Proof.Machine.execTurnaroundExpiry s
  | .replyEnd => Sys2Proof.Machine.execReplyEnd s
  | .slotBoundary sequencerFirst => Sys2Proof.Machine.execSlotBoundary sequencerFirst s
  | .assignmentExpiry line => Sys2Proof.Machine.execAssignmentExpiry line s
  | .armExpiry line => Sys2Proof.Machine.execArmExpiry line s
  | .ringEnd line => Sys2Proof.Machine.execRingEnd line s
  | .quenchEnd line => Sys2Proof.Machine.execQuenchEnd line s
  | .tripSample line current => Sys2Proof.Machine.execTripSample line current s
  | .verifyTimerExpiry line => Sys2Proof.Machine.execVerifyTimerExpiry line s
  | .loopSample line closed => Sys2Proof.Machine.execLoopSample line closed s
  | .closedHoldExpiry line => Sys2Proof.Machine.execClosedHoldExpiry line s
  | .breakTimerExpiry line => Sys2Proof.Machine.execBreakTimerExpiry line s
  | .makeTimerExpiry line => Sys2Proof.Machine.execMakeTimerExpiry line s
  | .interdigitTimerExpiry line => Sys2Proof.Machine.execInterdigitTimerExpiry line s
  | .permanentSignalExpiry line => Sys2Proof.Machine.execPermanentSignalExpiry line s
  | .revertHoldExpiry line => Sys2Proof.Machine.execRevertHoldExpiry line s
  | .testTick => Sys2Proof.Machine.execTestTick s
  | .originIdComplete tip ring => Sys2Proof.Machine.execOriginIdComplete tip ring s
  | .answerSideComplete tip ring => Sys2Proof.Machine.execAnswerSideComplete tip ring s
  | .testComplete tip ring => Sys2Proof.Machine.execTestComplete tip ring s
  | .sourceGoodChange bus good => Sys2Proof.Machine.execSourceGoodChange bus good s
  | .busFault bus => Sys2Proof.Machine.execBusFault bus s
  | .busRecovery bus => Sys2Proof.Machine.execBusRecovery bus s

end Sys2Proof.Machine
end

