-- ==== Sys2Proof/Safety.lean ====
section
/-! DEFINITION. The laws the manual states of every state: the invariants of the statements, one structure a block. -/

namespace Sys2Proof.Machine

/-! ### Runs and typed operands -/

/-- Commands and events taken one after the other, by their own meanings. -/
def runAll : List Instr → State → Host.Outcome State Fault Refusal
  | [], s => .next s
  | i :: rest, s =>
    match exec i s with
    | .next t => runAll rest t
    | .fault r => .fault r
    | .refused r => .refused r

/-- A party record as CONFIGURE_LINE carries it (R180). -/
def Party.field (p : Party) : PartyField := ⟨numberByte p.number, p.side.byte, numberByte p.code, byteOf p.cls.val⟩

/-- Dial mode: 0 EACH, 1 FIRST_THEN_BLOCK, 2 BLOCK (R180). -/
def DialMode.byte : DialMode → Byte
  | .each => 0
  | .firstThenBlock => 1
  | .block => 2

/-- Every line but one is as it was. -/
def OthersKept (l : LineId) (s t : State) : Prop := ∀ m, m ≠ l → t.line m = s.line m

/-- The line's jobs are off the head and the job list, and no other entry is; the backlog stands (R113). -/
structure JobsDropped (l : LineId) (s t : State) : Prop where
  jobs : t.msu.jobs = s.msu.jobs.filter fun j => j.line ≠ l
  head : ∀ r ∈ t.msu.running, r.line ≠ l
  backlog : t.msu.backlog = s.msu.backlog ∧ t.msu.mustRun = s.msu.mustRun

/-- The queue with a report due, as R178 has it: at the tail, or not at all when 32 stand in it. -/
def queueWith (q : List Report) (r : Report) : List Report := if q.length < 32 then q ++ [r] else q

/-- The report queue after reports fall due in order: one that meets 32 entries is lost and sets the flag (R178). -/
def pushReports (q : ReportQueue) (rs : List Report) : ReportQueue :=
  rs.foldl (fun q r => if q.queue.length < 32 then { q with queue := q.queue ++ [r] } else { q with lost := true }) q

/-- The report queue once a line has left ORIGINATING (R113, R133, R103): a TEST_RESULT (ABORTED) if it had a line test,
ORIGINATE (ABANDONED) if one is still owed, and the marker owed behind it. -/
def leavingQueue (l : LineId) (s : State) : List Report :=
  let q := if s.hasHostTest l then queueWith s.reports.queue (.testResult l none) else s.reports.queue
  if (s.line l).call.originationPending then
    let q := queueWith q (.originate l (.unidentified .abandoned) none)
    if (s.line l).dial.markerOwed then queueWith q (.digits l) else q
  else q

/-- What a reportable event of dial reception does to the line's marker (R103): nothing while one is pending;
otherwise a DIGITS marker is queued, or owed until the line's ORIGINATE has fallen due. -/
structure MarkerActed (l : LineId) (s t : State) : Prop where
  pending : s.markerPending l = true →
    t.reports = s.reports ∧ (t.line l).dial.markerOwed = (s.line l).dial.markerOwed
  queued : s.markerPending l = false → (s.line l).dial.originationReported = true →
    t.reports.queue = queueWith s.reports.queue (.digits l) ∧
      (t.line l).dial.markerOwed = (s.line l).dial.markerOwed
  owed : s.markerPending l = false → (s.line l).dial.originationReported = false →
    t.reports = s.reports ∧ (t.line l).dial.markerOwed = true

/-- The receiver is in HUNT and no reply is in hand, at a strap address 1 to 30. -/
structure Ready (s : State) : Prop where
  answers : s.listensOnly = false
  hunting : s.link.receiver = .hunting
  idle : s.link.replyState = .idle

/-- The characters of a frame, as events. -/
def Frame.events (f : Frame) : List Instr := f.characters.map .linkCharacter

/-- The characters of a frame whose check characters are as given. -/
def Frame.eventsChecked (f : Frame) (lo hi : Byte) : List Instr :=
  (addressChar f.address :: ([f.kind, byteOf f.payload.length] ++ f.payload ++ [lo, hi]).map dataChar).map
    .linkCharacter

/-- The payload lengths the table of R173 gives for a kind. -/
def lengthListed (kind : Byte) (n : Nat) : Prop :=
  (kind ∈ [0x01, 0x02] ∧ n = 0) ∨ (kind = 0x03 ∧ n = 28) ∨
  (kind ∈ [0x04, 0x11, 0x12, 0x13, 0x14, 0x22, 0x31, 0x32, 0x33] ∧ n = 1) ∨
  (kind = 0x10 ∧ n ∈ [5, 9, 13, 17, 21, 25, 29, 33, 37]) ∨ (kind = 0x20 ∧ n % 2 = 1) ∨
  (kind = 0x21 ∧ n = 2) ∨ (kind = 0x30 ∧ n = 3) ∨ (kind = 0x34 ∧ n = 4)

/-! ### The ring planner and the burst sequencer (03, 04) -/

/-- Whether a line's assignment is on the waiting list (R34). -/
def Line.waits (x : Line) : Bool :=
  match x.asg with
  | some a => a.placement = .waiting
  | none => false

/-- The bus a line's assignment is placed on, if it is placed (R34). -/
def Line.placedBus (x : Line) : Option Bus :=
  match x.asg with
  | some a =>
    match a.placement with
    | .placed bus _ _ => some bus
    | .waiting => none
  | none => none

/-- A line's assignment with its bus, offset and placed-order number, if it is placed (R34). -/
def Line.placed (x : Line) : Option (Assignment × Bus × Slot × Nat) :=
  match x.asg with
  | some a =>
    match a.placement with
    | .placed bus offset order => some (a, bus, offset, order)
    | .waiting => none
  | none => none

/-- Whether a line's assignment comes to the end of its count at the boundary out of a slot: only a cycle boundary
counts, and an assignment's first one does not (R42, R44, R45). -/
def Line.endsAtBoundary (slot : Slot) (x : Line) : Bool :=
  match x.asg with
  | some a => slot = 23 && (if a.skipped then a.cyclesLeft ≤ 1 else a.cyclesLeft = 0)
  | none => false

/-- The waited boundaries an assignment holds once the boundary out of the current slot has aged the waiting list: a
cycle boundary adds 1 to a waiting one's, saturating at 2 (R42, step 2). -/
def State.waitedAfter (s : State) (a : Assignment) : Nat :=
  if s.slot = 23 ∧ a.placement = .waiting then min 2 (a.waited + 1) else a.waited

/-- The walk at the boundary out of the current slot tries a line's entry in vain and goes on behind it: the attempt
fails and the entry is not aged (R42, R43). -/
def State.PassesOver (s : State) (l : LineId) : Prop :=
  ∃ b, (s.line l).asg = some b ∧ State.search { s with slot := s.slot + 1 } b = none ∧ s.waitedAfter b < 2

/-- An assignment as it was but for its placement and its waited boundaries (R34). -/
def Assignment.SameRing (a b : Assignment) : Prop :=
  b.kind = a.kind ∧ b.stroke0 = a.stroke0 ∧ b.stroke1 = a.stroke1 ∧ b.cyclesLeft = a.cyclesLeft ∧
    b.skipped = a.skipped ∧ b.createdOrder = a.createdOrder

/-- The load a line's assignment brings to a slot of a bus: none unless it is placed there (R32). -/
def Line.loadOn (codes : CodeId → Pattern) (bus : Bus) (g : Slot) (x : Line) : Nat :=
  match x.asg with
  | some a =>
    match a.placement with
    | .placed other offset _ => if other = bus then loadAt codes a offset g else 0
    | .waiting => 0
  | none => 0

/-- The lines whose assignments stood on a bus in `s` with a placed-order number below `n` and are on the other bus in
`t`: those displaced from the bus and placed again before the one with number `n` tries (R49, R53). -/
def movedBefore (bus : Bus) (n : Nat) (s t : State) : List LineId :=
  allLines.filter fun m =>
    ((s.line m).placedOrderOn bus).any (· < n) && (t.line m).placedBus = some (otherBus bus)

/-- Where a line's displaced assignment goes from offset `o` of a bus with placed-order number `n` (R49 and R53, step
3): to its own offset on the other bus, with the next placed-order number, if that bus is GOOD and the assignment fits
there beside the loads of those that moved before it, and otherwise to the waiting list with waited boundaries 0. -/
def Rehomed (bus : Bus) (l : LineId) (a : Assignment) (o : Slot) (n : Nat) (s t : State) : Prop :=
  ∃ c ∈ (t.line l).asg, Assignment.SameRing a c ∧
    (if (s.bus (otherBus bus)).status = .good ∧ ∀ g, (s.bus (otherBus bus)).loads.get g +
          ((movedBefore bus n s t).map fun m => (t.line m).loadOn s.pattern (otherBus bus) g).sum +
          loadAt s.pattern a o g ≤ (s.bus (otherBus bus)).budget then
      c.placement = .placed (otherBus bus) o (s.placedCount + (movedBefore bus n s t).length)
    else c.placement = .waiting ∧ c.waited = 0 ∧ l ∈ t.waiting)

/-- Whether a side of the line is pinned at Tmax (R73). -/
def Line.pinned (x : Line) : Bool := x.sides.tip.pinned || x.sides.ring.pinned

/-- The LINE_CONDITION report due when a line's condition or reasons in `t` differ from those in `s`: none on an
UNEQUIPPED line or with these reports disabled (R7). -/
def conditionReport (l : LineId) (s t : State) : Option Report :=
  if ((t.line l).record.condition ≠ (s.line l).record.condition ∨
        (t.line l).record.reasons ≠ (s.line l).record.reasons) ∧
      s.callState l ≠ .unequipped ∧ s.reports.enables.lineCondition = true then
    some (.lineCondition l (t.line l).record.condition (t.line l).record.reasons (s.line l).leaks)
  else none

/-- TRIP_MARGIN follows the pinned sides, and it alone moves the condition, from NORMAL to DEGRADED or back when no
reason is left (R6, R73); a change that is not reported is latched, and the rest of the line's record stands (R7). -/
structure TripMarginFollows (l : LineId) (s t : State) : Prop where
  reasons : (t.line l).record.reasons = { (s.line l).record.reasons with tripMargin := (t.line l).pinned }
  condition : (t.line l).record.condition =
    if (t.line l).pinned = (s.line l).record.reasons.tripMargin then (s.line l).record.condition
    else if (t.line l).pinned = true then
      (if (s.line l).record.condition = .normal then .degraded else (s.line l).record.condition)
    else if (s.line l).record.condition = .degraded ∧ (s.line l).record.reasons.leak = false then .normal
    else (s.line l).record.condition
  latched : (t.line l).record.latched = { (s.line l).record.latched with lineCondition :=
    if ((t.line l).record.condition ≠ (s.line l).record.condition ∨
        (t.line l).record.reasons ≠ (s.line l).record.reasons) ∧ (conditionReport l s t).isNone = true then true
    else (s.line l).record.latched.lineCondition }
  kept : (t.line l).record = { (s.line l).record with
    reasons := (t.line l).record.reasons, condition := (t.line l).record.condition
    latched := (t.line l).record.latched }

/-- A line has an assignment exactly while it is in RINGING or REVERT_RINGING, of kind PLAIN in the first and REVERT in
the second (R34, R35). -/
structure AssignmentLaw (s : State) : Prop where
  while_ringing : ∀ l, (s.line l).asg.isSome = true ↔ (s.callState l = .ringing ∨ s.callState l = .revertRinging)
  kinds : ∀ l, ∀ a ∈ (s.line l).asg, (a.kind = .plain ↔ s.callState l = .ringing)

/-- The waiting list holds the assignments that are not placed, each once, oldest created first, and created-order
numbers are distinct and below the count (R34, R41). -/
structure WaitingLaw (s : State) : Prop where
  nodup : s.waiting.Nodup
  members : ∀ l, l ∈ s.waiting ↔ (s.line l).waits = true
  ordered : s.waiting.Pairwise fun l m => s.createdOf l < s.createdOf m
  counted : ∀ l, (s.line l).asg.isSome = true → s.createdOf l < s.createdCount
  distinct : ∀ l m, l ≠ m → (s.line l).asg.isSome = true → (s.line m).asg.isSome = true →
    s.createdOf l ≠ s.createdOf m

/-- The load map law (R32): every slot load is the sum of the loads of the strokes placed on the bus that ring in the
slot, a GOOD bus is within its budget in every slot, and a FAULTED bus carries no assignment. -/
structure LoadLaw (s : State) : Prop where
  sums : ∀ bus g, (s.bus bus).loads.get g = (allLines.map fun l => (s.line l).loadOn s.pattern bus g).sum
  within : ∀ bus, (s.bus bus).status = .good → ∀ g, (s.bus bus).loads.get g ≤ (s.bus bus).budget
  empty : ∀ bus, (s.bus bus).status = .faulted → ∀ l, (s.line l).placedBus ≠ some bus

/-- The law of the relays (R57, R64): a line is in ARM or RING only while its assignment is placed on the burst's bus
and that bus is GOOD; in SILENT its record holds no burst. -/
structure RelayLaw (s : State) : Prop where
  drivenPlaced : ∀ l, (s.line l).relay.phase = .arm ∨ (s.line l).relay.phase = .ring →
    (s.line l).placedBus = (s.line l).relay.bus ∧ (s.line l).relay.bus.isSome = true
  drivenGood : ∀ l bus, (s.line l).relay.phase = .arm ∨ (s.line l).relay.phase = .ring →
    (s.line l).relay.bus = some bus → (s.bus bus).status = .good
  silentEmpty : ∀ l, (s.line l).relay.phase = .silent →
    (s.line l).relay.bus = none ∧ (s.line l).relay.side = none ∧ (s.line l).relay.lastSlot = none ∧
      (s.line l).relay.quenchKind = none ∧ (s.line l).relay.timer = none
  quenchKind : ∀ l, (s.line l).relay.phase = .quench ↔ (s.line l).relay.quenchKind.isSome = true

/-- The laws of ringing together. -/
structure RingingLaws (s : State) : Prop where
  waiting : WaitingLaw s
  loads : LoadLaw s
  relays : RelayLaw s

/-! ### The code table (02) -/

/-- Whether a burst is valid (R21). -/
def Burst.Valid (b : Burst) : Prop := b.start ≤ 10 ∧ 1 ≤ b.length ∧ b.length ≤ 11 ∧ b.start + b.length ≤ 11

/-- Whether a pattern is valid (R22): at most four valid bursts, each starting at least one slot after the end of every
one before it. -/
structure Pattern.Valid (p : Pattern) : Prop where
  count : p.length ≤ 4
  bursts : ∀ b ∈ p, b.Valid
  parted : p.Pairwise fun b c => b.start + b.length + 1 ≤ c.start

/-- Every code holds a valid pattern, and no party's code is empty (R22, R23). -/
structure CodeLaw (s : State) : Prop where
  valid : ∀ c, (s.pattern c).Valid
  usable : ∀ l, ∀ p ∈ (s.line l).record.parties, s.pattern p.code ≠ []

/-! ### Parameters, trip records and the condition (01, 05, 07, 11) -/

/-- The parameters lie within their ranges (R75, R122, R175). -/
structure ParamLaw (p : Params) : Prop where
  confirm : 2 ≤ p.confirm ∧ p.confirm ≤ 6
  window : p.confirm ≤ p.window ∧ p.window ≤ 20
  marginDefault : 20 ≤ p.marginDefault ∧ p.marginDefault ≤ 100
  tmin : 20 ≤ p.tmin ∧ p.tmin ≤ 100
  tmax : p.tmin + 20 ≤ p.tmax ∧ p.tmax ≤ 200
  bias : 24 ≤ p.bias ∧ p.bias ≤ 72
  ringCycles : 1 ≤ p.ringCycles ∧ p.ringCycles ≤ 60
  interdigit : 2 ≤ p.interdigitS ∧ p.interdigitS ≤ 10
  permanentSignal : 10 ≤ p.permanentSignalS ∧ p.permanentSignalS ≤ 120
  revertHold : 5 ≤ p.revertHoldS ∧ p.revertHoldS ≤ 60
  testTick : 1 ≤ p.testTickS ∧ p.testTickS ≤ 60
  degradeLimit : 5 ≤ p.degradeLimit ∧ p.degradeLimit ≤ 200
  faultLimit : p.degradeLimit + 10 ≤ p.faultLimit ∧ p.faultLimit ≤ 500

/-- A side record keeps its ranges, and its threshold and pinned field are those R73 computes (R72, R73). -/
structure SideLaw (p : Params) (y : SideRecord) : Prop where
  baseline : y.baseline ≤ 6000
  margin : 20 ≤ y.margin ∧ y.margin ≤ 100
  threshold : y.threshold = max p.tmin (min p.tmax ((y.baseline + 9) / 10 + y.margin))
  pinned : y.pinned = true ↔ p.tmax < (y.baseline + 9) / 10 + y.margin

/-- A line's condition and reasons agree, TRIP_MARGIN with the pinned sides (R6), and its burst's sum is of samples of
at most 600 dmA (R77). -/
structure HealthLaw (p : Params) (x : Line) : Prop where
  tip : SideLaw p x.sides.tip
  ring : SideLaw p x.sides.ring
  tripMargin : x.record.reasons.tripMargin = (x.sides.tip.pinned || x.sides.ring.pinned)
  normal : x.record.condition = .normal ↔ (x.record.reasons.leak = false ∧ x.record.reasons.tripMargin = false)
  faulted : x.record.condition = .faulted → x.record.reasons.leak = true
  samples : x.det.sampleSum ≤ 600 * x.det.sampleCount

/-- The parameters, and every line's trip records and condition. -/
structure HealthLaws (s : State) : Prop where
  params : ParamLaw s.params
  lines : ∀ l, HealthLaw s.params (s.line l)

/-! ### Measurement (07) -/

/-- The call state whose lines a job serves (R110). -/
def JobKind.state : JobKind → CallState
  | .originId => .originating
  | .answerSide => .revertCheck
  | .hostTest => .idle
  | .insulation => .idle

/-- The runnable jobs with their ranks (R112, R116, R117): the entries of SILENT lines, and an insulation job on each
eligible line while the backlog is not 0. -/
def State.runnableJobs (s : State) : List (Nat × LineId × JobKind) :=
  ((s.msu.jobs.filter fun j => (s.line j.line).relay.phase = .silent).filterMap fun j =>
    match j.kind with
    | .originId => some (1, j.line, .originId)
    | .answerSide => some (3, j.line, .answerSide)
    | .hostTest => some (5, j.line, .hostTest)
    | .insulation => none) ++
  if s.msu.backlog = 0 then [] else
    (allLines.filter fun l => s.callState l = .idle && (s.line l).relay.phase = .silent &&
      s.msu.jobs.all fun j => j.line ≠ l).map fun l =>
        (if s.msu.mustRun then 2 else if 4 ≤ s.msu.backlog then 4 else 6, l, .insulation)

/-- The job list, the head and the backlog (R110 to R113, R115 to R117): one entry a line, every entry's line in its
job's state, the running job's line in its job's state and SILENT, the MUST-run flag as the backlog allows it, and the
head free only while no job is runnable. -/
structure JobLaw (s : State) : Prop where
  onePerLine : (s.msu.jobs.map JobEntry.line).Nodup
  arrivals : (s.msu.jobs.map JobEntry.arrival).Pairwise (· < ·)
  counted : ∀ j ∈ s.msu.jobs, j.arrival < s.msu.arrivalCount
  numbered : ∀ r ∈ s.msu.running, r.number < s.msu.startCount
  entries : ∀ j ∈ s.msu.jobs, j.kind ≠ .insulation ∧ s.callState j.line = j.kind.state
  running : ∀ r ∈ s.msu.running, s.callState r.line = r.kind.state ∧ (s.line r.line).relay.phase = .silent
  listed : ∀ r ∈ s.msu.running, r.kind ≠ .insulation → ∃ j ∈ s.msu.jobs, j.line = r.line ∧ j.kind = r.kind
  spends : ∀ r ∈ s.msu.running, r.kind = .insulation → 1 ≤ s.msu.backlog
  backlog : s.msu.backlog ≤ 15
  mustSet : 12 ≤ s.msu.backlog → s.msu.mustRun = true
  mustHeld : s.msu.mustRun = true → 9 ≤ s.msu.backlog
  chosen : s.msu.running = none → s.runnableJobs = []

/-- A corrected conductance that no element adds to (R125). -/
def NoElement (g : Nat) : Prop := g ≤ 39

/-- A corrected conductance in the band of a class (R125). -/
def InClass (c : Fin 4) (g : Nat) : Prop :=
  (c = 1 ∧ 300 ≤ g ∧ g ≤ 520) ∨ (c = 2 ∧ 150 ≤ g ∧ g ≤ 260) ∨ (c = 3 ∧ 70 ≤ g ∧ g ≤ 130)

/-- A corrected conductance in no class, but not below them all (R125). -/
def OutOfBands (g : Nat) : Prop :=
  (40 ≤ g ∧ g ≤ 69) ∨ (131 ≤ g ∧ g ≤ 149) ∨ (261 ≤ g ∧ g ≤ 299) ∨ 521 ≤ g

/-- The parties sought, mapped to the result (R126). -/
def SoughtGive (sought : List Party) (r : IdResult) : Prop :=
  (sought = [] → r = .unidentified .noMatch) ∧ (∀ p, sought = [p] → r = .identified p.number) ∧
  (2 ≤ sought.length → r = .candidates (sought.map Party.number))

/-! ### Loop scanner, dial reception and call control (06, 08, 09) -/

/-- A line's scanner record (R92 to R95): the closed-hold timer runs only on a closed loop and the break timer only on
an open one, and none of the two runs while the line is blind. -/
structure ScannerLaw (x : Line) : Prop where
  closedHold : x.scan.closedHold ≠ none → x.scan.closed = true
  breakTimer : x.scan.breakTimer ≠ none → x.scan.closed = false
  blind : x.relay.phase ≠ .silent →
    x.scan.closedHold = none ∧ x.scan.breakTimer = none ∧ x.scan.reacquiring = false ∧ x.scan.filterCount = 0
  filter : x.scan.filterCount ≤ 2
  reacquire : x.scan.reacquireCount ≤ 2 ∧ (x.scan.reacquiring = false → x.scan.reacquireCount = 0)

/-- A line's dial reception record (R99 to R105): the counts and the queue within their ranges, a collection exactly
while the line is ORIGINATING. -/
structure DialLaw (x : Line) : Prop where
  pulses : x.dial.pulseCount ≤ 11
  received : x.dial.received ≤ 16
  queue : x.dial.digits.length ≤ 16
  digits : ∀ d ∈ x.dial.digits, d ≤ 9
  collection : x.dial.collection ≠ .off ↔ x.record.callState = .originating
  makeTimer : x.scan.makeTimer ≠ none → x.dial.collection = .opened
  interdigit : x.dial.interdigit ≠ none → x.dial.collection = .opened

/-- A line's call control record (R5, R130, R147, R156): each item is held only in the states it belongs to, and a
FAULTED line is in no ringing or reverting state (R121). -/
structure CallLaw (x : Line) : Prop where
  unequipped : x.record.callState = .unequipped ↔ x.record.parties = []
  ringingParty : x.call.ringingParty ≠ none ↔ x.record.callState = .ringing
  pending : x.call.originationPending = true → x.record.callState = .originating
  permanentSignal : x.call.permanentSignal ≠ none ↔ x.record.callState = .originating
  revertHold : x.call.revertHold ≠ none → x.record.callState = .revertHold
  called : x.call.called ≠ none ↔
    (x.record.callState = .revertHold ∨ x.record.callState = .revertRinging ∨ x.record.callState = .revertCheck)
  earlyPickups : x.record.earlyPickups ≤ 3 ∧
    (x.record.callState = .revertHold ∨ x.record.callState = .revertRinging ∨ x.record.callState = .revertCheck →
      x.record.earlyPickups ≤ 2)
  notFaulted : x.record.condition = .faulted → x.record.callState ≠ .ringing ∧ x.record.callState ≠ .revertHold ∧
    x.record.callState ≠ .revertRinging ∧ x.record.callState ≠ .revertCheck

/-- The calls of all lines: their assignments, their jobs, and their scanner, dial reception and call records. -/
structure CallLaws (s : State) : Prop where
  assignments : AssignmentLaw s
  jobs : JobLaw s
  scanner : ∀ l, ScannerLaw (s.line l)
  dial : ∀ l, DialLaw (s.line l)
  call : ∀ l, CallLaw (s.line l)

/-! ### Reports and the link (10, 11) -/

/-- The report queue (R103, R178): at most 32 entries, at most one DIGITS marker a line, and a marker is owed only
before the line's ORIGINATE has fallen due and with none pending. -/
structure ReportLaw (s : State) : Prop where
  bounded : s.reports.queue.length ≤ 32
  markers : ∀ l, s.reports.queue.count (.digits l) ≤ 1
  owed : ∀ l, (s.line l).dial.markerOwed = true →
    (s.line l).dial.originationReported = false ∧ s.markerPending l = false

/-- The link (R163, R166, R169): a reply is in hand exactly out of IDLE, a controller that listens only has none, a
receiver in HUNT holds nothing, and one in ASSEMBLE holds as much of its frame as its next position says. -/
structure LinkLaw (k : Link) : Prop where
  inHand : k.replyState = .idle ↔ k.reply = none
  turnaround : k.turnaround ≠ none ↔ k.replyState = .pending
  silent : k.address = 0 ∨ k.address = 31 → k.replyState = .idle
  hunting : k.receiver.mode = .hunt → k.receiver = .hunting
  gapTimer : k.receiver.mode = .assemble → k.receiver.gapTimer ≠ none
  length : k.receiver.length ≤ 48
  atStart : k.receiver.next = .kind ∨ k.receiver.next = .length → k.receiver.payload = []
  inPayload : k.receiver.next = .payload → k.receiver.payload.length < k.receiver.length
  atCheck : k.receiver.next = .checkLow ∨ k.receiver.next = .checkHigh →
    k.receiver.payload.length = k.receiver.length
  broadcast : k.receiver.mode = .assemble → (k.receiver.broadcast = true ↔ k.receiver.address = 31)

end Sys2Proof.Machine
end

