-- ==== Sys2Proof/WellFormed.lean ====
section
/-! DEFINITION. Which commands a frame of the link can spell (R164, R173). The types of the operands already bound
everything else: bytes, lines, slots and strap values. -/

namespace Sys2Proof

/-- Whether a frame can carry the command: CONFIGURE_LINE lists at most 8 parties (R173), SET_CODE's bursts fit in a
payload of 48 bytes (R164), and UNKNOWN_KIND's kind is not one R173 lists, in a payload of at most 48 bytes. Every
other command and event is well formed. -/
def Instr.wellFormed : Instr → Bool
  | .configureLine _ _ _ _ _ parties => decide (parties.length ≤ 8)
  | .setCode _ bursts => decide (1 + 2 * bursts.length ≤ Config.payloadMax)
  | .unknownKind kind payload => decide (kind ∉ listedKinds) && decide (payload.length ≤ Config.payloadMax)
  | _ => true

/-- The same as a proposition. -/
abbrev Instr.WellFormed (i : Instr) : Prop := i.wellFormed = true

end Sys2Proof
end

