-- ==== Sys2Proof/Certificates/Slice0/Obligations.lean ====
section
/-! DEFINITION. The statements for the provers. -/

open Sys2Proof Sys2Proof.Machine

/-! ### The machine -/

/-- A step takes the command at the front of the queue with the queue's rest, and on an empty queue the block idles
(the model's choice, log entry 5); every command and event has an effect on every state, and none touches the queue.
-/
def Obligations.StepTakesFrontCommand : Prop :=
  ((∀ (c : Instr) (s : State), step { s with pending := c :: s.pending } = exec c s) ∧
   (∀ s : State, s.pending = [] → step s = .next s)) ∧
  (∀ (c : Instr) (s : State), ∃ t, exec c s = .next t ∧ t.pending = s.pending)

/-! ### Frames and commands (10, 11) -/

/-- The command read from the payload of a well-formed command's frame is that command, with every field as it was; a
kind that is not listed is UNKNOWN_KIND. The payload fits in a frame. -/
def Obligations.DecodeOfEncodeIsTheCommand : Prop :=
  ∀ i : Instr, i.WellFormed → ∀ (k : Byte) (p : List Byte), encodeCommand i = some (k, p) →
    p.length ≤ 48 ∧
    ((∃ k' p', i = .unknownKind k' p') → decodeCommand k p = .error .unknownKind) ∧
    ((¬∃ k' p', i = .unknownKind k' p') → decodeCommand k p = .ok i)

/-- Which good frames are carried out (R173): those of a listed kind and a length listed for it, and no byte of their
payload is dropped; the others are UNKNOWN_KIND, whatever their length, or BAD_LENGTH. -/
def Obligations.FramesReadAsCommands : Prop :=
  (∀ (k : Byte) (p : List Byte) (i : Instr), decodeCommand k p = .ok i → encodeCommand i = some (k, p)) ∧
  (∀ (k : Byte) (p : List Byte),
     (decodeCommand k p = .error .unknownKind ↔ k ∉ listedKinds) ∧
     (decodeCommand k p = .error .badLength ↔ k ∈ listedKinds ∧ ¬lengthListed k p.length))

/-- The characters of a good frame addressed to a station that is ready run the command the frame carries, and leave
the receiver ready in HUNT (R164 to R168): the whole frame does what the command does. -/
def Obligations.GoodFrameRunsItsCommand : Prop :=
  ∀ (i : Instr) (s : State), i.WellFormed → Ready s → ∀ (k : Byte) (p : List Byte), encodeCommand i = some (k, p) →
    runAll (Frame.events ⟨s.link.address.setWidth 8, k, p⟩) s = exec i s

/-- The frames that run no command of the line processor (R168, R170, R171, R173): a listed kind with an unlisted
length is answered with BAD_LENGTH; a bad check sets latch CHECK and does nothing else; a good broadcast is a RESTART
that is not answered, or is ignored; a good frame that completes over a reply in hand sets latch OVERRUN and does
nothing else. -/
def Obligations.FramesThatRunNoCommand : Prop :=
  (∀ (k : Byte) (p : List Byte) (s : State), p.length ≤ 48 → k ∈ listedKinds → ¬lengthListed k p.length → Ready s →
     runAll (Frame.events ⟨s.link.address.setWidth 8, k, p⟩) s = .next (reply (0x80 + k) ⟨s, .badLength, []⟩)) ∧
  (∀ (b k : Byte) (p : List Byte) (lo hi : Byte) (s : State), p.length ≤ 48 → s.link.receiver = .hunting →
     (b = 31 ∨ (s.listensOnly = false ∧ b = s.link.address.setWidth 8)) →
     dbyte lo hi ≠ frameCheck (Frame.covered ⟨b, k, p⟩) →
     runAll (Frame.eventsChecked ⟨b, k, p⟩ lo hi) s =
       .next { s with link := { s.link with latches := { s.link.latches with check := true } } }) ∧
  (∀ (k : Byte) (p : List Byte) (s : State), p.length ≤ 48 → s.link.receiver = .hunting →
     (k = 0x02 ∧ p = [] → runAll (Frame.events ⟨31, k, p⟩) s = exec (.restart true) s) ∧
     (¬(k = 0x02 ∧ p = []) → runAll (Frame.events ⟨31, k, p⟩) s = .next s)) ∧
  (∀ (k : Byte) (p : List Byte) (s : State), p.length ≤ 48 → s.listensOnly = false → s.link.receiver = .hunting →
     s.link.replyState ≠ .idle →
     runAll (Frame.events ⟨s.link.address.setWidth 8, k, p⟩) s =
       .next { s with link := { s.link with latches := { s.link.latches with overrun := true } } })

/-- What the receiver does with one character (R166, R167): in HUNT one that does not concern the controller is
ignored and an address character that does starts an assembly; in ASSEMBLE a framing error discards the frame with
latch FRAMING, a length above 48 with latch LENGTH, and another address character without a latch. A gap discards it
with latch GAP, the turnaround begins the sending of a reply, and its end leaves none in hand (R167, R169). On the
pair a character is eleven bits, read back as it was sent; the straps give the rate, and so the times of a character,
the turnaround and the gap limit; the controller drives the pair, at rest 1, with its reply's characters back to back
and only while it sends (R162, R169). -/
def Obligations.ReceiverAndLinkTimers : Prop :=
  (∀ (c : LinkChar) (s : State),
     (s.link.receiver.mode = .hunt →
       ¬(c.stop = true ∧ charIsAddress c = true ∧ s.concerns (charByte c) = true) →
       exec (.linkCharacter c) s = .next s) ∧
     (c.stop = true → charIsAddress c = true → s.concerns (charByte c) = true →
       exec (.linkCharacter c) s = .next { s with link := { s.link with receiver :=
         { mode := .assemble, broadcast := decide (charByte c = 31), next := .kind, address := charByte c, kind := 0,
           length := 0, payload := [], checkLow := 0, gapTimer := some 33 } } }) ∧
     (s.link.receiver.mode = .assemble → c.stop = true → charIsAddress c = true → s.concerns (charByte c) = false →
       exec (.linkCharacter c) s = .next { s with link := { s.link with receiver := .hunting } }) ∧
     (s.link.receiver.mode = .assemble → c.stop = false →
       exec (.linkCharacter c) s = .next { s with link := { s.link with
         receiver := .hunting, latches := { s.link.latches with framing := true } } }) ∧
     (s.link.receiver.mode = .assemble → s.link.receiver.next = .length → c.stop = true → charIsAddress c = false →
       48 < (charByte c).toNat →
       exec (.linkCharacter c) s = .next { s with link := { s.link with
         receiver := .hunting, latches := { s.link.latches with length := true } } })) ∧
  (∀ s : State,
     (s.link.receiver.mode = .assemble → s.link.receiver.gapTimer ≠ none →
       exec .gapTimerExpiry s = .next { s with link := { s.link with
         receiver := .hunting, latches := { s.link.latches with gap := true } } }) ∧
     (s.link.replyState = .pending →
       exec .turnaroundExpiry s = .next { s with link := { s.link with replyState := .sending, turnaround := none } }) ∧
     (s.link.replyState = .sending →
       exec .replyEnd s = .next { s with link := { s.link with replyState := .idle, reply := none } })) ∧
  (∀ (c : LinkChar) (rests : Nat) (after : List Bool),
     (charBits c).length = 11 ∧ (charBits c)[0]? = some false ∧
     (∀ i, i < 9 → (charBits c)[i + 1]? = some (c.data.getLsbD i)) ∧
     (charBits c)[10]? = some c.stop ∧
     readCharacter (List.replicate rests true ++ (charBits c ++ after)) =
       some (c, if c.stop = true then after else after.dropWhile fun b => !b) ∧
     readCharacter (List.replicate rests true) = none) ∧
  ((∀ k : Link, (k.rate = 0 → bitRate k.rate = 1200 ∧ k.duration 11 = 91667 ∧ k.duration 33 = 275000) ∧
     (k.rate = 1 → bitRate k.rate = 2400 ∧ k.duration 11 = 45833) ∧
     (k.rate = 2 → bitRate k.rate = 4800 ∧ k.duration 11 = 22917) ∧
     (k.rate = 3 → bitRate k.rate = 9600 ∧ k.duration 11 = 11458 ∧ k.duration 22 = 22917 ∧ k.duration 33 = 34375)) ∧
   (∀ s : State, (s.link.replyState ≠ .sending → ∀ n, s.drivenLevel n = true) ∧
     (s.link.replyState = .sending → ∀ f, s.link.reply = some f →
       s.drivenBits.length = 11 * (f.payload.length + 5) ∧
       ∀ i c, f.characters[i]? = some c → ∀ b, b < 11 → (charBits c)[b]? = some (s.drivenLevel (11 * i + b)))))

/-- What building a reply does (R163, R169, R171, R173, R174): at a strap address 1 to 30 the reply is PENDING with
the turnaround running, its payload is the result, the status byte and the fields, and the latches and the
reports-lost flag, whose state the status byte carries, are cleared; a controller that listens only builds none. -/
def Obligations.ReplyCarriesAndClearsTheLatches : Prop :=
  ∀ (kind : Byte) (u : State) (result : ResultCode) (fields : List Byte),
    (u.link.address = 0 ∨ u.link.address = 31 → reply kind ⟨u, result, fields⟩ = u) ∧
    (u.link.address ≠ 0 → u.link.address ≠ 31 →
      ∃ status : Byte,
        reply kind ⟨u, result, fields⟩ =
          { u with
            link := { u.link with
              replyState := .pending, reply := some ⟨0, kind, result.byte :: status :: fields⟩, turnaround := some 22,
              latches := ⟨false, false, false, false, false⟩ },
            reports := { u.reports with lost := false } } ∧
        status.getLsbD 0 = !u.reports.queue.isEmpty ∧ status.getLsbD 1 = u.reports.lost ∧
        status.getLsbD 2 = u.link.latches.framing ∧ status.getLsbD 3 = u.link.latches.gap ∧
        status.getLsbD 4 = u.link.latches.length ∧ status.getLsbD 5 = u.link.latches.check ∧
        status.getLsbD 6 = u.link.latches.overrun ∧ status.getLsbD 7 = false)

/-- Every command of the link taken with no reply in hand is answered by one reply, of kind 0x80 plus its own, and of
kind 0xFF for an unlisted kind; the reply carries the latches and whether reports wait after the command, and the
straps and the receiver are as they were. A controller that listens only builds no reply and leaves its link as it was
(R163); that its command rows run a command all the same is the model's choice (log entry 6), since no frame hands it
one. -/
def Obligations.EveryCommandIsAnswered : Prop :=
  ∀ (i : Instr) (s : State) (k : Byte) (p : List Byte), encodeCommand i = some (k, p) → s.link.replyState = .idle →
    ∃ t, exec i s = .next t ∧
      (s.listensOnly = true → t.link = s.link) ∧
      (s.listensOnly = false → ∃ kind result status : Byte, ∃ fields : List Byte,
        t.link = { s.link with
          replyState := .pending, reply := some ⟨0, kind, result :: status :: fields⟩, turnaround := some 22,
          latches := ⟨false, false, false, false, false⟩ } ∧
        ((∃ k' p', i = .unknownKind k' p') → kind = 0xFF ∧ result = 1) ∧
        ((¬∃ k' p', i = .unknownKind k' p') → kind = 0x80 + k) ∧
        t.reports.lost = false ∧ status.getLsbD 0 = !t.reports.queue.isEmpty ∧
        status.getLsbD 2 = s.link.latches.framing ∧ status.getLsbD 3 = s.link.latches.gap ∧
        status.getLsbD 4 = s.link.latches.length ∧ status.getLsbD 5 = s.link.latches.check ∧
        status.getLsbD 6 = s.link.latches.overrun)

/-- A reply's payload fits in a frame: at most 48 bytes (R164, R179, R180). -/
def Obligations.EveryReplyFitsInAFrame : Prop :=
  ∀ (i : Instr) (s : State), encodeCommand i ≠ none → s.listensOnly = false → WaitingLaw s → CodeLaw s →
    ∀ t, exec i s = .next t → ∀ f ∈ t.link.reply, f.payload.length ≤ 48

/-! ### Power-on and the laws of every state -/

/-- The values of power-on, whatever stood before: the line table (R17), the slot counter and the code table (R20,
R24), the planner (R33, R55), the sequencer (R70), the detector (R90), the scanner and dial reception (R108), the
measurement unit (R128), call control (R146, R160), the link (R172), the parameters, the enables and the queue (R175,
R176, R178). -/
def Obligations.PowerOnValues : Prop :=
  ∀ (address : BitVec 5) (rate : BitVec 2) (goodA goodB : Bool) (s : State),
    ∃ t, exec (.powerOn address rate goodA goodB) s = .next t ∧
      (∀ l, (t.line l).record =
        { parties := [], loads := ⟨0, 0⟩, dialMode := .each, blockCount := 7, callState := .unequipped,
          condition := .normal, reasons := ⟨false, false⟩, earlyPickups := 0, latched := ⟨⟨false, false⟩, false⟩ }) ∧
      (∀ l, (t.line l).asg = none ∧ (t.line l).relay =
        { phase := .silent, bus := none, side := none, lastSlot := none, quenchKind := none, quiet := true,
          timer := none } ∧
        (t.line l).relay.feedClosed = false ∧ (t.line l).relay.busSelect = none ∧
        ∀ sd, (t.line l).relay.ringingRelay sd = false) ∧
      (∀ l sd, (t.line l).sides.get sd = { baseline := 0, margin := 60, threshold := 60, pinned := false }) ∧
      (∀ l, (t.line l).det =
        { mode := .idle, side := none, run := 0, windowLength := 0, sampleSum := 0, sampleCount := 0,
          verifyCause := none, verifyRunning := false }) ∧
      (∀ l, (t.line l).scan.closed = false ∧ (t.line l).scan.filterCount = 0 ∧ (t.line l).scan.reacquiring = false ∧
        (t.line l).scan.reacquireCount = 0 ∧ (t.line l).scan.closedHold = none ∧ (t.line l).scan.breakTimer = none ∧
        (t.line l).scan.makeTimer = none) ∧
      (∀ l, (t.line l).dial =
        { collection := .off, pulseCount := 0, received := 0, interdigit := none, digits := [],
          errors := ⟨false, false, false⟩, complete := false, originationReported := false, markerOwed := false }) ∧
      (∀ l, (t.line l).call =
        { ringingParty := none, originationPending := false, permanentSignal := none, called := none, caller := none,
          recallOn := false, revertHold := none }) ∧
      (∀ l sd, (t.line l).leaks.get sd = 0) ∧
      t.codes.toList = [[⟨0, 8⟩], [⟨0, 2⟩, ⟨4, 2⟩], [⟨0, 6⟩, ⟨8, 2⟩], [⟨0, 2⟩, ⟨4, 6⟩], [⟨0, 2⟩, ⟨3, 2⟩, ⟨6, 2⟩],
        [], [], []] ∧
      t.slot = 0 ∧ t.waiting = [] ∧
      (∀ bus, (t.bus bus).budget = 40 ∧ (∀ g, (t.bus bus).loads.get g = 0) ∧ (t.bus bus).stateLatch = false ∧
        (t.bus bus).filterTimer = none) ∧
      t.busA.status = (if goodA then .good else .faulted) ∧ t.busB.status = (if goodB then .good else .faulted) ∧
      t.msu.jobs = [] ∧ t.msu.running = none ∧ t.msu.backlog = 0 ∧ t.msu.mustRun = false ∧ t.msu.pointer = 0 ∧
      t.msu.tickTimer = 10000 ∧
      t.params =
        { confirm := 3, window := 12, marginDefault := 60, tmin := 40, tmax := 140, bias := 48, ringCycles := 20,
          interdigitS := 4, permanentSignalS := 40, revertHoldS := 30, testTickS := 10, degradeLimit := 20,
          faultLimit := 100 } ∧
      t.link.address = address ∧ t.link.rate = rate ∧ t.link.receiver.mode = .hunt ∧ t.link.receiver.payload = [] ∧
      t.link.receiver.broadcast = false ∧ t.link.receiver.gapTimer = none ∧ t.link.replyState = .idle ∧
      t.link.reply = none ∧ t.link.turnaround = none ∧ t.link.latches = ⟨false, false, false, false, false⟩ ∧
      t.reports = { queue := [], lost := false, enables := ⟨true, true, true⟩ }

/-- The laws hold after reset, and after power-on with any straps and inputs. Reset's own straps and inputs are the
model's choice (log entry 1). -/
def Obligations.LawsHoldAtPowerOn : Prop :=
  State.reset = State.powerOn 1 0 true true ∧
  ∀ (address : BitVec 5) (rate : BitVec 2) (goodA goodB : Bool),
    CallLaws (State.powerOn address rate goodA goodB) ∧ RingingLaws (State.powerOn address rate goodA goodB) ∧
    CodeLaw (State.powerOn address rate goodA goodB) ∧ HealthLaws (State.powerOn address rate goodA goodB) ∧
    ReportLaw (State.powerOn address rate goodA goodB) ∧ LinkLaw (State.powerOn address rate goodA goodB).link

/-- Every step keeps the laws of calls: assignments exactly while ringing, one job a line in its job's state, the head
free only while no job is runnable (the arbiter chooses at once, in the event itself), and every timer and item of a
call only in the states it belongs to, and no FAULTED line in a ringing or reverting state (R5, R35, R94, R99, R110,
R112, R116, R117, R130, R147, R156). -/
def Obligations.StepKeepsTheCallLaws : Prop :=
  ∀ s t : State, CallLaws s → step s = .next t → CallLaws t

/-- Every step keeps the laws of ringing: the waiting list, the load map law with each GOOD bus within its budget, and
relays driven only for an assignment placed on a GOOD bus (R32, R35, R41, R57, R64). -/
def Obligations.StepKeepsTheRingingLaws : Prop :=
  ∀ s t : State, CallLaws s → RingingLaws s → step s = .next t → RingingLaws t

/-- Every step keeps every code's pattern valid and every party's code not empty (R22, R23). -/
def Obligations.StepKeepsTheCodeLaw : Prop :=
  ∀ s t : State, CodeLaw s → step s = .next t → CodeLaw t

/-- Every step keeps the parameters and the trip records in their ranges, the thresholds as computed, and the
condition in agreement with its reasons (R6, R72, R73, R75, R122). -/
def Obligations.StepKeepsTheHealthLaws : Prop :=
  ∀ s t : State, HealthLaws s → step s = .next t → HealthLaws t

/-- Every step keeps the report queue at 32 entries or fewer, with one DIGITS marker a line at most (R103, R178). -/
def Obligations.StepKeepsTheReportLaw : Prop :=
  ∀ s t : State, ReportLaw s → step s = .next t → ReportLaw t

/-- Every step keeps the link's law: a controller strapped 0 or 31 never has a reply in hand, and the receiver's
buffer is as its position says (R163, R166, R167, R169). -/
def Obligations.StepKeepsTheLinkLaw : Prop :=
  ∀ s t : State, LinkLaw s.link → step s = .next t → LinkLaw t.link

/-! ### The line table (01) -/

/-- CONFIGURE_LINE accepted (R6, R7, R9, R10, R11, R92, R106): the table sorted, the loads and the block count
clamped, the margins at the default with their thresholds, TRIP_MARGIN and the condition with it, the call state by
the state found and the parties stored. A line it makes UNEQUIPPED has its scanner record frozen with reacquiring no,
the reacquisition count 0 and its timers stopped, and its digit queue emptied with the collection over; a line it
equips begins sampling from the held loop state with the filter count 0 and reacquiring no; on any other line both
records stand. The leak values, the TRIP_NOISE latch, the early pickups, the assignment, the relays, the detector and
the call record of the line stand, and so do the other lines and the planner. It queues, in this order, the
TEST_RESULT of an aborted line test, PARKED, and LINE_CONDITION for a change of condition or reasons; that one is
latched on a line the command leaves UNEQUIPPED (the model's reading, log entry 9) or with its reports disabled. -/
def Obligations.ConfigureLineAccepted : Prop :=
  ∀ (l : LineId) (tip ring count : Byte) (mode : DialMode) (ps : List Party) (s : State),
    ps.length ≤ 8 → s.callState l = .unequipped ∨ s.callState l = .idle ∨ s.callState l = .blocked →
    (ps.map Party.number).Nodup → (ps.map fun p => (p.side, p.code)).Nodup → (∀ p ∈ ps, s.pattern p.code ≠ []) →
    ∃ u, exec (.configureLine (lineByte l) tip ring mode.byte count (ps.map Party.field)) s =
        .next (reply 0x90 ⟨u, .ok, [byteOf (min 20 tip.toNat), byteOf (min 20 ring.toNat),
          byteOf (max 1 (min 16 count.toNat)), (u.callState l).byte]⟩) ∧
      (u.line l).record.parties.Perm ps ∧
      (u.line l).record.parties.Pairwise (fun p q => p.number < q.number) ∧
      (u.line l).record.loads = ⟨min 20 tip.toNat, min 20 ring.toNat⟩ ∧
      (u.line l).record.dialMode = mode ∧ (u.line l).record.blockCount = max 1 (min 16 count.toNat) ∧
      (ps = [] → u.callState l = .unequipped) ∧
      (ps ≠ [] → s.callState l = .unequipped → (s.line l).scan.closed = false → u.callState l = .idle) ∧
      (ps ≠ [] → s.callState l = .unequipped → (s.line l).scan.closed = true →
        u.callState l = .parked ∧ (.parked l ∈ u.reports.queue ∨ u.reports.lost = true)) ∧
      (u.line l).record.condition =
        (if (u.line l).record.reasons.tripMargin = (s.line l).record.reasons.tripMargin then
          (s.line l).record.condition
         else if (u.line l).record.reasons.tripMargin = true then
          (if (s.line l).record.condition = .normal then .degraded else (s.line l).record.condition)
         else if (s.line l).record.condition = .degraded ∧ (s.line l).record.reasons.leak = false then .normal
         else (s.line l).record.condition) ∧
      (∀ q, q = (if ps = [] ∧ s.callState l = .idle ∧ s.hasHostTest l = true then
            queueWith s.reports.queue (.testResult l none) else s.reports.queue) →
        ∀ q', q' = (if ps = [] ∧ s.callState l ≠ .unequipped then q.filter (· ≠ .digits l)
          else if ps ≠ [] ∧ s.callState l = .unequipped ∧ (s.line l).scan.closed = true then queueWith q (.parked l)
          else q) →
        ((u.line l).record.condition = (s.line l).record.condition →
          (u.line l).record.reasons = (s.line l).record.reasons →
          u.reports.queue = q' ∧
            (u.line l).record.latched.lineCondition = (s.line l).record.latched.lineCondition) ∧
        ((u.line l).record.condition ≠ (s.line l).record.condition ∨
            (u.line l).record.reasons ≠ (s.line l).record.reasons →
          (ps ≠ [] ∧ s.reports.enables.lineCondition = true →
            u.reports.queue = queueWith q' (.lineCondition l (u.line l).record.condition (u.line l).record.reasons
              (s.line l).leaks) ∧
            (u.line l).record.latched.lineCondition = (s.line l).record.latched.lineCondition) ∧
          (ps = [] ∨ s.reports.enables.lineCondition = false →
            u.reports.queue = q' ∧ (u.line l).record.latched.lineCondition = true))) ∧
      (ps ≠ [] → s.callState l ≠ .unequipped → u.callState l = s.callState l) ∧
      (∀ sd, (u.line l).sides.get sd =
        computeThreshold s.params { (s.line l).sides.get sd with margin := s.params.marginDefault }) ∧
      (u.line l).record.reasons.leak = (s.line l).record.reasons.leak ∧
      (u.line l).record.reasons.tripMargin =
        (((u.line l).sides.get .tip).pinned || ((u.line l).sides.get .ring).pinned) ∧
      (u.line l).record.latched.noise = (s.line l).record.latched.noise ∧
      (u.line l).record.earlyPickups = (s.line l).record.earlyPickups ∧
      (u.line l).leaks = (s.line l).leaks ∧ (u.line l).asg = (s.line l).asg ∧ (u.line l).relay = (s.line l).relay ∧
      (u.line l).det = (s.line l).det ∧ (u.line l).call = (s.line l).call ∧
      (u.line l).scan =
        (if ps = [] ∧ s.callState l ≠ .unequipped then
          { (s.line l).scan with reacquiring := false, reacquireCount := 0, closedHold := none, breakTimer := none,
                                 makeTimer := none }
        else if ps ≠ [] ∧ s.callState l = .unequipped then
          { (s.line l).scan with filterCount := 0, reacquiring := false, reacquireCount := 0 }
        else (s.line l).scan) ∧
      (u.line l).dial =
        (if ps = [] ∧ s.callState l ≠ .unequipped then
          { (s.line l).dial with collection := .off, pulseCount := 0, interdigit := none, digits := [],
                                 errors := ⟨false, false, false⟩, complete := false, markerOwed := false }
        else (s.line l).dial) ∧
      (ps = [] → s.callState l ≠ .unequipped → u.markerPending l = false) ∧
      (ps ≠ [] ∨ s.callState l ≠ .idle → u.msu.jobs = s.msu.jobs) ∧
      (ps = [] → s.callState l = .idle → JobsDropped l s u) ∧
      OthersKept l s u ∧ u = { s with lines := u.lines, msu := u.msu, reports := u.reports }

/-- CONFIGURE_LINE refused: the first check that fails (R9) gives the result, and the state is left as it was but for
the reply. -/
def Obligations.ConfigureLineRefused : Prop :=
  ∀ (l : LineId) (line tip ring mode count : Byte) (fields : List PartyField) (s : State), fields.length ≤ 8 →
    (16 ≤ line.toNat →
      exec (.configureLine line tip ring mode count fields) s = .next (reply 0x90 ⟨s, .badField, []⟩)) ∧
    (¬(s.callState l = .unequipped ∨ s.callState l = .idle ∨ s.callState l = .blocked) →
      exec (.configureLine (lineByte l) tip ring mode count fields) s = .next (reply 0x90 ⟨s, .lineState, []⟩)) ∧
    (s.callState l = .unequipped ∨ s.callState l = .idle ∨ s.callState l = .blocked →
      (2 < mode.toNat ∨ (∃ f ∈ fields, f.number.toNat < 1 ∨ 8 < f.number.toNat ∨ 1 < f.side.toNat ∨
          f.code.toNat < 1 ∨ 8 < f.code.toNat ∨ 3 < f.cls.toNat) →
        exec (.configureLine (lineByte l) tip ring mode count fields) s = .next (reply 0x90 ⟨s, .badField, []⟩)) ∧
      (∀ m : DialMode, ∀ ps : List Party, ps.length ≤ 8 →
        (¬(ps.map Party.number).Nodup →
          exec (.configureLine (lineByte l) tip ring m.byte count (ps.map Party.field)) s =
            .next (reply 0x90 ⟨s, .badField, []⟩)) ∧
        ((ps.map Party.number).Nodup → ¬(ps.map fun p => (p.side, p.code)).Nodup →
          exec (.configureLine (lineByte l) tip ring m.byte count (ps.map Party.field)) s =
            .next (reply 0x90 ⟨s, .duplicateSignature, []⟩)) ∧
        ((ps.map Party.number).Nodup → (ps.map fun p => (p.side, p.code)).Nodup →
          (∃ p ∈ ps, s.pattern p.code = []) →
          exec (.configureLine (lineByte l) tip ring m.byte count (ps.map Party.field)) s =
            .next (reply 0x90 ⟨s, .notConfigured, []⟩))))

/-- BLOCK (R13): whatever an equipped line was doing ends, with no call report, and its configuration, condition and
trip history are kept; on a line already BLOCKED nothing changes; on an UNEQUIPPED one it is refused. UNBLOCK (R15): a
BLOCKED line becomes IDLE if its loop is open, and PARKED with a PARKED report if it is closed; in every other state
it is refused. -/
def Obligations.BlockAndUnblock : Prop :=
  (∀ (l : LineId) (line : Byte) (s : State),
     (16 ≤ line.toNat → exec (.block line) s = .next (reply 0x91 ⟨s, .badField, []⟩)) ∧
     (s.callState l = .unequipped → exec (.block (lineByte l)) s = .next (reply 0x91 ⟨s, .lineState, []⟩)) ∧
     (s.callState l = .blocked → exec (.block (lineByte l)) s = .next (reply 0x91 ⟨s, .ok, [1]⟩)) ∧
     (s.callState l ≠ .unequipped → s.callState l ≠ .blocked →
       ∃ u, exec (.block (lineByte l)) s = .next (reply 0x91 ⟨u, .ok, [(s.callState l).byte]⟩) ∧
         (u.line l).record = { (s.line l).record with callState := .blocked } ∧
         (u.line l).asg = none ∧
         (u.line l).dial = { (s.line l).dial with
           collection := .off, pulseCount := 0, interdigit := none, digits := [], errors := ⟨false, false, false⟩,
           complete := false, markerOwed := false } ∧
         (u.line l).scan = { (s.line l).scan with makeTimer := none } ∧
         (u.line l).call = ⟨none, false, none, none, none, false, none⟩ ∧
         (u.line l).sides = (s.line l).sides ∧ (u.line l).leaks = (s.line l).leaks ∧
         ((s.line l).relay.phase = .silent ∨ (s.line l).relay.phase = .quench →
           (u.line l).relay = (s.line l).relay) ∧
         ((s.line l).placedBus.isSome = true → (s.line l).relay.phase = .arm ∨ (s.line l).relay.phase = .ring →
           (u.line l).relay =
             { (s.line l).relay with phase := .quench, quenchKind := some .early, timer := some 30 }) ∧
         u.reports.queue =
           (if s.hasHostTest l then queueWith s.reports.queue (.testResult l none) else s.reports.queue).filter
             (· ≠ .digits l) ∧
         JobsDropped l s u ∧ OthersKept l s u ∧
         u = { s with lines := u.lines, busA := u.busA, busB := u.busB, waiting := u.waiting, msu := u.msu,
                      reports := u.reports })) ∧
  (∀ (l : LineId) (line : Byte) (s : State),
     (16 ≤ line.toNat → exec (.unblock line) s = .next (reply 0x92 ⟨s, .badField, []⟩)) ∧
     (s.callState l ≠ .blocked → exec (.unblock (lineByte l)) s = .next (reply 0x92 ⟨s, .lineState, []⟩)) ∧
     (s.callState l = .blocked → (s.line l).scan.closed = false →
       ∃ u, exec (.unblock (lineByte l)) s = .next (reply 0x92 ⟨u, .ok, [2]⟩) ∧
         u.line l = { s.line l with record := { (s.line l).record with callState := .idle } } ∧
         OthersKept l s u ∧ u = { s with lines := u.lines, msu := u.msu }) ∧
     (s.callState l = .blocked → (s.line l).scan.closed = true →
       ∃ u, exec (.unblock (lineByte l)) s = .next (reply 0x92 ⟨u, .ok, [6]⟩) ∧
         u.line l = { s.line l with record := { (s.line l).record with callState := .parked } } ∧
         u.reports.queue = queueWith s.reports.queue (.parked l) ∧
         OthersKept l s u ∧ u = { s with lines := u.lines, msu := u.msu, reports := u.reports }))

/-- READ_LINE (R16, laid out as R180): the snapshot in every call state; the latched conditions it returns are then
clear, and nothing else changes. READ_SCHEDULE (R54, laid out as R180): the snapshot of the bus named and of the
waiting list; the bus's BUS_STATE latch is then clear, and nothing else changes. -/
def Obligations.ReadsReturnTheSnapshots : Prop :=
  (∀ (l : LineId) (line : Byte) (s : State),
     (16 ≤ line.toNat → exec (.readLine line) s = .next (reply 0x93 ⟨s, .badField, []⟩)) ∧
     ∃ u, exec (.readLine (lineByte l)) s = .next (reply 0x93 ⟨u, .ok,
         [(s.callState l).byte, (s.line l).record.condition.byte, reasonsByte (s.line l).record.reasons] ++
         wordBytes (s.line l).leaks.tip ++ wordBytes (s.line l).sides.tip.baseline ++
         [byteOf (s.line l).sides.tip.margin, byteOf (s.line l).sides.tip.threshold] ++
         wordBytes (s.line l).leaks.ring ++ wordBytes (s.line l).sides.ring.baseline ++
         [byteOf (s.line l).sides.ring.margin, byteOf (s.line l).sides.ring.threshold] ++
         [(s.line l).relay.phase.byte,
           if (s.line l).relay.phase = .silent then 0xFF else busOrNone (s.line l).relay.bus] ++
         (match (s.line l).asg with
           | none => [0, 0xFF, 0, 0, 0]
           | some a => (match a.placement with
             | .placed bus offset _ => [1, busByte bus, byteOf offset.val]
             | .waiting => [2, 0xFF, byteOf (s.waiting.idxOf l + 1)]) ++
             [byteOf a.cyclesLeft, if a.stroke1 = none then 1 else 2]) ++
         [byteOf (s.line l).record.earlyPickups, byteOf (s.line l).dial.digits.length,
           latchesByte (s.line l).record.latched]⟩) ∧
       u.line l = { s.line l with record := { (s.line l).record with latched := ⟨⟨false, false⟩, false⟩ } } ∧
       OthersKept l s u ∧ u = { s with lines := u.lines }) ∧
  (∀ (bus : Bus) (b : Byte) (s : State),
     (1 < b.toNat → exec (.readSchedule b) s = .next (reply 0xA2 ⟨s, .badField, []⟩)) ∧
     exec (.readSchedule (busByte bus)) s = .next (reply 0xA2
       ⟨s.modBus bus fun r => { r with stateLatch := false }, .ok,
         [byteOf s.slot.val, (s.bus bus).status.byte, byteOf (s.bus bus).budget] ++
         (s.bus bus).loads.toList.map byteOf ++
         [if (s.bus bus).stateLatch = true then 1 else 0, byteOf s.waiting.length] ++ s.waiting.map lineByte⟩))

/-! ### The code table (02) -/

/-- SET_CODE (R28, R29, R30): a valid pattern for a code not in use replaces the code's; a code out of range, a
malformed pattern and a code in use are refused in that order, the table as it was, and every reply carries the
pattern held. -/
def Obligations.SetCodeReplacesAnUnusedCode : Prop :=
  ∀ (c : CodeId) (code : Byte) (bursts : List BurstField) (s : State),
    (code.toNat < 1 ∨ 8 < code.toNat → exec (.setCode code bursts) s = .next (reply 0xA0 ⟨s, .badField, [code]⟩)) ∧
    (¬(readBursts bursts).Valid →
      exec (.setCode (numberByte c) bursts) s = .next (reply 0xA0 ⟨s, .badField,
        numberByte c :: (s.pattern c).flatMap fun b => [byteOf b.start, byteOf b.length]⟩)) ∧
    ((readBursts bursts).Valid →
      (∃ l, (∃ p ∈ (s.line l).record.parties, p.code = c) ∨
        (∃ a ∈ (s.line l).asg, a.stroke0.code = c ∨ ∃ k ∈ a.stroke1, k.code = c)) →
      exec (.setCode (numberByte c) bursts) s = .next (reply 0xA0 ⟨s, .codeInUse,
        numberByte c :: (s.pattern c).flatMap fun b => [byteOf b.start, byteOf b.length]⟩)) ∧
    ((readBursts bursts).Valid →
      (∀ l, (∀ p ∈ (s.line l).record.parties, p.code ≠ c) ∧
        (∀ a ∈ (s.line l).asg, a.stroke0.code ≠ c ∧ ∀ k ∈ a.stroke1, k.code ≠ c)) →
      exec (.setCode (numberByte c) bursts) s =
        .next (reply 0xA0 ⟨{ s with codes := s.codes.set c.val (readBursts bursts) c.isLt }, .ok,
          numberByte c :: bursts.flatMap fun b => [b.start, b.length]⟩))

/-- Where the half slots of an assignment's strokes fall on the cycle (R26): slot h of stroke k's half on slot offset
+ 12k + h mod 24, and an assignment of one stroke is silent for the other twelve slots. Two ringing slots of an
assignment that follow one another belong to one burst of one stroke, so every burst is parted from the next by a
silent slot (R22, R27); slot 11 of a half never rings (R21). -/
def Obligations.RingingSlotsOfAnAssignment : Prop :=
  (∀ (codes : CodeId → Pattern) (a : Assignment) (offset : Slot) (h : Nat), h < 12 →
     strokeAt codes a offset (offset + Fin.ofNat 24 h) =
       (if ringsAt (codes a.stroke0.code) h then some a.stroke0 else none) ∧
     (a.stroke1 = none → strokeAt codes a offset (offset + Fin.ofNat 24 (12 + h)) = none) ∧
     (∀ k, a.stroke1 = some k →
       strokeAt codes a offset (offset + Fin.ofNat 24 (12 + h)) =
         (if ringsAt (codes k.code) h then some k else none))) ∧
  (∀ (codes : CodeId → Pattern) (a : Assignment) (offset g : Slot), (∀ c, (codes c).Valid) →
     placeOf offset g % 12 = 11 → strokeAt codes a offset g = none) ∧
  (∀ (codes : CodeId → Pattern) (a : Assignment) (offset g : Slot), (∀ c, (codes c).Valid) →
     ∀ k, strokeAt codes a offset g = some k → ∀ m, strokeAt codes a offset (g + 1) = some m →
     m = k ∧ placeOf offset g % 12 ≤ 9 ∧ placeOf offset (g + 1) = placeOf offset g + 1 ∧
       ∃ b ∈ codes k.code, b.start ≤ placeOf offset g % 12 ∧ placeOf offset g % 12 + 1 < b.start + b.length)

/-! ### The ring planner (03) -/

/-- The result of a placement attempt (R36): the first offset from the slot after the current one on, and at it the
first GOOD bus in order of peak, bus A on equal peaks, at which no slot goes over the budget; none when no GOOD bus
fits at any offset. -/
def Obligations.PlacementIsTheFirstThatFits : Prop :=
  ∀ (s : State) (a : Assignment),
    (s.search a = none → ∀ bus o, (s.bus bus).status = .good →
      ∃ g, (s.bus bus).budget < (s.bus bus).loads.get g + loadAt s.pattern a o g) ∧
    (∀ o bus, s.search a = some (o, bus) →
      (s.bus bus).status = .good ∧
      (∀ g, (s.bus bus).loads.get g + loadAt s.pattern a o g ≤ (s.bus bus).budget) ∧
      (∀ (o' : Slot) (bus' : Bus), (o' - s.slot - 1).val < (o - s.slot - 1).val → (s.bus bus').status = .good →
        ∃ g, (s.bus bus').budget < (s.bus bus').loads.get g + loadAt s.pattern a o' g) ∧
      ((s.bus (otherBus bus)).status = .good →
        (∀ g, (s.bus (otherBus bus)).loads.get g + loadAt s.pattern a o g ≤ (s.bus (otherBus bus)).budget) →
        (s.bus bus).peak ≤ (s.bus (otherBus bus)).peak ∧
          ((s.bus bus).peak = (s.bus (otherBus bus)).peak → bus = .a)))

/-- RING accepted (R39, R137, R138): the line's test jobs are aborted, it is RINGING for the party named, and a PLAIN
assignment with the party's stroke is placed by an attempt made at once or joins the waiting list; the reply says
which. -/
def Obligations.RingCreatesAnAssignment : Prop :=
  ∀ (l : LineId) (n : PartyNo) (cycles : Byte) (s : State),
    s.callState l = .idle → (s.line l).record.condition ≠ .faulted → ∀ p, (s.line l).party n = some p →
    ((s.line l).record.loads.get p.side ≤ s.busA.budget ∨ (s.line l).record.loads.get p.side ≤ s.busB.budget) →
    ∃ u, exec (.ring (lineByte l) (numberByte n) cycles) s = .next (reply 0xB0 ⟨u, .ok, placementFields u l⟩) ∧
      u.callState l = .ringing ∧ (u.line l).call = { (s.line l).call with ringingParty := some n } ∧
      (∀ o bus,
        s.search (newAssignment .plain ⟨p.side, p.code, (s.line l).record.loads.get p.side⟩ none
          (if cycles = 0 then s.params.ringCycles else min 60 cycles.toNat) s.createdCount) = some (o, bus) →
        (u.line l).asg = some
          { kind := .plain, stroke0 := ⟨p.side, p.code, (s.line l).record.loads.get p.side⟩, stroke1 := none,
            placement := .placed bus o s.placedCount,
            cyclesLeft := if cycles = 0 then s.params.ringCycles else min 60 cycles.toNat,
            skipped := false, createdOrder := s.createdCount, waited := 0 } ∧
        placementFields u l = [0, busByte bus, byteOf o.val] ∧
        (∀ g, (u.bus bus).loads.get g = (s.bus bus).loads.get g +
          (if ringsAt (s.pattern p.code) (placeOf o g) = true ∧ placeOf o g < 12 then
            (s.line l).record.loads.get p.side else 0)) ∧
        u.bus (otherBus bus) = s.bus (otherBus bus) ∧ u.placedCount = s.placedCount + 1) ∧
      (s.search (newAssignment .plain ⟨p.side, p.code, (s.line l).record.loads.get p.side⟩ none
          (if cycles = 0 then s.params.ringCycles else min 60 cycles.toNat) s.createdCount) = none →
        (u.line l).asg = some
          { kind := .plain, stroke0 := ⟨p.side, p.code, (s.line l).record.loads.get p.side⟩, stroke1 := none,
            placement := .waiting,
            cyclesLeft := if cycles = 0 then s.params.ringCycles else min 60 cycles.toNat,
            skipped := false, createdOrder := s.createdCount, waited := 0 } ∧
        placementFields u l = [1, 0xFF, byteOf (u.waiting.idxOf l + 1)] ∧ l ∈ u.waiting ∧
        u.busA = s.busA ∧ u.busB = s.busB) ∧
      (u.line l).relay = (s.line l).relay ∧ (u.line l).sides = (s.line l).sides ∧ (u.line l).det = (s.line l).det ∧
      (u.line l).dial = (s.line l).dial ∧ (u.line l).scan.closed = (s.line l).scan.closed ∧
      u.createdCount = s.createdCount + 1 ∧ JobsDropped l s u ∧ OthersKept l s u ∧
      u.reports.queue =
        (if s.hasHostTest l then queueWith s.reports.queue (.testResult l none) else s.reports.queue) ∧
      u = { s with lines := u.lines, busA := u.busA, busB := u.busB, waiting := u.waiting,
                   createdCount := u.createdCount, placedCount := u.placedCount, msu := u.msu, reports := u.reports }

/-- RING and REVERT refused (R137, R148): the first check that fails gives the result, and nothing else changes but
the reply. -/
def Obligations.RingAndRevertRefused : Prop :=
  (∀ (l : LineId) (n : PartyNo) (line party cycles : Byte) (s : State),
     (16 ≤ line.toNat → exec (.ring line party cycles) s = .next (reply 0xB0 ⟨s, .badField, []⟩)) ∧
     (s.callState l ≠ .idle →
       exec (.ring (lineByte l) party cycles) s = .next (reply 0xB0 ⟨s, .lineState, []⟩)) ∧
     (s.callState l = .idle → (party.toNat < 1 ∨ 8 < party.toNat) →
       exec (.ring (lineByte l) party cycles) s = .next (reply 0xB0 ⟨s, .badField, []⟩)) ∧
     (s.callState l = .idle → (s.line l).record.condition = .faulted →
       exec (.ring (lineByte l) (numberByte n) cycles) s = .next (reply 0xB0 ⟨s, .lineFault, []⟩)) ∧
     (s.callState l = .idle → (s.line l).record.condition ≠ .faulted →
       (∀ p ∈ (s.line l).record.parties, p.number ≠ n) →
       exec (.ring (lineByte l) (numberByte n) cycles) s = .next (reply 0xB0 ⟨s, .notConfigured, []⟩)) ∧
     (s.callState l = .idle → (s.line l).record.condition ≠ .faulted → ∀ p, (s.line l).party n = some p →
       s.busA.budget < (s.line l).record.loads.get p.side → s.busB.budget < (s.line l).record.loads.get p.side →
       exec (.ring (lineByte l) (numberByte n) cycles) s = .next (reply 0xB0 ⟨s, .overBudget, []⟩))) ∧
  (∀ (l : LineId) (d c : PartyNo) (recallOn : Bool) (line called caller recallByte : Byte) (s : State),
     (16 ≤ line.toNat → exec (.revert line called caller recallByte) s = .next (reply 0xB4 ⟨s, .badField, []⟩)) ∧
     (s.callState l ≠ .originating →
       exec (.revert (lineByte l) called caller recallByte) s = .next (reply 0xB4 ⟨s, .lineState, []⟩)) ∧
     (s.callState l = .originating →
       (called.toNat < 1 ∨ 8 < called.toNat ∨ caller.toNat < 1 ∨ 8 < caller.toNat ∨ 1 < recallByte.toNat →
         exec (.revert (lineByte l) called caller recallByte) s = .next (reply 0xB4 ⟨s, .badField, []⟩)) ∧
       exec (.revert (lineByte l) (numberByte d) (numberByte d) (if recallOn then 1 else 0)) s =
         .next (reply 0xB4 ⟨s, .sameParty, []⟩) ∧
       (d ≠ c → (s.line l).record.condition = .faulted →
         exec (.revert (lineByte l) (numberByte d) (numberByte c) (if recallOn then 1 else 0)) s =
           .next (reply 0xB4 ⟨s, .lineFault, []⟩)) ∧
       (d ≠ c → (s.line l).record.condition ≠ .faulted →
         ((∀ p ∈ (s.line l).record.parties, p.number ≠ d) ∨ (∀ p ∈ (s.line l).record.parties, p.number ≠ c)) →
         exec (.revert (lineByte l) (numberByte d) (numberByte c) (if recallOn then 1 else 0)) s =
           .next (reply 0xB4 ⟨s, .notConfigured, []⟩)) ∧
       (d ≠ c → (s.line l).record.condition ≠ .faulted →
         ∀ p, (s.line l).party d = some p → ∀ q, (s.line l).party c = some q →
         (∀ bus, (s.bus bus).budget < (s.line l).record.loads.get p.side ∨
           (recallOn = true ∧ (s.bus bus).budget < (s.line l).record.loads.get q.side)) →
         exec (.revert (lineByte l) (numberByte d) (numberByte c) (if recallOn then 1 else 0)) s =
           .next (reply 0xB4 ⟨s, .overBudget, []⟩))))

/-- The bursts of a slot boundary, a cycle boundary like any other (R19, R60, R61, R63, R85, R95), on each line whose
assignment does not come to its end there: a burst begins in ARM on a SILENT and quiet line whose assignment rings in
the slot entered and not in the one before; a QUENCH that is due ends, the scanner of an
equipped line reacquires and a pending verify begins; every other line's relays, scanner and detector stay; and each
line's quiet field is whether it is then SILENT. -/
def Obligations.SlotBoundaryBeginsAndEndsBursts : Prop :=
  ∀ (first : Bool) (s : State),
    ∃ t, exec (.slotBoundary first) s = .next t ∧ t.slot = s.slot + 1 ∧
      (∀ l, (s.line l).endsAtBoundary s.slot = false →
        ((s.line l).relay.phase = .silent → (s.line l).relay.quiet = true →
          ∀ a bus o n, (s.line l).placed = some (a, bus, o, n) → ∀ k, strokeAt s.pattern a o (s.slot + 1) = some k →
          strokeAt s.pattern a o s.slot = none →
          (t.line l).relay = { (s.line l).relay with
            phase := .arm, bus := some bus, side := some k.side, lastSlot := (t.line l).relay.lastSlot,
            quiet := false, timer := some 20 } ∧
          (∃ b ∈ s.pattern k.code, b.start ≤ placeOf o (s.slot + 1) % 12 ∧
            placeOf o (s.slot + 1) % 12 < b.start + b.length ∧
            (t.line l).relay.lastSlot = some (s.slot + 1 + Fin.ofNat 24 (b.length - 1))) ∧
          (t.line l).scan = { (s.line l).scan with
            filterCount := 0, reacquireCount := 0, reacquiring := false, closedHold := none, breakTimer := none,
            makeTimer := none }) ∧
        ((s.line l).relay.phase = .silent →
          ((s.line l).relay.quiet = false ∨ (s.line l).placed = none ∨
            (∀ a bus o n, (s.line l).placed = some (a, bus, o, n) →
              strokeAt s.pattern a o (s.slot + 1) = none ∨ strokeAt s.pattern a o s.slot ≠ none)) →
          (t.line l).relay = { (s.line l).relay with quiet := true } ∧ (t.line l).scan = (s.line l).scan ∧
          (t.line l).det = (s.line l).det) ∧
        ((s.line l).relay.phase = .arm ∨ (s.line l).relay.phase = .ring →
          (t.line l).relay = { (s.line l).relay with quiet := false } ∧ (t.line l).scan = (s.line l).scan ∧
          (t.line l).det = (s.line l).det) ∧
        ((s.line l).relay.phase = .quench → (s.line l).relay.quiet = false →
          (s.line l).relay.quenchKind = some .normal ∨ (s.line l).relay.lastSlot = some s.slot →
          (t.line l).relay = { phase := .silent, bus := none, side := none, lastSlot := none, quenchKind := none,
                               quiet := true, timer := none } ∧
          (t.line l).scan = (if (s.line l).record.parties = [] then (s.line l).scan else
            { (s.line l).scan with reacquiring := true, reacquireCount := 0, filterCount := 0 }) ∧
          (t.line l).det = { (s.line l).det with
            verifyRunning := decide ((s.line l).det.mode = .verify) || (s.line l).det.verifyRunning }) ∧
        ((s.line l).relay.phase = .quench → (s.line l).relay.quenchKind ≠ some .normal →
          (s.line l).relay.lastSlot ≠ some s.slot →
          (t.line l).relay = { (s.line l).relay with quiet := false } ∧
          (t.line l).scan = (s.line l).scan ∧ (t.line l).det = (s.line l).det) ∧
        (t.line l).record = (s.line l).record ∧ (t.line l).dial = (s.line l).dial ∧
        (t.line l).call = (s.line l).call) ∧
      (∀ l, (t.line l).sides = (s.line l).sides ∧ (t.line l).dial = (s.line l).dial ∧
        (t.line l).leaks = (s.line l).leaks) ∧
      ((∀ l, (s.line l).endsAtBoundary s.slot = false) → t.reports = s.reports) ∧
      t.codes = s.codes ∧ t.params = s.params ∧ t.link = s.link ∧ t.createdCount = s.createdCount

/-- The timeout count of a cycle boundary (R42, R44, R45, R140, R154): an assignment's first one does not count, each
later one takes a cycle off, and at the last the assignment is removed, the line is IDLE and NO_ANSWER falls due. A
waiting assignment that goes on has waited one boundary more, saturating at 2. Where a burst would begin with the
expiry, it is cut to QUENCH if the burst sequencer takes the boundary first and does not begin if the planner does. -/
def Obligations.CycleBoundaryCountsDownRings : Prop :=
  ∀ (first : Bool) (s : State), s.slot = 23 → RelayLaw s →
    ∃ t, exec (.slotBoundary first) s = .next t ∧ t.slot = 0 ∧
      ∀ l, ∀ a, (s.line l).asg = some a → 1 ≤ a.cyclesLeft →
        (a.skipped = false → ∃ b ∈ (t.line l).asg, Assignment.SameRing { a with skipped := true } b ∧
          b.waited = (if a.placement = .waiting then min 2 (a.waited + 1) else a.waited)) ∧
        (a.skipped = true → 2 ≤ a.cyclesLeft →
          ∃ b ∈ (t.line l).asg, Assignment.SameRing { a with cyclesLeft := a.cyclesLeft - 1 } b ∧
            b.waited = (if a.placement = .waiting then min 2 (a.waited + 1) else a.waited)) ∧
        (a.skipped = true → a.cyclesLeft = 1 →
          (t.line l).asg = none ∧ t.callState l = .idle ∧
          (t.line l).relay.phase ≠ .ring ∧ (t.line l).relay.phase ≠ .arm ∧
          (a.placement = .waiting → l ∉ t.waiting) ∧
          (.noAnswer l (if a.kind = .plain then (s.line l).call.ringingParty else (s.line l).call.called) ∈
            t.reports.queue ∨ t.reports.lost = true) ∧
          (a.kind = .plain → (t.line l).call.ringingParty = none) ∧
          (a.kind = .revert → (t.line l).call.called = none ∧ (t.line l).call.caller = none) ∧
          (∀ bus o n, a.placement = .placed bus o n → ∀ k, strokeAt s.pattern a o 0 = some k →
            strokeAt s.pattern a o 23 = none → (s.line l).relay.phase = .silent → (s.line l).relay.quiet = true →
            (t.line l).relay.phase = if first = true then .quench else .silent))

/-- The walk of the waiting list at a slot boundary at which no assignment comes to its end (R42, R43), a cycle
boundary having aged the entries before it: entries that fail and are not aged are passed over; the first that fits is
placed at the offset and bus of its attempt; the first that fails aged holds the whole list back; and behind a
placement the walk goes on against the loads it leaves. -/
def Obligations.WaitingListHeadAtASlotBoundary : Prop :=
  (∀ (first : Bool) (s : State), (∀ l, (s.line l).endsAtBoundary s.slot = false) →
     ∃ t, exec (.slotBoundary first) s = .next t ∧
       (∀ l, ∀ a, (s.line l).asg = some a → ∃ b ∈ (t.line l).asg,
         b.stroke0 = a.stroke0 ∧ b.stroke1 = a.stroke1 ∧ b.createdOrder = a.createdOrder ∧ b.kind = a.kind ∧
         b.waited = s.waitedAfter a) ∧
       (∀ pre m post, s.waiting = pre ++ m :: post → s.waiting.Nodup → (∀ p ∈ pre, s.PassesOver p) →
         ∀ a, (s.line m).asg = some a →
         (∀ o bus, State.search { s with slot := s.slot + 1 } a = some (o, bus) →
           (∃ b ∈ (t.line m).asg, b.placement = .placed bus o s.placedCount) ∧ m ∉ t.waiting ∧
           ∀ p ∈ pre, p ∈ t.waiting ∧ ∀ b ∈ (s.line p).asg, ∃ c ∈ (t.line p).asg, c.placement = b.placement) ∧
         (State.search { s with slot := s.slot + 1 } a = none → 2 ≤ s.waitedAfter a →
           t.waiting = s.waiting ∧ t.busA = s.busA ∧ t.busB = s.busB ∧ t.placedCount = s.placedCount ∧
           ∀ l, (t.line l).asg.map Assignment.placement = (s.line l).asg.map Assignment.placement)) ∧
       ((∀ p ∈ s.waiting, s.PassesOver p) →
         t.waiting = s.waiting ∧ t.busA = s.busA ∧ t.busB = s.busB ∧ t.placedCount = s.placedCount ∧
         ∀ l, (t.line l).asg.map Assignment.placement = (s.line l).asg.map Assignment.placement)) ∧
  (∀ (u : State) (pre post : List LineId) (m : LineId) (a : Assignment) (o : Slot) (bus : Bus),
     (∀ p ∈ pre, ∃ b, (u.line p).asg = some b ∧ u.search b = none ∧ b.waited < 2) → (u.line m).asg = some a →
     u.search a = some (o, bus) → walk (pre ++ m :: post) u = walk post (u.place m a bus o))

/-- The expiry of an assignment, taken by itself (the model's choice, log entry 7; R45, R47, R140, R154): it is
removed, a burst is cut, a verify is dropped, the line is IDLE and NO_ANSWER falls due with the ringing party, or the
called party of a reverting call. -/
def Obligations.AssignmentExpiryEndsTheRing : Prop :=
  ∀ (l : LineId) (s : State), ∀ a, (s.line l).asg = some a →
    ∃ t, exec (.assignmentExpiry l) s = .next t ∧
      (t.line l).asg = none ∧ (t.line l).record = { (s.line l).record with callState := .idle } ∧
      ((s.line l).placedBus.isSome = true → (s.line l).relay.phase = .arm ∨ (s.line l).relay.phase = .ring →
        (t.line l).relay = { (s.line l).relay with phase := .quench, quenchKind := some .early, timer := some 30 }) ∧
      ((s.line l).relay.phase = .silent ∨ (s.line l).relay.phase = .quench → (t.line l).relay = (s.line l).relay) ∧
      (t.line l).det.mode ≠ .verify ∧ (t.line l).sides = (s.line l).sides ∧ (t.line l).dial = (s.line l).dial ∧
      (a.kind = .plain →
        t.reports.queue = queueWith s.reports.queue (.noAnswer l (s.line l).call.ringingParty) ∧
        (t.line l).call = { (s.line l).call with ringingParty := none }) ∧
      (a.kind = .revert →
        t.reports.queue = queueWith s.reports.queue (.noAnswer l (s.line l).call.called) ∧
        (t.line l).call = { (s.line l).call with called := none, caller := none, recallOn := false }) ∧
      OthersKept l s t ∧
      t = { s with lines := t.lines, busA := t.busA, busB := t.busB, waiting := t.waiting, msu := t.msu,
                   reports := t.reports }

/-- SET_BUS (R52, R53): the budget clamped to 60 RLU and stored; at or above the peak nothing moves; below it
assignments are taken off, newest placed first, until the peak is within it, none without need: with one that is taken
off and those older than it still on the bus, some slot is over the new budget. Then each, oldest placed first, is put
at its own offset on the other bus with the next placed-order number when that bus is GOOD and the assignment fits
there beside those put there before it, and otherwise waits with waited boundaries 0. -/
def Obligations.SetBusStoresAndSheds : Prop :=
  ∀ (bus : Bus) (b budget : Byte) (s : State),
    (1 < b.toNat → exec (.setBus b budget) s = .next (reply 0xA1 ⟨s, .badField, []⟩)) ∧
    ((s.bus bus).peak ≤ min 60 budget.toNat →
      exec (.setBus (busByte bus) budget) s = .next (reply 0xA1
        ⟨s.modBus bus fun r => { r with budget := min 60 budget.toNat }, .ok,
          [busByte bus, byteOf (min 60 budget.toNat)]⟩)) ∧
    ∃ u, exec (.setBus (busByte bus) budget) s =
        .next (reply 0xA1 ⟨u, .ok, [busByte bus, byteOf (min 60 budget.toNat)]⟩) ∧
      (u.bus bus).budget = min 60 budget.toNat ∧ (u.bus bus).status = (s.bus bus).status ∧
      (LoadLaw s → (u.bus bus).peak ≤ min 60 budget.toNat) ∧
      (∀ l, ∀ a, (s.line l).asg = some a → ∃ c ∈ (u.line l).asg, Assignment.SameRing a c) ∧
      (∀ l, ∀ a v o n, (s.line l).placed = some (a, v, o, n) → v = bus →
        (u.line l).asg = some a ∨
        ((u.line l).placedBus ≠ some bus ∧ (u.line l).relay.phase ≠ .arm ∧ (u.line l).relay.phase ≠ .ring ∧
          (∀ c w p m, (u.line l).placed = some (c, w, p, m) → p = o ∧ (s.bus (otherBus bus)).status = .good) ∧
          (∀ c ∈ (u.line l).asg, c.placement = .waiting → c.waited = 0 ∧ l ∈ u.waiting) ∧
          ((∀ m, m ≠ l → (s.line m).placedOrderOn bus ≠ some n) → Rehomed bus l a o n s u) ∧
          (∀ m, ∀ c w p k, (s.line m).placed = some (c, w, p, k) → w = bus → n < k →
            (u.line m).placedBus ≠ some bus) ∧
          (LoadLaw s → ∃ g, min 60 budget.toNat < (allLines.map fun m =>
            if ((s.line m).placedOrderOn bus).any (· ≤ n) then (s.line m).loadOn s.pattern bus g else 0).sum))) ∧
      (∀ l, u.callState l = s.callState l) ∧
      u = { s with lines := u.lines, busA := u.busA, busB := u.busB, waiting := u.waiting,
                   placedCount := u.placedCount }

/-- The source-good filter (R33): a change of the input starts the timing of a drop on a GOOD bus and of a return on a
FAULTED one, and forgets what was timed otherwise. A recovery (R31, R51): the bus is GOOD, nothing moves onto it, and
the change is reported or latched. -/
def Obligations.SourceGoodFilterAndRecovery : Prop :=
  (∀ (bus : Bus) (s : State),
     exec (.sourceGoodChange bus (s.bus bus).sourceGood) s = .next s ∧
     ((s.bus bus).sourceGood = true → (s.bus bus).status = .good →
       exec (.sourceGoodChange bus false) s =
         .next (s.modBus bus fun r => { r with sourceGood := false, filterTimer := some 50 })) ∧
     ((s.bus bus).sourceGood = false → (s.bus bus).status = .good →
       exec (.sourceGoodChange bus true) s =
         .next (s.modBus bus fun r => { r with sourceGood := true, filterTimer := none })) ∧
     ((s.bus bus).sourceGood = false → (s.bus bus).status = .faulted →
       exec (.sourceGoodChange bus true) s =
         .next (s.modBus bus fun r => { r with sourceGood := true, filterTimer := some 1000 })) ∧
     ((s.bus bus).sourceGood = true → (s.bus bus).status = .faulted →
       exec (.sourceGoodChange bus false) s =
         .next (s.modBus bus fun r => { r with sourceGood := false, filterTimer := none }))) ∧
  (∀ (bus : Bus) (s : State), (s.bus bus).status = .faulted → (s.bus bus).filterTimer ≠ none →
     ∃ t, exec (.busRecovery bus) s = .next t ∧
       t.bus bus = { s.bus bus with
         status := .good, filterTimer := none,
         stateLatch := if s.reports.enables.busState = true then (s.bus bus).stateLatch else true } ∧
       t.bus (otherBus bus) = s.bus (otherBus bus) ∧
       t.reports.queue =
         (if s.reports.enables.busState = true then queueWith s.reports.queue (.busState bus .good)
           else s.reports.queue) ∧
       t = { s with busA := t.busA, busB := t.busB, reports := t.reports })

/-- A bus fault (R31, R49, R68): the bus is FAULTED and carries nothing, its bursts are in QUENCH, each assignment it
carried, oldest placed first, is put at its own offset on the other bus with the next placed-order number when that bus
is GOOD and the assignment fits there beside those put there before it, and otherwise waits with waited boundaries 0.
The change is reported or latched. -/
def Obligations.BusFaultDisplacesItsAssignments : Prop :=
  ∀ (bus : Bus) (s : State), (s.bus bus).status = .good → (s.bus bus).filterTimer ≠ none →
    ∃ t, exec (.busFault bus) s = .next t ∧
      (t.bus bus).status = .faulted ∧ (t.bus bus).filterTimer = none ∧ (t.bus bus).budget = (s.bus bus).budget ∧
      (t.bus (otherBus bus)).status = (s.bus (otherBus bus)).status ∧
      (LoadLaw s → ∀ g, (t.bus bus).loads.get g = 0) ∧
      (∀ l, (t.line l).placedBus ≠ some bus) ∧
      (∀ l, (s.line l).relay.busSelect = some bus → (t.line l).relay =
        { (s.line l).relay with phase := .quench, quenchKind := some .early, timer := some 30 }) ∧
      (∀ l, (s.line l).relay.busSelect ≠ some bus → (t.line l).relay = (s.line l).relay) ∧
      (∀ l, (s.line l).placedBus ≠ some bus → (t.line l).asg = (s.line l).asg) ∧
      (∀ l, ∀ a v o n, (s.line l).placed = some (a, v, o, n) → v = bus →
        ∃ c ∈ (t.line l).asg, Assignment.SameRing a c ∧
          ((∃ m, c.placement = .placed (otherBus bus) o m) ∨ (c.placement = .waiting ∧ c.waited = 0 ∧ l ∈ t.waiting))) ∧
      (∀ l, ∀ a v o n, (s.line l).placed = some (a, v, o, n) → v = bus →
        (∀ m, m ≠ l → (s.line m).placedOrderOn bus ≠ some n) → Rehomed bus l a o n s t) ∧
      (s.reports.enables.busState = true →
        t.reports.queue = queueWith s.reports.queue (.busState bus .faulted) ∧
        (t.bus bus).stateLatch = (s.bus bus).stateLatch) ∧
      (s.reports.enables.busState = false → t.reports = s.reports ∧ (t.bus bus).stateLatch = true) ∧
      (∀ l, t.callState l = s.callState l) ∧
      t = { s with lines := t.lines, busA := t.busA, busB := t.busB, waiting := t.waiting,
                   placedCount := t.placedCount, reports := t.reports }

/-! ### The burst sequencer and the trip detector (04, 05) -/

/-- What the drives of a line are in each relay phase (R58): the feed switch closed in RING alone, the bus-select
relay and the ringing relay of the burst's side driven in ARM and RING alone. The expiry of ARM (R62, R78): RING, and
the detector watches the burst's side with its counts at 0. The end of a QUENCH (R59, R63, R85, R95): SILENT with no
burst held, the scanner of an equipped line reacquires, and a pending verify begins. -/
def Obligations.RelayPhasesAndTheirTimers : Prop :=
  (∀ r : RelayRecord,
     (r.feedClosed = true ↔ r.phase = .ring) ∧
     (r.phase = .arm ∨ r.phase = .ring → r.busSelect = r.bus ∧ ∀ sd, (r.ringingRelay sd = true ↔ r.side = some sd)) ∧
     (r.phase = .silent ∨ r.phase = .quench → r.busSelect = none ∧ ∀ sd, r.ringingRelay sd = false) ∧
     ¬(r.ringingRelay .tip = true ∧ r.ringingRelay .ring = true)) ∧
  (∀ (l : LineId) (s : State), (s.line l).relay.phase = .arm →
     ∃ t, exec (.armExpiry l) s = .next t ∧
       t.line l = { s.line l with
         relay := { (s.line l).relay with phase := .ring, timer := none }
         det := { mode := .watch, side := (s.line l).relay.side, run := 0, windowLength := 0, sampleSum := 0,
                  sampleCount := 0, verifyCause := none, verifyRunning := false } } ∧
       OthersKept l s t ∧ t = { s with lines := t.lines }) ∧
  (∀ (l : LineId) (s : State), (s.line l).relay.phase = .quench →
     ∃ t, exec (.quenchEnd l) s = .next t ∧
       t.line l = { s.line l with
         relay := { phase := .silent, bus := none, side := none, lastSlot := none, quenchKind := none,
                    quiet := (s.line l).relay.quiet, timer := none }
         scan := if (s.line l).record.parties = [] then (s.line l).scan else
           { (s.line l).scan with reacquiring := true, reacquireCount := 0, filterCount := 0 }
         det := { (s.line l).det with
           verifyRunning := decide ((s.line l).det.mode = .verify) || (s.line l).det.verifyRunning } } ∧
       OthersKept l s t ∧ t = { s with lines := t.lines, msu := t.msu } ∧ t.msu.jobs = s.msu.jobs)

/-- The threshold of a side and TRIP_MARGIN (R6, R73): the baseline rounded up to dmA plus the margin, held to Tmin
and Tmax and pinned only above Tmax; TRIP_MARGIN agrees with the two sides and moves the condition only from NORMAL to
DEGRADED, or back when no reason is left. -/
def Obligations.ThresholdAndTripMargin : Prop :=
  ∀ (p : Params) (y : SideRecord) (x : Line),
    ((y.baseline + 9) / 10 + y.margin < p.tmin →
      computeThreshold p y = { y with threshold := p.tmin, pinned := false }) ∧
    (p.tmin ≤ (y.baseline + 9) / 10 + y.margin → (y.baseline + 9) / 10 + y.margin ≤ p.tmax →
      computeThreshold p y = { y with threshold := (y.baseline + 9) / 10 + y.margin, pinned := false }) ∧
    (p.tmin ≤ p.tmax → p.tmax < (y.baseline + 9) / 10 + y.margin →
      computeThreshold p y = { y with threshold := p.tmax, pinned := true }) ∧
    (agreeTripMargin x).record.reasons =
      { leak := x.record.reasons.leak, tripMargin := x.sides.tip.pinned || x.sides.ring.pinned } ∧
    (agreeTripMargin x).record.condition =
      (if (x.sides.tip.pinned || x.sides.ring.pinned) = x.record.reasons.tripMargin then x.record.condition
       else if (x.sides.tip.pinned || x.sides.ring.pinned) = true then
         (if x.record.condition = .normal then .degraded else x.record.condition)
       else if x.record.condition = .degraded ∧ x.record.reasons.leak = false then .normal
       else x.record.condition)

/-- The normal end of RING (R6, R7, R62, R83, R88): QUENCH of kind NORMAL; a quiet burst moves its side's baseline one
eighth of the way toward the mean of its samples, rounded toward zero, and computes its threshold again, TRIP_MARGIN
follows, and a change of the line's condition or reasons is reported or latched; an open window leaves a verify
pending and the baseline as it was. That the run and the window length of an open window are kept is the model's
choice (log entry 3), of which section 5.6 says nothing. -/
def Obligations.RingEndUpdatesTheBaseline : Prop :=
  ∀ (l : LineId) (s : State), (s.line l).relay.phase = .ring → (s.line l).relay.lastSlot = some s.slot →
    ∃ t, exec (.ringEnd l) s = .next t ∧
      (t.line l).relay =
        { (s.line l).relay with phase := .quench, quenchKind := some .normal, timer := some 30 } ∧
      (∀ sd, (s.line l).det.side = some sd → (s.line l).det.mode = .watch → 1 ≤ (s.line l).det.sampleCount →
        (t.line l).det.mode = .idle ∧
        (((t.line l).sides.get sd).baseline : Int) = ((s.line l).sides.get sd).baseline +
          Int.tdiv (10 * ((s.line l).det.sampleSum / (s.line l).det.sampleCount : Nat) -
            ((s.line l).sides.get sd).baseline) 8 ∧
        (t.line l).sides.get sd = computeThreshold s.params
          { (s.line l).sides.get sd with baseline := ((t.line l).sides.get sd).baseline } ∧
        (∀ e, e ≠ sd → (t.line l).sides.get e = (s.line l).sides.get e) ∧
        TripMarginFollows l s t ∧ t.reports = pushReports s.reports (conditionReport l s t).toList) ∧
      ((s.line l).det.mode = .watch → (s.line l).det.sampleCount = 0 →
        (t.line l).det.mode = .idle ∧ (t.line l).sides = (s.line l).sides ∧ (t.line l).record = (s.line l).record ∧
        t.reports = s.reports) ∧
      ((s.line l).det.mode = .window →
        (t.line l).det = { (s.line l).det with
          mode := .verify, verifyCause := some .openAtEnd, verifyRunning := false, sampleSum := 0, sampleCount := 0 } ∧
        (t.line l).sides = (s.line l).sides ∧ (t.line l).record = (s.line l).record ∧ t.reports = s.reports) ∧
      t.callState l = s.callState l ∧ (t.line l).asg = (s.line l).asg ∧ (t.line l).scan = (s.line l).scan ∧
      (t.line l).dial = (s.line l).dial ∧ (t.line l).call = (s.line l).call ∧ (t.line l).leaks = (s.line l).leaks ∧
      OthersKept l s t ∧ t = { s with lines := t.lines, reports := t.reports }

/-- A sample that decides nothing (R78, R79, R80): in WATCH it is summed and counted, and an above-sample opens the
window; in WINDOW the run grows or breaks and the window length grows, while neither has reached its limit; no sample
returns the line to WATCH. -/
def Obligations.SampleIsJudgedAgainstTheThreshold : Prop :=
  ∀ (l : LineId) (current : Nat) (s : State) (sd : Side), (s.line l).relay.phase = .ring →
    (s.line l).det.side = some sd →
    ((s.line l).det.mode = .watch → min 600 current ≤ ((s.line l).sides.get sd).threshold →
      ∃ t, exec (.tripSample l current) s = .next t ∧
        t.line l = { s.line l with det := { (s.line l).det with
          sampleSum := (s.line l).det.sampleSum + min 600 current,
          sampleCount := (s.line l).det.sampleCount + 1 } } ∧
        OthersKept l s t ∧ t = { s with lines := t.lines }) ∧
    ((s.line l).det.mode = .watch → ((s.line l).sides.get sd).threshold < min 600 current →
      ∃ t, exec (.tripSample l current) s = .next t ∧
        t.line l = { s.line l with det := { (s.line l).det with
          mode := .window, run := 1, windowLength := 1, sampleSum := (s.line l).det.sampleSum + min 600 current,
          sampleCount := (s.line l).det.sampleCount + 1 } } ∧
        OthersKept l s t ∧ t = { s with lines := t.lines }) ∧
    ((s.line l).det.mode = .window → (s.line l).det.windowLength + 1 < s.params.window → 1 ≤ s.params.confirm →
      min 600 current ≤ ((s.line l).sides.get sd).threshold →
      ∃ t, exec (.tripSample l current) s = .next t ∧
        t.line l = { s.line l with det := { (s.line l).det with
          run := 0, windowLength := (s.line l).det.windowLength + 1,
          sampleSum := (s.line l).det.sampleSum + min 600 current,
          sampleCount := (s.line l).det.sampleCount + 1 } } ∧
        OthersKept l s t ∧ t = { s with lines := t.lines }) ∧
    ((s.line l).det.mode = .window → (s.line l).det.windowLength + 1 < s.params.window →
      (s.line l).det.run + 1 < s.params.confirm → ((s.line l).sides.get sd).threshold < min 600 current →
      ∃ t, exec (.tripSample l current) s = .next t ∧
        t.line l = { s.line l with det := { (s.line l).det with
          run := (s.line l).det.run + 1, windowLength := (s.line l).det.windowLength + 1,
          sampleSum := (s.line l).det.sampleSum + min 600 current,
          sampleCount := (s.line l).det.sampleCount + 1 } } ∧
        OthersKept l s t ∧ t = { s with lines := t.lines }) ∧
    ((s.line l).det.mode ≠ .watch → ∀ t, exec (.tripSample l current) s = .next t → (t.line l).det.mode ≠ .watch)

/-- A sample that ends the window (R65, R66, R80, R81, R82, R139, R153): a run that reaches confirm is a trip, which
cuts the burst and is the answer, RINGING to CONNECTED with ANSWER (TRIP) or REVERT_RINGING to REVERT_CHECK with the
side test requested; else a window at its length is unresolved, which cuts the burst and leaves a verify pending. -/
def Obligations.SampleEndsTheWindow : Prop :=
  ∀ (l : LineId) (current : Nat) (s : State) (sd : Side), (s.line l).relay.phase = .ring →
    (s.line l).det.side = some sd → (s.line l).det.mode = .window →
    (((s.line l).sides.get sd).threshold < min 600 current → s.params.confirm ≤ (s.line l).det.run + 1 →
      s.callState l = .ringing ∨ s.callState l = .revertRinging →
      ∃ t, exec (.tripSample l current) s = .next t ∧
        (t.line l).relay = { (s.line l).relay with phase := .quench, quenchKind := some .early, timer := some 30 } ∧
        (t.line l).det.mode = .idle ∧ (t.line l).det.sampleSum = 0 ∧ (t.line l).det.sampleCount = 0 ∧
        (t.line l).asg = none ∧ (t.line l).sides = (s.line l).sides ∧ (t.line l).dial = (s.line l).dial ∧
        (s.callState l = .ringing →
          t.callState l = .connected ∧
          t.reports.queue = queueWith s.reports.queue (.answer l (some sd) .trip (s.line l).call.ringingParty) ∧
          (t.line l).call = { (s.line l).call with ringingParty := none }) ∧
        (s.callState l = .revertRinging →
          t.callState l = .revertCheck ∧ t.reports = s.reports ∧ (t.line l).call = (s.line l).call ∧
          t.msu.jobs = s.msu.jobs ++ [⟨l, .answerSide, s.msu.arrivalCount⟩]) ∧
        OthersKept l s t) ∧
    (s.params.window ≤ (s.line l).det.windowLength + 1 → 1 ≤ s.params.confirm →
      (min 600 current ≤ ((s.line l).sides.get sd).threshold ∨ (s.line l).det.run + 1 < s.params.confirm) →
      ∃ t, exec (.tripSample l current) s = .next t ∧
        (t.line l).relay = { (s.line l).relay with phase := .quench, quenchKind := some .early, timer := some 30 } ∧
        (t.line l).det.mode = .verify ∧ (t.line l).det.verifyCause = some .unresolved ∧
        (t.line l).det.verifyRunning = false ∧ (t.line l).det.sampleSum = 0 ∧ (t.line l).det.sampleCount = 0 ∧
        (t.line l).det.side = some sd ∧
        (t.line l).asg = (s.line l).asg ∧ (t.line l).record = (s.line l).record ∧
        (t.line l).sides = (s.line l).sides ∧ (t.line l).call = (s.line l).call ∧
        OthersKept l s t ∧ t = { s with lines := t.lines })

/-- The expiry of a verify (R85, R86): for an unresolved window the margin of the burst's side rises by 10 dmA to at
most 100, its threshold is computed, and TRIP_NOISE is reported first or latched; for a window open at the end nothing
is changed. -/
def Obligations.VerifyExpiryRaisesTheMargin : Prop :=
  ∀ (l : LineId) (s : State), (s.line l).det.mode = .verify → (s.line l).det.verifyRunning = true →
    ∃ t, exec (.verifyTimerExpiry l) s = .next t ∧
      (t.line l).det = { (s.line l).det with mode := .idle, verifyCause := none, verifyRunning := false } ∧
      (∀ sd, (s.line l).det.side = some sd → (s.line l).det.verifyCause = some .unresolved →
        (t.line l).sides.get sd = computeThreshold s.params { (s.line l).sides.get sd with
          margin := min 100 (((s.line l).sides.get sd).margin + 10) } ∧
        (∀ e, e ≠ sd → (t.line l).sides.get e = (s.line l).sides.get e) ∧
        (s.reports.enables.tripNoise = true →
          (t.line l).record.latched.noise = (s.line l).record.latched.noise ∧
          (queueWith s.reports.queue (.tripNoise l sd ((t.line l).sides.get sd).margin
            ((t.line l).sides.get sd).threshold)).isPrefixOf t.reports.queue = true) ∧
        (s.reports.enables.tripNoise = false → (t.line l).record.latched.noise.get sd = true)) ∧
      ((s.line l).det.verifyCause = some .openAtEnd →
        (t.line l).sides = (s.line l).sides ∧ (t.line l).record = (s.line l).record ∧ t.reports = s.reports) ∧
      t.callState l = s.callState l ∧ (t.line l).asg = (s.line l).asg ∧ (t.line l).relay = (s.line l).relay ∧
      (t.line l).leaks = (s.line l).leaks ∧
      OthersKept l s t ∧ t = { s with lines := t.lines, reports := t.reports }

/-! ### Loop supervision and dial reception (06) -/

/-- A loop sample through the hit filter (R92, R93): a line that is not equipped or is blind is not sampled; a sample
like the held state clears the count, a differing one counts, and the third in a row is a make, which starts the
closed-hold timer, or a break, which starts the break timer. The break in progress grows by 5 ms a sample (the model's
choice, log entry 5). -/
def Obligations.LoopSampleIsFiltered : Prop :=
  ∀ (l : LineId) (closed : Bool) (s : State),
    ((s.line l).record.parties = [] ∨ (s.line l).relay.phase ≠ .silent → exec (.loopSample l closed) s = .next s) ∧
    ((s.line l).record.parties ≠ [] → (s.line l).relay.phase = .silent → (s.line l).scan.reacquiring = false →
      ∃ t, exec (.loopSample l closed) s = .next t ∧
        (closed = (s.line l).scan.closed →
          (t.line l).scan = { (s.line l).scan with
            filterCount := 0, breakTimer := (s.line l).scan.breakTimer.map fun n => min 1050 (n + 5) } ∧
          t = { s with lines := t.lines }) ∧
        (closed ≠ (s.line l).scan.closed → (s.line l).scan.filterCount < 2 →
          (t.line l).scan = { (s.line l).scan with
            filterCount := (s.line l).scan.filterCount + 1,
            breakTimer := (s.line l).scan.breakTimer.map fun n => min 1050 (n + 5) } ∧
          t = { s with lines := t.lines }) ∧
        (closed = true → (s.line l).scan.closed = false → (s.line l).scan.filterCount = 2 →
          (t.line l).scan.closed = true ∧ (t.line l).scan.filterCount = 0 ∧ (t.line l).scan.breakTimer = none ∧
          (t.line l).scan.closedHold = some 50) ∧
        (closed = false → (s.line l).scan.closed = true → (s.line l).scan.filterCount = 2 →
          (t.line l).scan = { (s.line l).scan with
            closed := false, filterCount := 0, closedHold := none, breakTimer := some 0, makeTimer := none } ∧
          t = { s with lines := t.lines }) ∧
        (t.line l).record = (s.line l).record ∧ (t.line l).asg = (s.line l).asg ∧
        (t.line l).relay = (s.line l).relay ∧ (t.line l).sides = (s.line l).sides ∧ (t.line l).det = (s.line l).det ∧
        (t.line l).call = (s.line l).call ∧ OthersKept l s t ∧ t = { s with lines := t.lines, reports := t.reports })

/-- The end of reacquisition (R95): the third equal sample in SILENT confirms or changes the held state and starts the
timer of that state; a shorter run counts on or begins again at 1. -/
def Obligations.ReacquisitionEndsAtThreeEqualSamples : Prop :=
  ∀ (l : LineId) (b : Bool) (s : State), (s.line l).record.parties ≠ [] → (s.line l).relay.phase = .silent →
    (s.line l).scan.reacquiring = true →
    ∃ t, exec (.loopSample l b) s = .next t ∧
      ((s.line l).scan.reacquireCount = 0 ∨ b ≠ (s.line l).scan.lastSample →
        (t.line l).scan = { (s.line l).scan with reacquireCount := 1, lastSample := b }) ∧
      ((s.line l).scan.reacquireCount = 1 → b = (s.line l).scan.lastSample →
        (t.line l).scan = { (s.line l).scan with reacquireCount := 2, lastSample := b }) ∧
      ((s.line l).scan.reacquireCount = 2 → b = (s.line l).scan.lastSample →
        (t.line l).scan.reacquiring = false ∧ (t.line l).scan.reacquireCount = 0 ∧ (t.line l).scan.closed = b ∧
        (b = true → (t.line l).scan.closedHold = some 50) ∧ (b = false → (t.line l).scan.breakTimer = some 0) ∧
        ((s.line l).scan.closed = true → b = false → (t.line l).scan.closedHold = none) ∧
        ((s.line l).scan.closed = false → b = true → (t.line l).scan.breakTimer = none)) ∧
      t.line l = { s.line l with scan := (t.line l).scan } ∧ OthersKept l s t ∧ t = { s with lines := t.lines }

/-- What a make says of the break it ends, by its length and the call state (R98, R100, R103, R142): a dial pulse, a
bad break, a flash, or nothing; in a DONE collection pulses and bad breaks are ignored. The length is counted in
samples of 5 ms (the model's choice, log entry 5). -/
def Obligations.MakeClassifiesItsBreak : Prop :=
  ∀ (l : LineId) (s : State), (s.line l).record.parties ≠ [] → (s.line l).relay.phase = .silent →
    (s.line l).scan.reacquiring = false → (s.line l).scan.closed = false → (s.line l).scan.filterCount = 2 →
    ∀ n, ((s.line l).scan.breakTimer.map fun m => min 1050 (m + 5)) = some n →
    ∃ t, exec (.loopSample l true) s = .next t ∧
      (s.callState l = .originating → (s.line l).dial.collection = .opened → 15 ≤ n → n ≤ 100 →
        (t.line l).dial = { (s.line l).dial with pulseCount := min 11 ((s.line l).dial.pulseCount + 1) } ∧
        (t.line l).scan.makeTimer = some 300 ∧ t.reports = s.reports) ∧
      (s.callState l = .originating → (s.line l).dial.collection = .opened → 101 ≤ n → n ≤ 1049 →
        (t.line l).dial.pulseCount = 0 ∧ (t.line l).scan.makeTimer = none ∧
        (t.line l).dial.errors = { (s.line l).dial.errors with badBreak := true } ∧
        (t.line l).dial.digits = (s.line l).dial.digits ∧ MarkerActed l s t) ∧
      (s.callState l = .originating → (s.line l).dial.collection = .done →
        t.reports = s.reports ∧ (t.line l).dial = (s.line l).dial ∧
        (t.line l).scan.makeTimer = (s.line l).scan.makeTimer) ∧
      (s.callState l = .connected → 300 ≤ n → n ≤ 1049 →
        t.reports.queue = queueWith s.reports.queue (.flash l) ∧ (t.line l).dial = (s.line l).dial) ∧
      (s.callState l = .connected → n < 300 → t.reports = s.reports ∧ (t.line l).dial = (s.line l).dial) ∧
      (s.callState l ≠ .originating ∧ s.callState l ≠ .connected ∨ n = 1050 →
        t.reports = s.reports ∧ (t.line l).dial = (s.line l).dial) ∧
      t.callState l = s.callState l

/-- The expiry of the make timer (R100, R101, R102, R103, R134): a train of 1 to 10 pulses is a digit, 10 pulses 0,
queued behind the others, or overrun when 16 are held, and the permanent-signal timer restarts; the count completes
the block; a train of 11 sets TOO_MANY_PULSES. What is reportable acts on the marker: every digit in EACH mode, the
first in FIRST_THEN_BLOCK mode, the completion of the block and every error; no other digit does. The expiry of the
interdigit timer completes the block by pause, which is reportable (R102, R103). -/
def Obligations.TrainsAndPausesFormDigits : Prop :=
  (∀ (l : LineId) (s : State), (s.line l).scan.makeTimer ≠ none → (s.line l).dial.collection = .opened →
     ∃ t, exec (.makeTimerExpiry l) s = .next t ∧
       (t.line l).scan = { (s.line l).scan with makeTimer := none } ∧ (t.line l).dial.pulseCount = 0 ∧
       (1 ≤ (s.line l).dial.pulseCount → (s.line l).dial.pulseCount ≤ 10 →
         (t.line l).dial.received = min 16 ((s.line l).dial.received + 1) ∧
         ((s.line l).dial.digits.length < 16 →
           (t.line l).dial.digits = (s.line l).dial.digits ++ [(s.line l).dial.pulseCount % 10] ∧
           (t.line l).dial.errors = (s.line l).dial.errors) ∧
         (16 ≤ (s.line l).dial.digits.length →
           (t.line l).dial.digits = (s.line l).dial.digits ∧
           (t.line l).dial.errors = { (s.line l).dial.errors with digitOverrun := true }) ∧
         (t.line l).call = { (s.line l).call with permanentSignal := some (s.params.permanentSignalS * 1000) } ∧
         ((s.line l).record.dialMode = .each →
           (t.line l).dial.interdigit = (s.line l).dial.interdigit ∧ (t.line l).dial.collection = .opened) ∧
         ((s.line l).record.dialMode ≠ .each → (t.line l).dial.received = (s.line l).record.blockCount →
           (t.line l).dial.collection = .done ∧ (t.line l).dial.complete = true ∧
           (t.line l).dial.interdigit = none) ∧
         ((s.line l).record.dialMode ≠ .each → (t.line l).dial.received ≠ (s.line l).record.blockCount →
           (t.line l).dial.collection = .opened ∧
           (t.line l).dial.interdigit = some (s.params.interdigitS * 1000)) ∧
         ((s.line l).record.dialMode = .each ∨ 16 ≤ (s.line l).dial.digits.length ∨
             ((s.line l).record.dialMode ≠ .each ∧ (t.line l).dial.received = (s.line l).record.blockCount) ∨
             ((s.line l).record.dialMode = .firstThenBlock ∧ (t.line l).dial.received = 1) →
           MarkerActed l s t) ∧
         ((s.line l).record.dialMode ≠ .each → (s.line l).dial.digits.length < 16 →
           (t.line l).dial.received ≠ (s.line l).record.blockCount →
           ¬((s.line l).record.dialMode = .firstThenBlock ∧ (t.line l).dial.received = 1) →
           t.reports = s.reports ∧ (t.line l).dial.markerOwed = (s.line l).dial.markerOwed)) ∧
       ((s.line l).dial.pulseCount = 11 →
         (t.line l).dial.errors = { (s.line l).dial.errors with tooManyPulses := true } ∧
         (t.line l).dial.digits = (s.line l).dial.digits ∧ (t.line l).dial.received = (s.line l).dial.received ∧
         (t.line l).call = (s.line l).call ∧ MarkerActed l s t) ∧
       (t.line l).record = (s.line l).record ∧ OthersKept l s t ∧ t = { s with lines := t.lines, reports := t.reports }) ∧
  (∀ (l : LineId) (s : State), (s.line l).dial.interdigit ≠ none →
     ∃ t, exec (.interdigitTimerExpiry l) s = .next t ∧
       (t.line l).dial = { (s.line l).dial with
         collection := .done, complete := true, interdigit := none, pulseCount := 0,
         markerOwed := (t.line l).dial.markerOwed } ∧
       (t.line l).scan = { (s.line l).scan with makeTimer := none } ∧
       MarkerActed l s t ∧
       (t.line l).record = (s.line l).record ∧ (t.line l).call = (s.line l).call ∧
       OthersKept l s t ∧ t = { s with lines := t.lines, reports := t.reports })

/-- A loop held closed for 50 ms on an IDLE line is an origination (R96, R99, R113, R130, R131): ORIGINATING with an
empty digit queue and an open collection, the permanent-signal timer running, and ORIGIN_ID requested; on a FAULTED
line ORIGINATE (LINE_FAULT) at once in its place. -/
def Obligations.ClosedLoopOnAnIdleLineIsAnOrigination : Prop :=
  ∀ (l : LineId) (s : State), (s.line l).scan.closedHold ≠ none → s.callState l = .idle →
    ∃ t, exec (.closedHoldExpiry l) s = .next t ∧
      (t.line l).record = { (s.line l).record with callState := .originating } ∧
      (t.line l).scan = { (s.line l).scan with closedHold := none, makeTimer := none } ∧
      (t.line l).dial =
        { collection := .opened, pulseCount := 0, received := 0, interdigit := none, digits := [],
          errors := ⟨false, false, false⟩, complete := false,
          originationReported := decide ((s.line l).record.condition = .faulted), markerOwed := false } ∧
      (t.line l).call.permanentSignal = some (s.params.permanentSignalS * 1000) ∧ t.markerPending l = false ∧
      ((s.line l).record.condition ≠ .faulted →
        (t.line l).call.originationPending = true ∧
        t.msu.jobs = (s.msu.jobs.filter fun j => j.line ≠ l) ++ [⟨l, .originId, s.msu.arrivalCount⟩] ∧
        t.reports.queue = (if s.hasHostTest l then queueWith s.reports.queue (.testResult l none)
          else s.reports.queue).filter (· ≠ .digits l)) ∧
      ((s.line l).record.condition = .faulted →
        (t.line l).call.originationPending = false ∧ t.msu.jobs = (s.msu.jobs.filter fun j => j.line ≠ l) ∧
        t.reports.queue = queueWith ((if s.hasHostTest l then queueWith s.reports.queue (.testResult l none)
          else s.reports.queue).filter (· ≠ .digits l)) (.originate l (.unidentified .lineFault) none)) ∧
      (t.line l).asg = (s.line l).asg ∧ (t.line l).relay = (s.line l).relay ∧ (t.line l).sides = (s.line l).sides ∧
      (t.line l).det = (s.line l).det ∧ (t.line l).leaks = (s.line l).leaks ∧
      OthersKept l s t ∧ t = { s with lines := t.lines, msu := t.msu, reports := t.reports }

/-- A loop held closed for 50 ms on a ringing line is an answer in silence (R85, R96, R139, R153): RINGING to
CONNECTED with ANSWER, of source TRIP with the burst's side while a verify runs and of source SILENCE with the
stroke's side otherwise, or REVERT_RINGING to REVERT_CHECK with the side test requested; in every state but those and
IDLE nothing. -/
def Obligations.ClosedLoopOnARingingLineIsAnAnswer : Prop :=
  ∀ (l : LineId) (s : State), (s.line l).scan.closedHold ≠ none →
    (s.callState l = .ringing → ∀ a, (s.line l).asg = some a →
      ∃ t, exec (.closedHoldExpiry l) s = .next t ∧
        t.callState l = .connected ∧ (t.line l).asg = none ∧ (t.line l).det.mode ≠ .verify ∧
        ((s.line l).det.mode = .verify ∧ (s.line l).det.verifyRunning = true →
          t.reports.queue =
            queueWith s.reports.queue (.answer l (s.line l).det.side .trip (s.line l).call.ringingParty)) ∧
        (¬((s.line l).det.mode = .verify ∧ (s.line l).det.verifyRunning = true) →
          t.reports.queue =
            queueWith s.reports.queue (.answer l (some a.stroke0.side) .silence (s.line l).call.ringingParty)) ∧
        (t.line l).call = { (s.line l).call with ringingParty := none } ∧ (t.line l).dial = (s.line l).dial ∧
        (t.line l).sides = (s.line l).sides ∧ t.msu.jobs = s.msu.jobs ∧ OthersKept l s t ∧
        t = { s with lines := t.lines, busA := t.busA, busB := t.busB, waiting := t.waiting, msu := t.msu,
                     reports := t.reports }) ∧
    (s.callState l = .revertRinging → (s.line l).asg ≠ none →
      ∃ t, exec (.closedHoldExpiry l) s = .next t ∧
        t.callState l = .revertCheck ∧ (t.line l).asg = none ∧ (t.line l).det.mode ≠ .verify ∧
        t.msu.jobs = s.msu.jobs ++ [⟨l, .answerSide, s.msu.arrivalCount⟩] ∧
        (t.line l).call = (s.line l).call ∧ (t.line l).dial = (s.line l).dial ∧
        (t.line l).sides = (s.line l).sides ∧ OthersKept l s t ∧
        t = { s with lines := t.lines, busA := t.busA, busB := t.busB, waiting := t.waiting, msu := t.msu }) ∧
    (s.callState l ≠ .idle → s.callState l ≠ .ringing → s.callState l ≠ .revertRinging →
      ∃ t, exec (.closedHoldExpiry l) s = .next t ∧
        t.line l = { s.line l with scan := { (s.line l).scan with closedHold := none } } ∧ OthersKept l s t ∧
        t.msu.jobs = s.msu.jobs ∧ t = { s with lines := t.lines, msu := t.msu })

/-- A break that reaches 1050 ms (R97, R133, R142, R143, R150, R157): a clear from ORIGINATING, CONNECTED or PARKED,
with CLEAR naming that state; in REVERT_HOLD and REVERT_CHECK the ringing of the reverting call begins, with a REVERT
assignment of the strokes the recall setting gives. -/
def Obligations.BreakOf1050msClearsOrRings : Prop :=
  ∀ (l : LineId) (s : State), (s.line l).scan.breakTimer ≠ none →
    ∃ t, exec (.breakTimerExpiry l) s = .next t ∧
      (t.line l).scan.breakTimer = none ∧ (t.line l).scan.closed = (s.line l).scan.closed ∧
      (s.callState l = .originating →
        t.callState l = .idle ∧ t.msu.jobs = (s.msu.jobs.filter fun j => j.line ≠ l) ∧
        (∀ r ∈ t.msu.running, r.line = l → r.kind = .insulation) ∧
        t.reports.queue = queueWith (leavingQueue l s) (.clear l .originating) ∧
        (t.line l).call = { (s.line l).call with originationPending := false, permanentSignal := none } ∧
        (t.line l).dial.collection = .off ∧ (t.line l).dial.pulseCount = 0 ∧ (t.line l).dial.interdigit = none ∧
        (t.line l).scan.makeTimer = none ∧ (t.line l).dial.digits = (s.line l).dial.digits) ∧
      (s.callState l = .connected ∨ s.callState l = .parked →
        t.callState l = .idle ∧ t.reports.queue = queueWith s.reports.queue (.clear l (s.callState l)) ∧
        (t.line l).call = (s.line l).call ∧ (t.line l).dial = (s.line l).dial ∧ t.msu.jobs = s.msu.jobs) ∧
      (s.callState l = .revertHold ∨ s.callState l = .revertCheck →
        ∀ d, (s.line l).call.called.bind (s.line l).party = some d →
        ∀ r, (s.line l).call.caller.bind (s.line l).party = some r →
        t.callState l = .revertRinging ∧ (t.line l).dial = (s.line l).dial ∧
        (∀ k, k = newAssignment .revert ⟨d.side, d.code, (s.line l).record.loads.get d.side⟩
            (if (s.line l).call.recallOn then some ⟨r.side, r.code, (s.line l).record.loads.get r.side⟩ else none)
            s.params.ringCycles s.createdCount →
          (∃ a ∈ (t.line l).asg, Assignment.SameRing k a) ∧
          (∀ o bus, s.search k = some (o, bus) →
            (t.line l).asg = some { k with placement := .placed bus o s.placedCount }) ∧
          (s.search k = none → (t.line l).asg = some k ∧ l ∈ t.waiting)) ∧
        (s.callState l = .revertHold →
          (t.line l).call = { (s.line l).call with revertHold := none } ∧ t.msu.jobs = s.msu.jobs) ∧
        (s.callState l = .revertCheck →
          (t.line l).call = (s.line l).call ∧ t.msu.jobs = s.msu.jobs.filter fun j => j.line ≠ l)) ∧
      (s.callState l ∈ [.unequipped, .blocked, .idle, .ringing, .revertRinging] →
        t.line l = { s.line l with scan := { (s.line l).scan with breakTimer := none } } ∧
        t.msu.jobs = s.msu.jobs ∧ t = { s with lines := t.lines, msu := t.msu }) ∧
      (t.line l).sides = (s.line l).sides ∧ (t.line l).det = (s.line l).det ∧ (t.line l).relay = (s.line l).relay ∧
      (t.line l).leaks = (s.line l).leaks ∧ (t.line l).record.parties = (s.line l).record.parties ∧
      OthersKept l s t ∧ t.codes = s.codes ∧ t.params = s.params ∧ t.link = s.link ∧ t.slot = s.slot

/-- Call control's timers (R106, R133, R134, R151): the permanent signal parks an originating line, its digits
discarded and ORIGINATE (ABANDONED) reported if still owed; the revert hold gives the line back to its caller. -/
def Obligations.CallTimersParkOrGiveBack : Prop :=
  ∀ (l : LineId) (s : State),
    (s.callState l = .originating → (s.line l).call.permanentSignal ≠ none →
      ∃ t, exec (.permanentSignalExpiry l) s = .next t ∧
        t.callState l = .parked ∧ JobsDropped l s t ∧
        t.reports.queue = queueWith ((leavingQueue l s).filter (· ≠ .digits l)) (.parked l) ∧
        (t.line l).call = { (s.line l).call with originationPending := false, permanentSignal := none } ∧
        (t.line l).dial.collection = .off ∧ (t.line l).dial.digits = [] ∧ (t.line l).dial.complete = false ∧
        (t.line l).dial.errors = ⟨false, false, false⟩ ∧ (t.line l).dial.markerOwed = false ∧
        (t.line l).scan = { (s.line l).scan with makeTimer := none } ∧ (t.line l).asg = (s.line l).asg ∧
        (t.line l).relay = (s.line l).relay ∧ (t.line l).sides = (s.line l).sides ∧
        OthersKept l s t ∧ t = { s with lines := t.lines, msu := t.msu, reports := t.reports }) ∧
    (s.callState l = .revertHold → (s.line l).call.revertHold ≠ none →
      ∃ t, exec (.revertHoldExpiry l) s = .next t ∧
        t.callState l = .originating ∧
        t.reports.queue = queueWith s.reports.queue (.revertAbandon l .holdTimeout) ∧
        (t.line l).call = { (s.line l).call with
          called := none, caller := none, recallOn := false, revertHold := none,
          permanentSignal := some (s.params.permanentSignalS * 1000) } ∧
        (t.line l).dial = { (s.line l).dial with collection := .opened, pulseCount := 0, received := 0 } ∧
        (t.line l).scan = (s.line l).scan ∧ (t.line l).asg = (s.line l).asg ∧
        (t.line l).relay = (s.line l).relay ∧ (t.line l).sides = (s.line l).sides ∧
        OthersKept l s t ∧ t = { s with lines := t.lines, reports := t.reports })

/-! ### The measurement unit (07) -/

/-- TEST_LINE and TEST_TICK (R111, R115, R116, R123): a HOST_TEST entry joins the list behind the others, unless the
line has one; a tick raises the backlog to at most 15 and sets the MUST-run flag at 12. A running job is not
pre-empted. -/
def Obligations.TestRequestsAndTicks : Prop :=
  ∀ (l : LineId) (line : Byte) (s : State),
    (16 ≤ line.toNat → exec (.testLine line) s = .next (reply 0x94 ⟨s, .badField, []⟩)) ∧
    (s.callState l ≠ .idle → exec (.testLine (lineByte l)) s = .next (reply 0x94 ⟨s, .lineState, []⟩)) ∧
    (s.callState l = .idle → s.hasHostTest l = true →
      exec (.testLine (lineByte l)) s = .next (reply 0x94 ⟨s, .ok, [1]⟩)) ∧
    (s.callState l = .idle → s.hasHostTest l = false →
      ∃ u, exec (.testLine (lineByte l)) s = .next (reply 0x94 ⟨u, .ok, [0]⟩) ∧
        u.msu.jobs = s.msu.jobs ++ [⟨l, .hostTest, s.msu.arrivalCount⟩] ∧
        u.msu.arrivalCount = s.msu.arrivalCount + 1 ∧ u.msu.backlog = s.msu.backlog ∧
        u.msu.mustRun = s.msu.mustRun ∧ (s.msu.running.isSome = true → u.msu.running = s.msu.running) ∧
        u = { s with msu := u.msu }) ∧
    ∃ t, exec .testTick s = .next t ∧
      t.msu.backlog = min 15 (s.msu.backlog + 1) ∧
      t.msu.mustRun = (s.msu.mustRun || decide (12 ≤ min 15 (s.msu.backlog + 1))) ∧
      t.msu.tickTimer = s.params.testTickS * 1000 ∧ t.msu.jobs = s.msu.jobs ∧
      t.msu.arrivalCount = s.msu.arrivalCount ∧
      (s.msu.running.isSome = true → t.msu.running = s.msu.running ∧ t.msu.pointer = s.msu.pointer) ∧
      t = { s with msu := t.msu }

/-- The arbiter with the head free (R112, R116, R117, R118): it starts the runnable job of the highest rank, for its
job's duration and with the next number, the oldest entry of its kind, or the insulation job on the first eligible
line from the pointer, which then moves past it; with none runnable nothing is started. The numbering of the jobs as
they start is the model's choice (log entry 17). -/
def Obligations.ArbiterStartsTheHighestRankedJob : Prop :=
  ∀ s : State, s.msu.running = none →
    (s.runnableJobs = [] → s.arbitrate = s) ∧
    (s.runnableJobs ≠ [] → ∃ r ∈ s.arbitrate.msu.running,
      (∃ e ∈ s.runnableJobs, e.2 = (r.line, r.kind) ∧ ∀ f ∈ s.runnableJobs, e.1 ≤ f.1) ∧
      r.number = s.msu.startCount ∧ s.arbitrate.msu.startCount = s.msu.startCount + 1 ∧
      r.timer = (match r.kind with
        | .originId => 120
        | .answerSide => 80
        | .hostTest => 300
        | .insulation => 300) ∧
      (r.kind ≠ .insulation → s.arbitrate.msu.pointer = s.msu.pointer ∧
        ∃ j ∈ s.msu.jobs, j.line = r.line ∧ j.kind = r.kind ∧
          ∀ i ∈ s.msu.jobs, i.kind = r.kind → (s.line i.line).relay.phase = .silent → j.arrival ≤ i.arrival) ∧
      (r.kind = .insulation → s.arbitrate.msu.pointer = r.line + 1 ∧
        ∀ f ∈ s.runnableJobs, f.2.2 = .insulation → (r.line - s.msu.pointer).val ≤ (f.2.1 - s.msu.pointer).val)) ∧
    s.arbitrate = { s with msu := { s.msu with
      running := s.arbitrate.msu.running, startCount := s.arbitrate.msu.startCount,
      pointer := s.arbitrate.msu.pointer } }

/-- A completion finds the job on the head that made its readings, of its own kind, and no other (R114, R119, R129):
once an event other than power-on has taken a job off the head, by its completion, an abort or RESTART, every
completion of that job finds nothing and changes nothing, whatever job the arbiter has started in its place. The
number by which the readings name their job is the model's own (log entry 17). -/
def Obligations.EndedJobsAreNotFound : Prop :=
  (∀ (tip ring : Reading) (s : State),
     ((∀ r ∈ s.msu.running, ¬(tip.job = r.number ∧ ring.job = r.number ∧ r.kind = .originId)) →
       exec (.originIdComplete tip ring) s = .next s) ∧
     ((∀ r ∈ s.msu.running, ¬(tip.job = r.number ∧ ring.job = r.number ∧ r.kind = .answerSide)) →
       exec (.answerSideComplete tip ring) s = .next s) ∧
     ((∀ r ∈ s.msu.running, ¬(tip.job = r.number ∧ ring.job = r.number ∧
         (r.kind = .hostTest ∨ r.kind = .insulation))) →
       exec (.testComplete tip ring) s = .next s)) ∧
  (∀ (c : Instr) (s t : State) (r : RunningJob), (∀ q ∈ s.msu.running, q.number < s.msu.startCount) →
     (∀ address rate goodA goodB, c ≠ .powerOn address rate goodA goodB) → s.msu.running = some r →
     exec c s = .next t → t.msu.running ≠ some r →
     (∀ q ∈ t.msu.running, r.number < q.number ∧ q.number < t.msu.startCount) ∧
     ∀ (tip ring : Reading), tip.job = r.number → ring.job = r.number →
       exec (.originIdComplete tip ring) t = .next t ∧ exec (.answerSideComplete tip ring) t = .next t ∧
       exec (.testComplete tip ring) t = .next t)

/-- The identification result of the corrected conductances (R125, R126), and the side result (R127). -/
def Obligations.ResultsFollowTheBands : Prop :=
  ∀ (ps : List Party) (gc : PerSide Nat),
    (OutOfBands gc.tip ∨ OutOfBands gc.ring → identify ps gc = .unidentified .outOfBand) ∧
    (∀ c d : Fin 4, InClass c gc.tip → InClass d gc.ring → identify ps gc = .unidentified .bothSides) ∧
    (∀ c : Fin 4, InClass c gc.tip → NoElement gc.ring →
      SoughtGive (ps.filter fun p => p.side = .tip ∧ p.cls = c) (identify ps gc) ∧ sideResult gc = some .tip) ∧
    (∀ c : Fin 4, NoElement gc.tip → InClass c gc.ring →
      SoughtGive (ps.filter fun p => p.side = .ring ∧ p.cls = c) (identify ps gc) ∧ sideResult gc = some .ring) ∧
    (NoElement gc.tip → NoElement gc.ring →
      SoughtGive (ps.filter fun p => p.cls = 0) (identify ps gc)) ∧
    (70 ≤ gc.tip → gc.ring < 70 → sideResult gc = some .tip) ∧
    (gc.tip < 70 → 70 ≤ gc.ring → sideResult gc = some .ring) ∧
    (70 ≤ gc.tip → 70 ≤ gc.ring → sideResult gc = none) ∧
    (gc.tip < 70 → gc.ring < 70 → sideResult gc = none)

/-- ORIGIN_ID completes (R104, R110, R119, R125, R126, R132): ORIGINATE with the result of the measured conductances,
of at most 2000 µS, less the line's leak values, a marker owed behind it, and the entry off the list. -/
def Obligations.OriginIdReportsTheOrigination : Prop :=
  ∀ (tip ring : Nat) (s : State) (r : RunningJob), s.msu.running = some r → r.kind = .originId →
    ∃ t, exec (.originIdComplete ⟨r.number, tip⟩ ⟨r.number, ring⟩) s = .next t ∧
      (∀ gc, gc = (⟨min 2000 tip - (s.line r.line).leaks.tip, min 2000 ring - (s.line r.line).leaks.ring⟩ :
          PerSide Nat) →
        t.reports.queue =
          if (s.line r.line).dial.markerOwed = true then
            queueWith (queueWith s.reports.queue
              (.originate r.line (identify (s.line r.line).record.parties gc) (some gc))) (.digits r.line)
          else queueWith s.reports.queue
            (.originate r.line (identify (s.line r.line).record.parties gc) (some gc))) ∧
      t.line r.line = { s.line r.line with
        dial := { (s.line r.line).dial with originationReported := true, markerOwed := false }
        call := { (s.line r.line).call with originationPending := false } } ∧
      t.msu.jobs = (s.msu.jobs.filter fun j => j.line ≠ r.line) ∧ t.msu.backlog = s.msu.backlog ∧
      OthersKept r.line s t ∧ t = { s with lines := t.lines, msu := t.msu, reports := t.reports }

/-- ANSWER_SIDE completes (R119, R127, R155, R156): CONNECTED with ANSWER for the called party, of source UNKNOWN with
no side, SHARED_SIDE when both parties are on one side, or CALLED on the called party's side; on the caller's side an
early pickup, back to REVERT_HOLD below the limit of 3 and given up at it. -/
def Obligations.AnswerSideDecidesWhoAnswered : Prop :=
  ∀ (tip ring : Nat) (s : State) (r : RunningJob), s.msu.running = some r → r.kind = .answerSide →
    ∀ d, (s.line r.line).call.called.bind (s.line r.line).party = some d →
    ∀ c, (s.line r.line).call.caller.bind (s.line r.line).party = some c →
    ∃ t, exec (.answerSideComplete ⟨r.number, tip⟩ ⟨r.number, ring⟩) s = .next t ∧
      (∀ x, x = sideResult ⟨min 2000 tip - (s.line r.line).leaks.tip, min 2000 ring - (s.line r.line).leaks.ring⟩ →
        (x = none →
          t.callState r.line = .connected ∧
          t.reports.queue =
            queueWith s.reports.queue (.answer r.line none .unknown (s.line r.line).call.called)) ∧
        (x ≠ none → d.side = c.side →
          t.callState r.line = .connected ∧
          t.reports.queue =
            queueWith s.reports.queue (.answer r.line x .sharedSide (s.line r.line).call.called)) ∧
        (x = some d.side → d.side ≠ c.side →
          t.callState r.line = .connected ∧
          t.reports.queue =
            queueWith s.reports.queue (.answer r.line x .called (s.line r.line).call.called)) ∧
        (t.callState r.line = .connected →
          (t.line r.line).call = { (s.line r.line).call with called := none, caller := none, recallOn := false } ∧
          (t.line r.line).record.earlyPickups = (s.line r.line).record.earlyPickups ∧
          (t.line r.line).dial = (s.line r.line).dial) ∧
        (x = some c.side → d.side ≠ c.side → (s.line r.line).record.earlyPickups < 2 →
          t.callState r.line = .revertHold ∧
          (t.line r.line).record.earlyPickups = (s.line r.line).record.earlyPickups + 1 ∧
          (t.line r.line).call =
            { (s.line r.line).call with revertHold := some (s.params.revertHoldS * 1000) } ∧
          (t.line r.line).dial = (s.line r.line).dial ∧
          t.reports.queue = queueWith s.reports.queue
            (.revertEarly r.line ((s.line r.line).record.earlyPickups + 1))) ∧
        (x = some c.side → d.side ≠ c.side → 2 ≤ (s.line r.line).record.earlyPickups →
          t.callState r.line = .originating ∧
          (t.line r.line).call = { (s.line r.line).call with
            called := none, caller := none, recallOn := false, revertHold := none,
            permanentSignal := some (s.params.permanentSignalS * 1000) } ∧
          (t.line r.line).dial =
            { (s.line r.line).dial with collection := .opened, pulseCount := 0, received := 0 } ∧
          t.reports.queue = queueWith s.reports.queue (.revertAbandon r.line .earlyLimit))) ∧
      t.msu.jobs = (s.msu.jobs.filter fun j => j.line ≠ r.line) ∧ t.msu.backlog = s.msu.backlog ∧
      (t.line r.line).record.parties = (s.line r.line).record.parties ∧ (t.line r.line).asg = (s.line r.line).asg ∧
      (t.line r.line).relay = (s.line r.line).relay ∧ (t.line r.line).sides = (s.line r.line).sides ∧
      OthersKept r.line s t ∧ t = { s with lines := t.lines, msu := t.msu, reports := t.reports }

/-- A completed test (R7, R89, R115, R116, R119, R120, R121, R124): the leak values, the baselines seeded with the
bias and their thresholds, LEAK and the condition by the limits with their hysteresis, TEST_RESULT for a HOST_TEST and
then LINE_CONDITION when the condition or a reason changed; an insulation test takes one off the backlog. -/
def Obligations.TestCompletionEvaluatesTheLine : Prop :=
  ∀ (tip ring : Nat) (s : State) (r : RunningJob), s.msu.running = some r →
    r.kind = .hostTest ∨ r.kind = .insulation →
    ∃ t, exec (.testComplete ⟨r.number, tip⟩ ⟨r.number, ring⟩) s = .next t ∧
      (t.line r.line).leaks = ⟨min 2000 tip, min 2000 ring⟩ ∧
      (t.line r.line).sides.tip = computeThreshold s.params
        { (s.line r.line).sides.tip with baseline := min 6000 (min 2000 tip * s.params.bias / 10) } ∧
      (t.line r.line).sides.ring = computeThreshold s.params
        { (s.line r.line).sides.ring with baseline := min 6000 (min 2000 ring * s.params.bias / 10) } ∧
      (t.line r.line).record.reasons.tripMargin =
        ((t.line r.line).sides.tip.pinned || (t.line r.line).sides.ring.pinned) ∧
      (∀ w, w = max (min 2000 tip) (min 2000 ring) →
        (s.params.faultLimit ≤ w ∨
            ((s.line r.line).record.condition = .faulted ∧ s.params.faultLimit - 10 ≤ w) →
          (t.line r.line).record.condition = .faulted ∧ (t.line r.line).record.reasons.leak = true) ∧
        (w < s.params.faultLimit →
            ((s.line r.line).record.condition = .faulted → w < s.params.faultLimit - 10) →
          (t.line r.line).record.condition =
            (if (t.line r.line).record.reasons = ⟨false, false⟩ then .normal else .degraded) ∧
          (s.params.degradeLimit ≤ w → (t.line r.line).record.reasons.leak = true) ∧
          ((s.line r.line).record.condition = .faulted → w < s.params.degradeLimit →
            (t.line r.line).record.reasons.leak = false) ∧
          ((s.line r.line).record.condition ≠ .faulted → w < s.params.degradeLimit →
              s.params.degradeLimit - 5 ≤ w →
            (t.line r.line).record.reasons.leak = (s.line r.line).record.reasons.leak) ∧
          (w < s.params.degradeLimit - 5 → (t.line r.line).record.reasons.leak = false))) ∧
      (∀ q, q = (if r.kind = .hostTest then
            queueWith s.reports.queue (.testResult r.line (some ⟨min 2000 tip, min 2000 ring⟩))
          else s.reports.queue) →
        ((t.line r.line).record.condition = (s.line r.line).record.condition →
          (t.line r.line).record.reasons = (s.line r.line).record.reasons →
          t.reports.queue = q ∧ (t.line r.line).record = (s.line r.line).record) ∧
        ((t.line r.line).record.condition ≠ (s.line r.line).record.condition ∨
            (t.line r.line).record.reasons ≠ (s.line r.line).record.reasons →
          (s.callState r.line ≠ .unequipped → s.reports.enables.lineCondition = true →
            t.reports.queue = queueWith q (.lineCondition r.line (t.line r.line).record.condition
              (t.line r.line).record.reasons (t.line r.line).leaks)) ∧
          (s.reports.enables.lineCondition = false →
            t.reports.queue = q ∧ (t.line r.line).record.latched.lineCondition = true))) ∧
      (r.kind = .hostTest →
        t.msu.jobs = (s.msu.jobs.filter fun j => j.line ≠ r.line) ∧ t.msu.backlog = s.msu.backlog ∧
        t.msu.mustRun = s.msu.mustRun) ∧
      (r.kind = .insulation →
        t.msu.jobs = s.msu.jobs ∧ t.msu.backlog = s.msu.backlog - 1 ∧
        t.msu.mustRun = (s.msu.mustRun && decide (9 ≤ s.msu.backlog - 1))) ∧
      t.callState r.line = s.callState r.line ∧ (t.line r.line).asg = (s.line r.line).asg ∧
      (t.line r.line).det = (s.line r.line).det ∧ (t.line r.line).call = (s.line r.line).call ∧
      (t.line r.line).dial = (s.line r.line).dial ∧
      OthersKept r.line s t ∧ t = { s with lines := t.lines, msu := t.msu, reports := t.reports }

/-! ### Call control (08, 09) -/

/-- CANCEL (R141, R154, R158): a ring or a reverting ring ends in IDLE with no report, a REVERT_HOLD goes back to
ORIGINATING, a REVERT_CHECK to PARKED with its side test aborted, and the reply returns the new state. -/
def Obligations.CancelEndsTheRing : Prop :=
  ∀ (l : LineId) (line : Byte) (s : State),
    (16 ≤ line.toNat → exec (.cancel line) s = .next (reply 0xB1 ⟨s, .badField, []⟩)) ∧
    (s.callState l ∉ [.ringing, .revertHold, .revertRinging, .revertCheck] →
      exec (.cancel (lineByte l)) s = .next (reply 0xB1 ⟨s, .lineState, []⟩)) ∧
    (s.callState l ∈ [.ringing, .revertHold, .revertRinging, .revertCheck] →
      ∃ u, exec (.cancel (lineByte l)) s = .next (reply 0xB1 ⟨u, .ok, [(u.callState l).byte]⟩) ∧
        (s.callState l = .ringing →
          u.callState l = .idle ∧ (u.line l).asg = none ∧ (WaitingLaw s → l ∉ u.waiting) ∧
          (u.line l).call = { (s.line l).call with ringingParty := none } ∧ u.msu.jobs = s.msu.jobs) ∧
        (s.callState l = .revertRinging →
          u.callState l = .idle ∧ (u.line l).asg = none ∧ (WaitingLaw s → l ∉ u.waiting) ∧
          (u.line l).call = { (s.line l).call with called := none, caller := none, recallOn := false } ∧
          u.msu.jobs = s.msu.jobs) ∧
        (s.callState l = .ringing ∨ s.callState l = .revertRinging → (s.line l).placedBus.isSome = true →
          (s.line l).relay.phase = .arm ∨ (s.line l).relay.phase = .ring →
          (u.line l).relay =
            { (s.line l).relay with phase := .quench, quenchKind := some .early, timer := some 30 }) ∧
        (s.callState l = .revertHold →
          u.callState l = .originating ∧
          (u.line l).call = { (s.line l).call with
            called := none, caller := none, recallOn := false, revertHold := none,
            permanentSignal := some (s.params.permanentSignalS * 1000) } ∧
          (u.line l).dial = { (s.line l).dial with collection := .opened, pulseCount := 0, received := 0 }) ∧
        (s.callState l = .revertCheck →
          u.callState l = .parked ∧ u.msu.jobs = (s.msu.jobs.filter fun j => j.line ≠ l) ∧
          (u.line l).call = { (s.line l).call with called := none, caller := none, recallOn := false }) ∧
        (s.callState l ≠ .revertHold → (u.line l).dial = (s.line l).dial) ∧
        (s.callState l ≠ .revertCheck ∨ s.hasHostTest l = false → u.reports = s.reports) ∧
        (u.line l).sides = (s.line l).sides ∧ (u.line l).leaks = (s.line l).leaks ∧ OthersKept l s u ∧
        u = { s with lines := u.lines, busA := u.busA, busB := u.busB, waiting := u.waiting, msu := u.msu,
                     reports := u.reports })

/-- CONNECT and RELEASE (R133, R135, R136): the line leaves ORIGINATING with ORIGINATE (ABANDONED) if still owed and
its collection ended, its digits kept; CONNECT makes it CONNECTED, RELEASE, from CONNECTED as well, IDLE if its loop
is open and PARKED if it is closed. -/
def Obligations.ConnectAndReleaseLeaveOriginating : Prop :=
  ∀ (l : LineId) (line : Byte) (s : State),
    (16 ≤ line.toNat → exec (.connect line) s = .next (reply 0xB2 ⟨s, .badField, []⟩) ∧
      exec (.release line) s = .next (reply 0xB3 ⟨s, .badField, []⟩)) ∧
    (s.callState l ≠ .originating →
      exec (.connect (lineByte l)) s = .next (reply 0xB2 ⟨s, .lineState, []⟩)) ∧
    (s.callState l ≠ .originating → s.callState l ≠ .connected →
      exec (.release (lineByte l)) s = .next (reply 0xB3 ⟨s, .lineState, []⟩)) ∧
    (s.callState l = .originating →
      ∃ u, exec (.connect (lineByte l)) s = .next (reply 0xB2 ⟨u, .ok, [4]⟩) ∧
        u.callState l = .connected ∧ u.reports.queue = leavingQueue l s ∧ JobsDropped l s u ∧
        (u.line l).call = { (s.line l).call with originationPending := false, permanentSignal := none } ∧
        (u.line l).dial.collection = .off ∧ (u.line l).dial.digits = (s.line l).dial.digits ∧
        (u.line l).dial.errors = (s.line l).dial.errors ∧ (u.line l).asg = (s.line l).asg ∧
        (u.line l).sides = (s.line l).sides ∧ (u.line l).relay = (s.line l).relay ∧
        (u.line l).scan = { (s.line l).scan with makeTimer := none } ∧ OthersKept l s u ∧
        u = { s with lines := u.lines, msu := u.msu, reports := u.reports }) ∧
    (s.callState l = .originating ∨ s.callState l = .connected →
      ∃ u, exec (.release (lineByte l)) s = .next (reply 0xB3 ⟨u, .ok, [(u.callState l).byte]⟩) ∧
        u.callState l = (if (s.line l).scan.closed = true then .parked else .idle) ∧
        (s.callState l = .originating →
          u.reports.queue = leavingQueue l s ∧ u.msu.jobs = (s.msu.jobs.filter fun j => j.line ≠ l) ∧
          (∀ r ∈ u.msu.running, r.line = l → r.kind = .insulation) ∧
          (u.line l).call = { (s.line l).call with originationPending := false, permanentSignal := none } ∧
          (u.line l).dial.collection = .off ∧ (u.line l).dial.digits = (s.line l).dial.digits ∧
          (u.line l).dial.errors = (s.line l).dial.errors ∧ (u.line l).scan.makeTimer = none) ∧
        (s.callState l = .connected →
          u.reports = s.reports ∧ (u.line l).call = (s.line l).call ∧ (u.line l).dial = (s.line l).dial ∧
          u.msu.jobs = s.msu.jobs ∧ u.msu.backlog = s.msu.backlog) ∧
        (u.line l).asg = (s.line l).asg ∧ (u.line l).sides = (s.line l).sides ∧
        (u.line l).relay = (s.line l).relay ∧ (u.line l).scan.closed = (s.line l).scan.closed ∧ OthersKept l s u ∧
        u = { s with lines := u.lines, msu := u.msu, reports := u.reports })

/-- REVERT accepted (R149): REVERT_HOLD for the called party and the caller, with the recall setting, no early pickups
and the revert-hold timer running; the line leaves ORIGINATING as every exit does. -/
def Obligations.RevertHoldsTheLine : Prop :=
  ∀ (l : LineId) (d c : PartyNo) (recallOn : Bool) (s : State),
    s.callState l = .originating → d ≠ c → (s.line l).record.condition ≠ .faulted →
    ∀ p, (s.line l).party d = some p → ∀ q, (s.line l).party c = some q →
    (∃ bus, (s.line l).record.loads.get p.side ≤ (s.bus bus).budget ∧
      (recallOn = true → (s.line l).record.loads.get q.side ≤ (s.bus bus).budget)) →
    ∃ u, exec (.revert (lineByte l) (numberByte d) (numberByte c) (if recallOn then 1 else 0)) s =
        .next (reply 0xB4 ⟨u, .ok, [7]⟩) ∧
      (u.line l).record = { (s.line l).record with callState := .revertHold, earlyPickups := 0 } ∧
      (u.line l).call = { (s.line l).call with
        originationPending := false, permanentSignal := none, called := some d, caller := some c,
        recallOn := recallOn, revertHold := some (s.params.revertHoldS * 1000) } ∧
      u.reports.queue = leavingQueue l s ∧ JobsDropped l s u ∧
      (u.line l).dial.collection = .off ∧ (u.line l).dial.digits = (s.line l).dial.digits ∧
      (u.line l).dial.errors = (s.line l).dial.errors ∧ (u.line l).asg = (s.line l).asg ∧
      (u.line l).relay = (s.line l).relay ∧ (u.line l).sides = (s.line l).sides ∧
      (u.line l).scan = { (s.line l).scan with makeTimer := none } ∧ OthersKept l s u ∧
      u = { s with lines := u.lines, msu := u.msu, reports := u.reports }

/-! ### Settings and reports (11) -/

/-- POLL (R104, R179): the oldest reports, as many as fit, at most four, taken off the queue; a DIGITS report carries
the line's digits and flags, which are then served. -/
def Obligations.PollServesTheOldestReports : Prop :=
  ∀ s : State, ReportLaw s →
    ∃ u, exec .poll s = .next (reply 0x81 ⟨u, .ok,
        byteOf (s.reports.queue.length - u.reports.queue.length) ::
          (s.reports.queue.take (s.reports.queue.length - u.reports.queue.length)).flatMap (reportBytes s.dialOf)⟩) ∧
      (∀ n, n = s.reports.queue.length - u.reports.queue.length →
        u.reports = { s.reports with queue := s.reports.queue.drop n } ∧ n ≤ 4 ∧
        ((s.reports.queue.take n).flatMap (reportBytes s.dialOf)).length ≤ 45 ∧
        (n = 4 ∨ n = s.reports.queue.length ∨
          45 < ((s.reports.queue.take (n + 1)).flatMap (reportBytes s.dialOf)).length) ∧
        ∀ l, u.line l = { s.line l with dial :=
          if (Report.digits l ∈ s.reports.queue.take n) then
            { (s.line l).dial with digits := [], errors := ⟨false, false, false⟩, complete := false }
          else (s.line l).dial }) ∧
      u = { s with lines := u.lines, reports := u.reports }

/-- SET_PARAMETERS (R6, R7, R74, R75, R122, R175): each parameter whose bit is set takes its value clamped into its
range, a parameter whose range moves with another is held to it, the others stand, and the reply returns all thirteen;
a change of Tmin or Tmax computes every threshold again, TRIP_MARGIN follows on each line, and the changes of
condition or reasons are reported or latched in ascending line number. SET_REPORTS stores the three enables of its
byte and returns them (R176); a kind that is not listed is answered with UNKNOWN_KIND and does nothing else (R173). -/
def Obligations.SetParametersClampsAndStores : Prop :=
  (∀ (mask : DByte) (v : Vector DByte 13) (s : State), ParamLaw s.params →
     ∃ u, exec (.setParameters mask v) s = .next (reply 0x83 ⟨u, .ok,
         [u.params.confirm, u.params.window, u.params.marginDefault, u.params.tmin, u.params.tmax, u.params.bias,
           u.params.ringCycles, u.params.interdigitS, u.params.permanentSignalS, u.params.revertHoldS,
           u.params.testTickS, u.params.degradeLimit, u.params.faultLimit].flatMap wordBytes⟩) ∧
       ParamLaw u.params ∧
       (∀ b : Fin 13, ∀ lo hi : Nat,
         (b, lo, hi) ∈ [((0 : Fin 13), 2, 6), (1, u.params.confirm, 20), (2, 20, 100), (3, 20, 100),
           (4, u.params.tmin + 20, 200), (5, 24, 72), (6, 1, 60), (7, 2, 10), (8, 10, 120), (9, 5, 60), (10, 1, 60),
           (11, 5, 200), (12, u.params.degradeLimit + 10, 500)] →
         u.params.toList[b.val]? = some (max lo (if mask.getLsbD b.val = true then min hi (v.get b).toNat
           else s.params.toList[b.val]?.getD 0))) ∧
       (u.params.tmin ≠ s.params.tmin ∨ u.params.tmax ≠ s.params.tmax →
         (∀ l sd, (u.line l).sides.get sd = computeThreshold u.params ((s.line l).sides.get sd)) ∧
         (∀ l, TripMarginFollows l s u) ∧
         u.reports = pushReports s.reports (allLines.filterMap fun l => conditionReport l s u)) ∧
       (u.params.tmin = s.params.tmin → u.params.tmax = s.params.tmax → u = { s with params := u.params }) ∧
       (∀ l, u.callState l = s.callState l ∧ (u.line l).asg = (s.line l).asg ∧ (u.line l).relay = (s.line l).relay ∧
         (u.line l).scan = (s.line l).scan ∧ (u.line l).dial = (s.line l).dial ∧ (u.line l).call = (s.line l).call ∧
         (u.line l).det = (s.line l).det ∧ (u.line l).leaks = (s.line l).leaks) ∧
       u = { s with lines := u.lines, params := u.params, reports := u.reports }) ∧
  (∀ (e kind : Byte) (payload : List Byte) (s : State),
     exec (.setReports e) s = .next (reply 0x84
       ⟨{ s with reports := { s.reports with enables := ⟨e.getLsbD 0, e.getLsbD 1, e.getLsbD 2⟩ } }, .ok, [e &&& 7]⟩) ∧
     exec (.unknownKind kind payload) s = .next (reply 0xFF ⟨s, .unknownKind, []⟩))

/-- RESTART (R18, R56, R71, R91, R109, R129, R146, R160, R177): every call ends, relays by early QUENCH, each line
IDLE or PARKED by its loop unless it is UNEQUIPPED or BLOCKED, the job list and the head empty, and the report queue
holds RESTARTED and a PARKED report for each line so put. The detector's run, window length, sample sum and sample
count are 0; the configuration, the trip records and the schedule clock stand, and so do each bus's source-good input
and the timing of its filter, the order and arrival counts, the backlog, the MUST-run flag, the test tick timer and
the rotating pointer (which an insulation job that takes the freed head moves on). A broadcast RESTART does the same
and is not answered; that it too clears the reports-lost flag is section 11.2's word (the model's choice, log entry
18). -/
def Obligations.RestartEndsEveryCall : Prop :=
  ∀ s : State, ∃ u, exec (.restart true) s = .next u ∧
    exec (.restart false) s = .next (reply 0x82 ⟨u, .ok, []⟩) ∧
    (∀ l, (u.line l).record = { (s.line l).record with
        callState := if s.callState l = .unequipped ∨ s.callState l = .blocked then s.callState l
          else if (s.line l).scan.closed = true then .parked else .idle
        earlyPickups := 0 } ∧
      (u.line l).asg = none ∧
      (u.line l).relay =
        (if (s.line l).relay.phase = .arm ∨ (s.line l).relay.phase = .ring then
          { (s.line l).relay with phase := .quench, quenchKind := some .early, timer := some 30 }
        else (s.line l).relay) ∧
      (u.line l).sides = (s.line l).sides ∧ (u.line l).leaks = (s.line l).leaks ∧
      (u.line l).det.mode = .idle ∧ (u.line l).det.verifyRunning = false ∧ (u.line l).det.verifyCause = none ∧
      (u.line l).det.run = 0 ∧ (u.line l).det.windowLength = 0 ∧
      (u.line l).det.sampleSum = 0 ∧ (u.line l).det.sampleCount = 0 ∧
      (u.line l).scan = { (s.line l).scan with closedHold := none, breakTimer := none, makeTimer := none } ∧
      (u.line l).dial =
        { collection := .off, pulseCount := 0, received := 0, interdigit := none, digits := [],
          errors := ⟨false, false, false⟩, complete := false, originationReported := false, markerOwed := false } ∧
      (u.line l).call =
        { ringingParty := none, originationPending := false, permanentSignal := none, called := none, caller := none,
          recallOn := false, revertHold := none }) ∧
    (WaitingLaw s → u.waiting = []) ∧ (LoadLaw s → ∀ bus g, (u.bus bus).loads.get g = 0) ∧
    (∀ bus, (u.bus bus).budget = (s.bus bus).budget ∧ (u.bus bus).status = (s.bus bus).status ∧
      (u.bus bus).stateLatch = (s.bus bus).stateLatch ∧ (u.bus bus).sourceGood = (s.bus bus).sourceGood ∧
      (u.bus bus).filterTimer = (s.bus bus).filterTimer) ∧
    u.createdCount = s.createdCount ∧ u.placedCount = s.placedCount ∧
    u.msu.jobs = [] ∧ (∀ r ∈ u.msu.running, r.kind = .insulation) ∧ u.msu.backlog = s.msu.backlog ∧
    u.msu.mustRun = s.msu.mustRun ∧ u.msu.pointer = ((u.msu.running.map fun r => r.line + 1).getD s.msu.pointer) ∧
    u.msu.arrivalCount = s.msu.arrivalCount ∧
    u.msu.tickTimer = s.msu.tickTimer ∧
    u.reports.queue = .restarted :: (allLines.filter fun l => u.callState l = .parked).map .parked ∧
    u.reports.lost = false ∧ u.reports.enables = s.reports.enables ∧
    u = { s with lines := u.lines, busA := u.busA, busB := u.busB, waiting := u.waiting, msu := u.msu,
                 reports := u.reports }
end

