-- ==== Sys2Proof/Laws/State.lean ====
section
/-! SUPPORT. The small lemmas of the state's updates: what each leaves in every field of State. -/

namespace Sys2Proof.Machine

/-! ### Vectors and per-side pairs -/

@[simp] theorem tabulate_get {α : Type} {n : Nat} (f : Fin n → α) (i : Fin n) : (tabulate f).get i = f i := by
  show (tabulate f)[i.val] = f i
  simp [tabulate]

theorem Vector.get_set_self {α : Type} {n : Nat} (v : Vector α n) (i : Fin n) (x : α) :
    (v.set i.val x i.isLt).get i = x := by
  show (v.set i.val x i.isLt)[i.val] = x
  simp

theorem Vector.get_set_ne {α : Type} {n : Nat} (v : Vector α n) (i j : Fin n) (x : α) (h : j ≠ i) :
    (v.set i.val x i.isLt).get j = v.get j := by
  have : i.val ≠ j.val := fun e => h (Fin.ext e.symm)
  show (v.set i.val x i.isLt)[j.val] = v[j.val]
  simp [this]

@[simp] theorem PerSide.get_modify_self {α : Type} (x : PerSide α) (f : α → α) (sd : Side) :
    (x.modify f sd).get sd = f (x.get sd) := by cases sd <;> rfl

theorem PerSide.get_modify_ne {α : Type} (x : PerSide α) (f : α → α) (sd e : Side) (h : e ≠ sd) :
    (x.modify f sd).get e = x.get e := by cases sd <;> cases e <;> first | rfl | exact absurd rfl h

/-! ### One line changed -/

@[simp] theorem State.modLine_line_self (s : State) (l : LineId) (f : Line → Line) :
    (s.modLine l f).line l = f (s.line l) := Vector.get_set_self _ _ _

theorem State.modLine_line_ne (s : State) (l m : LineId) (f : Line → Line) (h : m ≠ l) :
    (s.modLine l f).line m = s.line m := Vector.get_set_ne _ _ _ _ h

theorem State.modLine_line (s : State) (l m : LineId) (f : Line → Line) :
    (s.modLine l f).line m = if m = l then f (s.line l) else s.line m := by
  split
  · rename_i h; subst h; exact State.modLine_line_self s m f
  · rename_i h; exact State.modLine_line_ne s l m f h

@[simp] theorem State.mapLines_line (s : State) (f : Line → Line) (l : LineId) :
    (s.mapLines f).line l = f (s.line l) := tabulate_get _ _

@[simp] theorem State.modBus_bus_self (s : State) (u : Bus) (f : BusRecord → BusRecord) :
    (s.modBus u f).bus u = f (s.bus u) := by cases u <;> rfl

theorem State.modBus_bus_ne (s : State) (u v : Bus) (f : BusRecord → BusRecord) (h : v ≠ u) :
    (s.modBus u f).bus v = s.bus v := by cases u <;> cases v <;> first | rfl | exact absurd rfl h

@[simp] theorem State.modBus_lines (s : State) (u : Bus) (f : BusRecord → BusRecord) :
    (s.modBus u f).lines = s.lines := by cases u <;> rfl

@[simp] theorem State.modBus_line (s : State) (u : Bus) (f : BusRecord → BusRecord) (l : LineId) :
    (s.modBus u f).line l = s.line l := by cases u <;> rfl

/-! ### modLine -/

@[simp] theorem State.modLine_codes (s : State) (l : LineId) (f : Line → Line) : (s.modLine l f).codes = s.codes := rfl
@[simp] theorem State.modLine_slot (s : State) (l : LineId) (f : Line → Line) : (s.modLine l f).slot = s.slot := rfl
@[simp] theorem State.modLine_busA (s : State) (l : LineId) (f : Line → Line) : (s.modLine l f).busA = s.busA := rfl
@[simp] theorem State.modLine_busB (s : State) (l : LineId) (f : Line → Line) : (s.modLine l f).busB = s.busB := rfl
@[simp] theorem State.modLine_waiting (s : State) (l : LineId) (f : Line → Line) : (s.modLine l f).waiting = s.waiting := rfl
@[simp] theorem State.modLine_createdCount (s : State) (l : LineId) (f : Line → Line) : (s.modLine l f).createdCount = s.createdCount := rfl
@[simp] theorem State.modLine_placedCount (s : State) (l : LineId) (f : Line → Line) : (s.modLine l f).placedCount = s.placedCount := rfl
@[simp] theorem State.modLine_msu (s : State) (l : LineId) (f : Line → Line) : (s.modLine l f).msu = s.msu := rfl
@[simp] theorem State.modLine_params (s : State) (l : LineId) (f : Line → Line) : (s.modLine l f).params = s.params := rfl
@[simp] theorem State.modLine_link (s : State) (l : LineId) (f : Line → Line) : (s.modLine l f).link = s.link := rfl
@[simp] theorem State.modLine_reports (s : State) (l : LineId) (f : Line → Line) : (s.modLine l f).reports = s.reports := rfl
@[simp] theorem State.modLine_pending (s : State) (l : LineId) (f : Line → Line) : (s.modLine l f).pending = s.pending := rfl
@[simp] theorem State.modLine_bus (s : State) (l : LineId) (f : Line → Line) (u : Bus) : (s.modLine l f).bus u = s.bus u := by
  cases u <;> rfl

/-! ### modRecord -/

@[simp] theorem State.modRecord_codes (s : State) (l : LineId) (f : LineRecord → LineRecord) : (s.modRecord l f).codes = s.codes := rfl
@[simp] theorem State.modRecord_slot (s : State) (l : LineId) (f : LineRecord → LineRecord) : (s.modRecord l f).slot = s.slot := rfl
@[simp] theorem State.modRecord_busA (s : State) (l : LineId) (f : LineRecord → LineRecord) : (s.modRecord l f).busA = s.busA := rfl
@[simp] theorem State.modRecord_busB (s : State) (l : LineId) (f : LineRecord → LineRecord) : (s.modRecord l f).busB = s.busB := rfl
@[simp] theorem State.modRecord_waiting (s : State) (l : LineId) (f : LineRecord → LineRecord) : (s.modRecord l f).waiting = s.waiting := rfl
@[simp] theorem State.modRecord_createdCount (s : State) (l : LineId) (f : LineRecord → LineRecord) : (s.modRecord l f).createdCount = s.createdCount := rfl
@[simp] theorem State.modRecord_placedCount (s : State) (l : LineId) (f : LineRecord → LineRecord) : (s.modRecord l f).placedCount = s.placedCount := rfl
@[simp] theorem State.modRecord_msu (s : State) (l : LineId) (f : LineRecord → LineRecord) : (s.modRecord l f).msu = s.msu := rfl
@[simp] theorem State.modRecord_params (s : State) (l : LineId) (f : LineRecord → LineRecord) : (s.modRecord l f).params = s.params := rfl
@[simp] theorem State.modRecord_link (s : State) (l : LineId) (f : LineRecord → LineRecord) : (s.modRecord l f).link = s.link := rfl
@[simp] theorem State.modRecord_reports (s : State) (l : LineId) (f : LineRecord → LineRecord) : (s.modRecord l f).reports = s.reports := rfl
@[simp] theorem State.modRecord_pending (s : State) (l : LineId) (f : LineRecord → LineRecord) : (s.modRecord l f).pending = s.pending := rfl
@[simp] theorem State.modRecord_bus (s : State) (l : LineId) (f : LineRecord → LineRecord) (u : Bus) : (s.modRecord l f).bus u = s.bus u := by
  cases u <;> rfl
theorem State.modRecord_line_ne (s : State) (l m : LineId) (f : LineRecord → LineRecord) (h : m ≠ l) : (s.modRecord l f).line m = s.line m :=
  State.modLine_line_ne _ _ _ _ h
@[simp] theorem State.modRecord_line_self (s : State) (l : LineId) (f : LineRecord → LineRecord) :
    (s.modRecord l f).line l = { s.line l with record := f (s.line l).record } := State.modLine_line_self _ _ _

/-! ### modRelay -/

@[simp] theorem State.modRelay_codes (s : State) (l : LineId) (f : RelayRecord → RelayRecord) : (s.modRelay l f).codes = s.codes := rfl
@[simp] theorem State.modRelay_slot (s : State) (l : LineId) (f : RelayRecord → RelayRecord) : (s.modRelay l f).slot = s.slot := rfl
@[simp] theorem State.modRelay_busA (s : State) (l : LineId) (f : RelayRecord → RelayRecord) : (s.modRelay l f).busA = s.busA := rfl
@[simp] theorem State.modRelay_busB (s : State) (l : LineId) (f : RelayRecord → RelayRecord) : (s.modRelay l f).busB = s.busB := rfl
@[simp] theorem State.modRelay_waiting (s : State) (l : LineId) (f : RelayRecord → RelayRecord) : (s.modRelay l f).waiting = s.waiting := rfl
@[simp] theorem State.modRelay_createdCount (s : State) (l : LineId) (f : RelayRecord → RelayRecord) : (s.modRelay l f).createdCount = s.createdCount := rfl
@[simp] theorem State.modRelay_placedCount (s : State) (l : LineId) (f : RelayRecord → RelayRecord) : (s.modRelay l f).placedCount = s.placedCount := rfl
@[simp] theorem State.modRelay_msu (s : State) (l : LineId) (f : RelayRecord → RelayRecord) : (s.modRelay l f).msu = s.msu := rfl
@[simp] theorem State.modRelay_params (s : State) (l : LineId) (f : RelayRecord → RelayRecord) : (s.modRelay l f).params = s.params := rfl
@[simp] theorem State.modRelay_link (s : State) (l : LineId) (f : RelayRecord → RelayRecord) : (s.modRelay l f).link = s.link := rfl
@[simp] theorem State.modRelay_reports (s : State) (l : LineId) (f : RelayRecord → RelayRecord) : (s.modRelay l f).reports = s.reports := rfl
@[simp] theorem State.modRelay_pending (s : State) (l : LineId) (f : RelayRecord → RelayRecord) : (s.modRelay l f).pending = s.pending := rfl
@[simp] theorem State.modRelay_bus (s : State) (l : LineId) (f : RelayRecord → RelayRecord) (u : Bus) : (s.modRelay l f).bus u = s.bus u := by
  cases u <;> rfl
theorem State.modRelay_line_ne (s : State) (l m : LineId) (f : RelayRecord → RelayRecord) (h : m ≠ l) : (s.modRelay l f).line m = s.line m :=
  State.modLine_line_ne _ _ _ _ h
@[simp] theorem State.modRelay_line_self (s : State) (l : LineId) (f : RelayRecord → RelayRecord) :
    (s.modRelay l f).line l = { s.line l with relay := f (s.line l).relay } := State.modLine_line_self _ _ _

/-! ### modDet -/

@[simp] theorem State.modDet_codes (s : State) (l : LineId) (f : DetectorRecord → DetectorRecord) : (s.modDet l f).codes = s.codes := rfl
@[simp] theorem State.modDet_slot (s : State) (l : LineId) (f : DetectorRecord → DetectorRecord) : (s.modDet l f).slot = s.slot := rfl
@[simp] theorem State.modDet_busA (s : State) (l : LineId) (f : DetectorRecord → DetectorRecord) : (s.modDet l f).busA = s.busA := rfl
@[simp] theorem State.modDet_busB (s : State) (l : LineId) (f : DetectorRecord → DetectorRecord) : (s.modDet l f).busB = s.busB := rfl
@[simp] theorem State.modDet_waiting (s : State) (l : LineId) (f : DetectorRecord → DetectorRecord) : (s.modDet l f).waiting = s.waiting := rfl
@[simp] theorem State.modDet_createdCount (s : State) (l : LineId) (f : DetectorRecord → DetectorRecord) : (s.modDet l f).createdCount = s.createdCount := rfl
@[simp] theorem State.modDet_placedCount (s : State) (l : LineId) (f : DetectorRecord → DetectorRecord) : (s.modDet l f).placedCount = s.placedCount := rfl
@[simp] theorem State.modDet_msu (s : State) (l : LineId) (f : DetectorRecord → DetectorRecord) : (s.modDet l f).msu = s.msu := rfl
@[simp] theorem State.modDet_params (s : State) (l : LineId) (f : DetectorRecord → DetectorRecord) : (s.modDet l f).params = s.params := rfl
@[simp] theorem State.modDet_link (s : State) (l : LineId) (f : DetectorRecord → DetectorRecord) : (s.modDet l f).link = s.link := rfl
@[simp] theorem State.modDet_reports (s : State) (l : LineId) (f : DetectorRecord → DetectorRecord) : (s.modDet l f).reports = s.reports := rfl
@[simp] theorem State.modDet_pending (s : State) (l : LineId) (f : DetectorRecord → DetectorRecord) : (s.modDet l f).pending = s.pending := rfl
@[simp] theorem State.modDet_bus (s : State) (l : LineId) (f : DetectorRecord → DetectorRecord) (u : Bus) : (s.modDet l f).bus u = s.bus u := by
  cases u <;> rfl
theorem State.modDet_line_ne (s : State) (l m : LineId) (f : DetectorRecord → DetectorRecord) (h : m ≠ l) : (s.modDet l f).line m = s.line m :=
  State.modLine_line_ne _ _ _ _ h
@[simp] theorem State.modDet_line_self (s : State) (l : LineId) (f : DetectorRecord → DetectorRecord) :
    (s.modDet l f).line l = { s.line l with det := f (s.line l).det } := State.modLine_line_self _ _ _

/-! ### modScan -/

@[simp] theorem State.modScan_codes (s : State) (l : LineId) (f : ScannerRecord → ScannerRecord) : (s.modScan l f).codes = s.codes := rfl
@[simp] theorem State.modScan_slot (s : State) (l : LineId) (f : ScannerRecord → ScannerRecord) : (s.modScan l f).slot = s.slot := rfl
@[simp] theorem State.modScan_busA (s : State) (l : LineId) (f : ScannerRecord → ScannerRecord) : (s.modScan l f).busA = s.busA := rfl
@[simp] theorem State.modScan_busB (s : State) (l : LineId) (f : ScannerRecord → ScannerRecord) : (s.modScan l f).busB = s.busB := rfl
@[simp] theorem State.modScan_waiting (s : State) (l : LineId) (f : ScannerRecord → ScannerRecord) : (s.modScan l f).waiting = s.waiting := rfl
@[simp] theorem State.modScan_createdCount (s : State) (l : LineId) (f : ScannerRecord → ScannerRecord) : (s.modScan l f).createdCount = s.createdCount := rfl
@[simp] theorem State.modScan_placedCount (s : State) (l : LineId) (f : ScannerRecord → ScannerRecord) : (s.modScan l f).placedCount = s.placedCount := rfl
@[simp] theorem State.modScan_msu (s : State) (l : LineId) (f : ScannerRecord → ScannerRecord) : (s.modScan l f).msu = s.msu := rfl
@[simp] theorem State.modScan_params (s : State) (l : LineId) (f : ScannerRecord → ScannerRecord) : (s.modScan l f).params = s.params := rfl
@[simp] theorem State.modScan_link (s : State) (l : LineId) (f : ScannerRecord → ScannerRecord) : (s.modScan l f).link = s.link := rfl
@[simp] theorem State.modScan_reports (s : State) (l : LineId) (f : ScannerRecord → ScannerRecord) : (s.modScan l f).reports = s.reports := rfl
@[simp] theorem State.modScan_pending (s : State) (l : LineId) (f : ScannerRecord → ScannerRecord) : (s.modScan l f).pending = s.pending := rfl
@[simp] theorem State.modScan_bus (s : State) (l : LineId) (f : ScannerRecord → ScannerRecord) (u : Bus) : (s.modScan l f).bus u = s.bus u := by
  cases u <;> rfl
theorem State.modScan_line_ne (s : State) (l m : LineId) (f : ScannerRecord → ScannerRecord) (h : m ≠ l) : (s.modScan l f).line m = s.line m :=
  State.modLine_line_ne _ _ _ _ h
@[simp] theorem State.modScan_line_self (s : State) (l : LineId) (f : ScannerRecord → ScannerRecord) :
    (s.modScan l f).line l = { s.line l with scan := f (s.line l).scan } := State.modLine_line_self _ _ _

/-! ### modDial -/

@[simp] theorem State.modDial_codes (s : State) (l : LineId) (f : DialRecord → DialRecord) : (s.modDial l f).codes = s.codes := rfl
@[simp] theorem State.modDial_slot (s : State) (l : LineId) (f : DialRecord → DialRecord) : (s.modDial l f).slot = s.slot := rfl
@[simp] theorem State.modDial_busA (s : State) (l : LineId) (f : DialRecord → DialRecord) : (s.modDial l f).busA = s.busA := rfl
@[simp] theorem State.modDial_busB (s : State) (l : LineId) (f : DialRecord → DialRecord) : (s.modDial l f).busB = s.busB := rfl
@[simp] theorem State.modDial_waiting (s : State) (l : LineId) (f : DialRecord → DialRecord) : (s.modDial l f).waiting = s.waiting := rfl
@[simp] theorem State.modDial_createdCount (s : State) (l : LineId) (f : DialRecord → DialRecord) : (s.modDial l f).createdCount = s.createdCount := rfl
@[simp] theorem State.modDial_placedCount (s : State) (l : LineId) (f : DialRecord → DialRecord) : (s.modDial l f).placedCount = s.placedCount := rfl
@[simp] theorem State.modDial_msu (s : State) (l : LineId) (f : DialRecord → DialRecord) : (s.modDial l f).msu = s.msu := rfl
@[simp] theorem State.modDial_params (s : State) (l : LineId) (f : DialRecord → DialRecord) : (s.modDial l f).params = s.params := rfl
@[simp] theorem State.modDial_link (s : State) (l : LineId) (f : DialRecord → DialRecord) : (s.modDial l f).link = s.link := rfl
@[simp] theorem State.modDial_reports (s : State) (l : LineId) (f : DialRecord → DialRecord) : (s.modDial l f).reports = s.reports := rfl
@[simp] theorem State.modDial_pending (s : State) (l : LineId) (f : DialRecord → DialRecord) : (s.modDial l f).pending = s.pending := rfl
@[simp] theorem State.modDial_bus (s : State) (l : LineId) (f : DialRecord → DialRecord) (u : Bus) : (s.modDial l f).bus u = s.bus u := by
  cases u <;> rfl
theorem State.modDial_line_ne (s : State) (l m : LineId) (f : DialRecord → DialRecord) (h : m ≠ l) : (s.modDial l f).line m = s.line m :=
  State.modLine_line_ne _ _ _ _ h
@[simp] theorem State.modDial_line_self (s : State) (l : LineId) (f : DialRecord → DialRecord) :
    (s.modDial l f).line l = { s.line l with dial := f (s.line l).dial } := State.modLine_line_self _ _ _

/-! ### modCall -/

@[simp] theorem State.modCall_codes (s : State) (l : LineId) (f : CallRecord → CallRecord) : (s.modCall l f).codes = s.codes := rfl
@[simp] theorem State.modCall_slot (s : State) (l : LineId) (f : CallRecord → CallRecord) : (s.modCall l f).slot = s.slot := rfl
@[simp] theorem State.modCall_busA (s : State) (l : LineId) (f : CallRecord → CallRecord) : (s.modCall l f).busA = s.busA := rfl
@[simp] theorem State.modCall_busB (s : State) (l : LineId) (f : CallRecord → CallRecord) : (s.modCall l f).busB = s.busB := rfl
@[simp] theorem State.modCall_waiting (s : State) (l : LineId) (f : CallRecord → CallRecord) : (s.modCall l f).waiting = s.waiting := rfl
@[simp] theorem State.modCall_createdCount (s : State) (l : LineId) (f : CallRecord → CallRecord) : (s.modCall l f).createdCount = s.createdCount := rfl
@[simp] theorem State.modCall_placedCount (s : State) (l : LineId) (f : CallRecord → CallRecord) : (s.modCall l f).placedCount = s.placedCount := rfl
@[simp] theorem State.modCall_msu (s : State) (l : LineId) (f : CallRecord → CallRecord) : (s.modCall l f).msu = s.msu := rfl
@[simp] theorem State.modCall_params (s : State) (l : LineId) (f : CallRecord → CallRecord) : (s.modCall l f).params = s.params := rfl
@[simp] theorem State.modCall_link (s : State) (l : LineId) (f : CallRecord → CallRecord) : (s.modCall l f).link = s.link := rfl
@[simp] theorem State.modCall_reports (s : State) (l : LineId) (f : CallRecord → CallRecord) : (s.modCall l f).reports = s.reports := rfl
@[simp] theorem State.modCall_pending (s : State) (l : LineId) (f : CallRecord → CallRecord) : (s.modCall l f).pending = s.pending := rfl
@[simp] theorem State.modCall_bus (s : State) (l : LineId) (f : CallRecord → CallRecord) (u : Bus) : (s.modCall l f).bus u = s.bus u := by
  cases u <;> rfl
theorem State.modCall_line_ne (s : State) (l m : LineId) (f : CallRecord → CallRecord) (h : m ≠ l) : (s.modCall l f).line m = s.line m :=
  State.modLine_line_ne _ _ _ _ h
@[simp] theorem State.modCall_line_self (s : State) (l : LineId) (f : CallRecord → CallRecord) :
    (s.modCall l f).line l = { s.line l with call := f (s.line l).call } := State.modLine_line_self _ _ _

/-! ### setAsg -/

@[simp] theorem State.setAsg_codes (s : State) (l : LineId) (a : Option Assignment) : (s.setAsg l a).codes = s.codes := rfl
@[simp] theorem State.setAsg_slot (s : State) (l : LineId) (a : Option Assignment) : (s.setAsg l a).slot = s.slot := rfl
@[simp] theorem State.setAsg_busA (s : State) (l : LineId) (a : Option Assignment) : (s.setAsg l a).busA = s.busA := rfl
@[simp] theorem State.setAsg_busB (s : State) (l : LineId) (a : Option Assignment) : (s.setAsg l a).busB = s.busB := rfl
@[simp] theorem State.setAsg_waiting (s : State) (l : LineId) (a : Option Assignment) : (s.setAsg l a).waiting = s.waiting := rfl
@[simp] theorem State.setAsg_createdCount (s : State) (l : LineId) (a : Option Assignment) : (s.setAsg l a).createdCount = s.createdCount := rfl
@[simp] theorem State.setAsg_placedCount (s : State) (l : LineId) (a : Option Assignment) : (s.setAsg l a).placedCount = s.placedCount := rfl
@[simp] theorem State.setAsg_msu (s : State) (l : LineId) (a : Option Assignment) : (s.setAsg l a).msu = s.msu := rfl
@[simp] theorem State.setAsg_params (s : State) (l : LineId) (a : Option Assignment) : (s.setAsg l a).params = s.params := rfl
@[simp] theorem State.setAsg_link (s : State) (l : LineId) (a : Option Assignment) : (s.setAsg l a).link = s.link := rfl
@[simp] theorem State.setAsg_reports (s : State) (l : LineId) (a : Option Assignment) : (s.setAsg l a).reports = s.reports := rfl
@[simp] theorem State.setAsg_pending (s : State) (l : LineId) (a : Option Assignment) : (s.setAsg l a).pending = s.pending := rfl
@[simp] theorem State.setAsg_bus (s : State) (l : LineId) (a : Option Assignment) (u : Bus) : (s.setAsg l a).bus u = s.bus u := by
  cases u <;> rfl
theorem State.setAsg_line_ne (s : State) (l m : LineId) (a : Option Assignment) (h : m ≠ l) : (s.setAsg l a).line m = s.line m :=
  State.modLine_line_ne _ _ _ _ h
@[simp] theorem State.setAsg_line_self (s : State) (l : LineId) (a : Option Assignment) :
    (s.setAsg l a).line l = { s.line l with asg := a } := State.modLine_line_self _ _ _

/-! ### setCallState -/

@[simp] theorem State.setCallState_codes (s : State) (l : LineId) (st : CallState) : (s.setCallState l st).codes = s.codes := rfl
@[simp] theorem State.setCallState_slot (s : State) (l : LineId) (st : CallState) : (s.setCallState l st).slot = s.slot := rfl
@[simp] theorem State.setCallState_busA (s : State) (l : LineId) (st : CallState) : (s.setCallState l st).busA = s.busA := rfl
@[simp] theorem State.setCallState_busB (s : State) (l : LineId) (st : CallState) : (s.setCallState l st).busB = s.busB := rfl
@[simp] theorem State.setCallState_waiting (s : State) (l : LineId) (st : CallState) : (s.setCallState l st).waiting = s.waiting := rfl
@[simp] theorem State.setCallState_createdCount (s : State) (l : LineId) (st : CallState) : (s.setCallState l st).createdCount = s.createdCount := rfl
@[simp] theorem State.setCallState_placedCount (s : State) (l : LineId) (st : CallState) : (s.setCallState l st).placedCount = s.placedCount := rfl
@[simp] theorem State.setCallState_msu (s : State) (l : LineId) (st : CallState) : (s.setCallState l st).msu = s.msu := rfl
@[simp] theorem State.setCallState_params (s : State) (l : LineId) (st : CallState) : (s.setCallState l st).params = s.params := rfl
@[simp] theorem State.setCallState_link (s : State) (l : LineId) (st : CallState) : (s.setCallState l st).link = s.link := rfl
@[simp] theorem State.setCallState_reports (s : State) (l : LineId) (st : CallState) : (s.setCallState l st).reports = s.reports := rfl
@[simp] theorem State.setCallState_pending (s : State) (l : LineId) (st : CallState) : (s.setCallState l st).pending = s.pending := rfl
@[simp] theorem State.setCallState_bus (s : State) (l : LineId) (st : CallState) (u : Bus) : (s.setCallState l st).bus u = s.bus u := by
  cases u <;> rfl
theorem State.setCallState_line_ne (s : State) (l m : LineId) (st : CallState) (h : m ≠ l) : (s.setCallState l st).line m = s.line m :=
  State.modLine_line_ne _ _ _ _ h
@[simp] theorem State.setCallState_line_self (s : State) (l : LineId) (st : CallState) :
    (s.setCallState l st).line l = (s.line l).enter st := State.modLine_line_self _ _ _

/-! ### earlyQuench -/

@[simp] theorem State.earlyQuench_codes (s : State) (l : LineId) (c : CutCause) : (s.earlyQuench l c).codes = s.codes := rfl
@[simp] theorem State.earlyQuench_slot (s : State) (l : LineId) (c : CutCause) : (s.earlyQuench l c).slot = s.slot := rfl
@[simp] theorem State.earlyQuench_busA (s : State) (l : LineId) (c : CutCause) : (s.earlyQuench l c).busA = s.busA := rfl
@[simp] theorem State.earlyQuench_busB (s : State) (l : LineId) (c : CutCause) : (s.earlyQuench l c).busB = s.busB := rfl
@[simp] theorem State.earlyQuench_waiting (s : State) (l : LineId) (c : CutCause) : (s.earlyQuench l c).waiting = s.waiting := rfl
@[simp] theorem State.earlyQuench_createdCount (s : State) (l : LineId) (c : CutCause) : (s.earlyQuench l c).createdCount = s.createdCount := rfl
@[simp] theorem State.earlyQuench_placedCount (s : State) (l : LineId) (c : CutCause) : (s.earlyQuench l c).placedCount = s.placedCount := rfl
@[simp] theorem State.earlyQuench_msu (s : State) (l : LineId) (c : CutCause) : (s.earlyQuench l c).msu = s.msu := rfl
@[simp] theorem State.earlyQuench_params (s : State) (l : LineId) (c : CutCause) : (s.earlyQuench l c).params = s.params := rfl
@[simp] theorem State.earlyQuench_link (s : State) (l : LineId) (c : CutCause) : (s.earlyQuench l c).link = s.link := rfl
@[simp] theorem State.earlyQuench_reports (s : State) (l : LineId) (c : CutCause) : (s.earlyQuench l c).reports = s.reports := rfl
@[simp] theorem State.earlyQuench_pending (s : State) (l : LineId) (c : CutCause) : (s.earlyQuench l c).pending = s.pending := rfl
@[simp] theorem State.earlyQuench_bus (s : State) (l : LineId) (c : CutCause) (u : Bus) : (s.earlyQuench l c).bus u = s.bus u := by
  cases u <;> rfl
theorem State.earlyQuench_line_ne (s : State) (l m : LineId) (c : CutCause) (h : m ≠ l) : (s.earlyQuench l c).line m = s.line m :=
  State.modLine_line_ne _ _ _ _ h
@[simp] theorem State.earlyQuench_line_self (s : State) (l : LineId) (c : CutCause) :
    (s.earlyQuench l c).line l = (s.line l).earlyQuench c := State.modLine_line_self _ _ _

/-! ### mapLines -/

@[simp] theorem State.mapLines_codes (s : State) (f : Line → Line) : (s.mapLines f).codes = s.codes := rfl
@[simp] theorem State.mapLines_slot (s : State) (f : Line → Line) : (s.mapLines f).slot = s.slot := rfl
@[simp] theorem State.mapLines_busA (s : State) (f : Line → Line) : (s.mapLines f).busA = s.busA := rfl
@[simp] theorem State.mapLines_busB (s : State) (f : Line → Line) : (s.mapLines f).busB = s.busB := rfl
@[simp] theorem State.mapLines_waiting (s : State) (f : Line → Line) : (s.mapLines f).waiting = s.waiting := rfl
@[simp] theorem State.mapLines_createdCount (s : State) (f : Line → Line) : (s.mapLines f).createdCount = s.createdCount := rfl
@[simp] theorem State.mapLines_placedCount (s : State) (f : Line → Line) : (s.mapLines f).placedCount = s.placedCount := rfl
@[simp] theorem State.mapLines_msu (s : State) (f : Line → Line) : (s.mapLines f).msu = s.msu := rfl
@[simp] theorem State.mapLines_params (s : State) (f : Line → Line) : (s.mapLines f).params = s.params := rfl
@[simp] theorem State.mapLines_link (s : State) (f : Line → Line) : (s.mapLines f).link = s.link := rfl
@[simp] theorem State.mapLines_reports (s : State) (f : Line → Line) : (s.mapLines f).reports = s.reports := rfl
@[simp] theorem State.mapLines_pending (s : State) (f : Line → Line) : (s.mapLines f).pending = s.pending := rfl

/-! ### modBus -/

@[simp] theorem State.modBus_codes (s : State) (u : Bus) (f : BusRecord → BusRecord) : (s.modBus u f).codes = s.codes := by
  cases u <;> rfl
@[simp] theorem State.modBus_slot (s : State) (u : Bus) (f : BusRecord → BusRecord) : (s.modBus u f).slot = s.slot := by
  cases u <;> rfl
@[simp] theorem State.modBus_waiting (s : State) (u : Bus) (f : BusRecord → BusRecord) : (s.modBus u f).waiting = s.waiting := by
  cases u <;> rfl
@[simp] theorem State.modBus_createdCount (s : State) (u : Bus) (f : BusRecord → BusRecord) : (s.modBus u f).createdCount = s.createdCount := by
  cases u <;> rfl
@[simp] theorem State.modBus_placedCount (s : State) (u : Bus) (f : BusRecord → BusRecord) : (s.modBus u f).placedCount = s.placedCount := by
  cases u <;> rfl
@[simp] theorem State.modBus_msu (s : State) (u : Bus) (f : BusRecord → BusRecord) : (s.modBus u f).msu = s.msu := by
  cases u <;> rfl
@[simp] theorem State.modBus_params (s : State) (u : Bus) (f : BusRecord → BusRecord) : (s.modBus u f).params = s.params := by
  cases u <;> rfl
@[simp] theorem State.modBus_link (s : State) (u : Bus) (f : BusRecord → BusRecord) : (s.modBus u f).link = s.link := by
  cases u <;> rfl
@[simp] theorem State.modBus_reports (s : State) (u : Bus) (f : BusRecord → BusRecord) : (s.modBus u f).reports = s.reports := by
  cases u <;> rfl
@[simp] theorem State.modBus_pending (s : State) (u : Bus) (f : BusRecord → BusRecord) : (s.modBus u f).pending = s.pending := by
  cases u <;> rfl

/-! ### Reports, jobs and the link -/

@[simp] theorem State.queueReport_lines (s : State) (r : Report) : (s.queueReport r).lines = s.lines := by
  unfold State.queueReport; split <;> rfl
@[simp] theorem State.queueReport_codes (s : State) (r : Report) : (s.queueReport r).codes = s.codes := by
  unfold State.queueReport; split <;> rfl
@[simp] theorem State.queueReport_slot (s : State) (r : Report) : (s.queueReport r).slot = s.slot := by
  unfold State.queueReport; split <;> rfl
@[simp] theorem State.queueReport_busA (s : State) (r : Report) : (s.queueReport r).busA = s.busA := by
  unfold State.queueReport; split <;> rfl
@[simp] theorem State.queueReport_busB (s : State) (r : Report) : (s.queueReport r).busB = s.busB := by
  unfold State.queueReport; split <;> rfl
@[simp] theorem State.queueReport_waiting (s : State) (r : Report) : (s.queueReport r).waiting = s.waiting := by
  unfold State.queueReport; split <;> rfl
@[simp] theorem State.queueReport_createdCount (s : State) (r : Report) : (s.queueReport r).createdCount = s.createdCount := by
  unfold State.queueReport; split <;> rfl
@[simp] theorem State.queueReport_placedCount (s : State) (r : Report) : (s.queueReport r).placedCount = s.placedCount := by
  unfold State.queueReport; split <;> rfl
@[simp] theorem State.queueReport_msu (s : State) (r : Report) : (s.queueReport r).msu = s.msu := by
  unfold State.queueReport; split <;> rfl
@[simp] theorem State.queueReport_params (s : State) (r : Report) : (s.queueReport r).params = s.params := by
  unfold State.queueReport; split <;> rfl
@[simp] theorem State.queueReport_link (s : State) (r : Report) : (s.queueReport r).link = s.link := by
  unfold State.queueReport; split <;> rfl
@[simp] theorem State.queueReport_pending (s : State) (r : Report) : (s.queueReport r).pending = s.pending := by
  unfold State.queueReport; split <;> rfl
@[simp] theorem State.queueReport_line (s : State) (r : Report) (m : LineId) : (s.queueReport r).line m = s.line m := by
  unfold State.queueReport State.line; split <;> rfl
@[simp] theorem State.queueReport_bus (s : State) (r : Report) (u : Bus) : (s.queueReport r).bus u = s.bus u := by
  cases u <;> (simp only [State.bus, State.queueReport]; split <;> rfl)

@[simp] theorem State.removeMarker_lines (s : State) (l : LineId) : (s.removeMarker l).lines = s.lines := rfl
@[simp] theorem State.removeMarker_codes (s : State) (l : LineId) : (s.removeMarker l).codes = s.codes := rfl
@[simp] theorem State.removeMarker_slot (s : State) (l : LineId) : (s.removeMarker l).slot = s.slot := rfl
@[simp] theorem State.removeMarker_busA (s : State) (l : LineId) : (s.removeMarker l).busA = s.busA := rfl
@[simp] theorem State.removeMarker_busB (s : State) (l : LineId) : (s.removeMarker l).busB = s.busB := rfl
@[simp] theorem State.removeMarker_waiting (s : State) (l : LineId) : (s.removeMarker l).waiting = s.waiting := rfl
@[simp] theorem State.removeMarker_createdCount (s : State) (l : LineId) : (s.removeMarker l).createdCount = s.createdCount := rfl
@[simp] theorem State.removeMarker_placedCount (s : State) (l : LineId) : (s.removeMarker l).placedCount = s.placedCount := rfl
@[simp] theorem State.removeMarker_msu (s : State) (l : LineId) : (s.removeMarker l).msu = s.msu := rfl
@[simp] theorem State.removeMarker_params (s : State) (l : LineId) : (s.removeMarker l).params = s.params := rfl
@[simp] theorem State.removeMarker_link (s : State) (l : LineId) : (s.removeMarker l).link = s.link := rfl
@[simp] theorem State.removeMarker_pending (s : State) (l : LineId) : (s.removeMarker l).pending = s.pending := rfl
@[simp] theorem State.removeMarker_line (s : State) (l : LineId) (m : LineId) : (s.removeMarker l).line m = s.line m := rfl
@[simp] theorem State.removeMarker_bus (s : State) (l : LineId) (u : Bus) : (s.removeMarker l).bus u = s.bus u := by
  cases u <;> rfl

@[simp] theorem State.requestJob_lines (s : State) (l : LineId) (k : JobKind) : (s.requestJob l k).lines = s.lines := rfl
@[simp] theorem State.requestJob_codes (s : State) (l : LineId) (k : JobKind) : (s.requestJob l k).codes = s.codes := rfl
@[simp] theorem State.requestJob_slot (s : State) (l : LineId) (k : JobKind) : (s.requestJob l k).slot = s.slot := rfl
@[simp] theorem State.requestJob_busA (s : State) (l : LineId) (k : JobKind) : (s.requestJob l k).busA = s.busA := rfl
@[simp] theorem State.requestJob_busB (s : State) (l : LineId) (k : JobKind) : (s.requestJob l k).busB = s.busB := rfl
@[simp] theorem State.requestJob_waiting (s : State) (l : LineId) (k : JobKind) : (s.requestJob l k).waiting = s.waiting := rfl
@[simp] theorem State.requestJob_createdCount (s : State) (l : LineId) (k : JobKind) : (s.requestJob l k).createdCount = s.createdCount := rfl
@[simp] theorem State.requestJob_placedCount (s : State) (l : LineId) (k : JobKind) : (s.requestJob l k).placedCount = s.placedCount := rfl
@[simp] theorem State.requestJob_params (s : State) (l : LineId) (k : JobKind) : (s.requestJob l k).params = s.params := rfl
@[simp] theorem State.requestJob_link (s : State) (l : LineId) (k : JobKind) : (s.requestJob l k).link = s.link := rfl
@[simp] theorem State.requestJob_reports (s : State) (l : LineId) (k : JobKind) : (s.requestJob l k).reports = s.reports := rfl
@[simp] theorem State.requestJob_pending (s : State) (l : LineId) (k : JobKind) : (s.requestJob l k).pending = s.pending := rfl
@[simp] theorem State.requestJob_line (s : State) (l : LineId) (k : JobKind) (m : LineId) : (s.requestJob l k).line m = s.line m := rfl
@[simp] theorem State.requestJob_bus (s : State) (l : LineId) (k : JobKind) (u : Bus) : (s.requestJob l k).bus u = s.bus u := by
  cases u <;> rfl

@[simp] theorem State.queueReport_enables (s : State) (r : Report) :
    (s.queueReport r).reports.enables = s.reports.enables := by
  unfold State.queueReport; split <;> rfl

@[simp] theorem State.removeMarker_lost (s : State) (l : LineId) :
    (s.removeMarker l).reports.lost = s.reports.lost := rfl

@[simp] theorem State.requestJob_running (s : State) (l : LineId) (k : JobKind) :
    (s.requestJob l k).msu.running = s.msu.running := rfl

/-! ### Entering a call state -/

@[simp] theorem Line.enter_callState (x : Line) (st : CallState) : (x.enter st).record.callState = st := by
  simp only [Line.enter]; split <;> rfl
@[simp] theorem Line.enter_record (x : Line) (st : CallState) :
    (x.enter st).record = { x.record with callState := st } := by
  simp only [Line.enter]; split <;> rfl
@[simp] theorem Line.enter_asg (x : Line) (st : CallState) : (x.enter st).asg = x.asg := by
  simp only [Line.enter]; split <;> rfl
@[simp] theorem Line.enter_relay (x : Line) (st : CallState) : (x.enter st).relay = x.relay := by
  simp only [Line.enter]; split <;> rfl
@[simp] theorem Line.enter_sides (x : Line) (st : CallState) : (x.enter st).sides = x.sides := by
  simp only [Line.enter]; split <;> rfl
@[simp] theorem Line.enter_det (x : Line) (st : CallState) : (x.enter st).det = x.det := by
  simp only [Line.enter]; split <;> rfl
@[simp] theorem Line.enter_dial (x : Line) (st : CallState) : (x.enter st).dial = x.dial := by
  simp only [Line.enter]; split <;> rfl
@[simp] theorem Line.enter_call (x : Line) (st : CallState) : (x.enter st).call = x.call := by
  simp only [Line.enter]; split <;> rfl
@[simp] theorem Line.enter_leaks (x : Line) (st : CallState) : (x.enter st).leaks = x.leaks := by
  simp only [Line.enter]; split <;> rfl
@[simp] theorem Line.enter_closed (x : Line) (st : CallState) : (x.enter st).scan.closed = x.scan.closed := by
  simp only [Line.enter]; split <;> rfl
@[simp] theorem Line.enter_breakTimer (x : Line) (st : CallState) :
    (x.enter st).scan.breakTimer = x.scan.breakTimer := by
  simp only [Line.enter]; split <;> rfl
@[simp] theorem Line.enter_makeTimer (x : Line) (st : CallState) :
    (x.enter st).scan.makeTimer = x.scan.makeTimer := by
  simp only [Line.enter]; split <;> rfl
@[simp] theorem Line.enter_reacquiring (x : Line) (st : CallState) :
    (x.enter st).scan.reacquiring = x.scan.reacquiring := by
  simp only [Line.enter]; split <;> rfl

end Sys2Proof.Machine
end

