-- ==== Sys2Proof/Laws/Ops.lean ====
section
/-! SUPPORT. What each shared operation can do, said once: the statements' proofs cite these and do not unfold the
operations. -/

namespace Sys2Proof.Machine

/-! ### The report queue -/

/-- A report falls due: the queue is `queueWith`, and only a full queue sets the flag; nothing else changes. -/
theorem State.queueReport_eq (s : State) (r : Report) :
    s.queueReport r = { s with reports := { s.reports with
      queue := queueWith s.reports.queue r
      lost := s.reports.lost || decide (32 ≤ s.reports.queue.length) } } := by
  unfold State.queueReport queueWith Config.queueMax
  by_cases h : s.reports.queue.length < 32
  · have : ¬ 32 ≤ s.reports.queue.length := by omega
    simp [h, this]
  · have : 32 ≤ s.reports.queue.length := by omega
    simp [h, this]

theorem queueWith_length (q : List Report) (r : Report) (h : q.length ≤ 32) : (queueWith q r).length ≤ 32 := by
  unfold queueWith
  split
  · simp; omega
  · exact h

theorem mem_queueWith {q : List Report} {r x : Report} (h : x ∈ queueWith q r) : x ∈ q ∨ x = r := by
  unfold queueWith at h
  split at h
  · simpa using h
  · exact .inl h

/-- A report of a condition due when the line changed leaves either nothing, a report or a latch. -/
theorem reportIfChanged_cases (l : LineId) (b s : State) :
    reportIfChanged l b s = s ∨
      reportIfChanged l b s = s.queueReport (.lineCondition l (s.line l).record.condition (s.line l).record.reasons
        (s.line l).leaks) ∨
      reportIfChanged l b s =
        s.modRecord l fun r => { r with latched := { r.latched with lineCondition := true } } := by
  by_cases h : (s.line l).record.condition ≠ (b.line l).record.condition ∨
      (s.line l).record.reasons ≠ (b.line l).record.reasons
  · have e : reportIfChanged l b s = reportCondition l s := if_pos h
    rw [e]
    by_cases g : (s.line l).record.callState ≠ .unequipped ∧ s.reports.enables.lineCondition = true
    · exact .inr (.inl (if_pos g))
    · exact .inr (.inr (if_neg g))
  · exact .inl (if_neg h)

/-! ### Call states -/

/-- Entering a call state changes the call state, and starts the closed-hold timer or leaves the scanner as it was. -/
theorem Line.enter_eq (st : CallState) (x : Line) :
    x.enter st = { x with
      record := { x.record with callState := st }
      scan := { x.scan with closedHold := (x.enter st).scan.closedHold } } ∧
    ((x.enter st).scan.closedHold = x.scan.closedHold ∨
      ((x.enter st).scan.closedHold = some 50 ∧ x.scan.closed = true ∧ x.scan.closedHold = none)) := by
  by_cases h : (st = .idle ∨ st = .ringing ∨ st = .revertRinging) ∧ x.scan.closed = true ∧ (!x.blind) = true ∧
      (!x.scan.reacquiring) = true ∧ x.scan.closedHold = none
  · have e : x.enter st = { x with
        record := { x.record with callState := st }
        scan := { x.scan with closedHold := some 50 } } := if_pos h
    rw [e]
    exact ⟨rfl, .inr ⟨rfl, h.2.1, h.2.2.2.2⟩⟩
  · have e : x.enter st = { x with record := { x.record with callState := st } } := if_neg h
    rw [e]
    exact ⟨rfl, .inl rfl⟩

/-- States whose entry starts no timer. -/
theorem Line.enter_plain (st : CallState) (x : Line) (h1 : st ≠ .idle) (h2 : st ≠ .ringing) (h3 : st ≠ .revertRinging) :
    x.enter st = { x with record := { x.record with callState := st } } := by
  refine if_neg fun h => ?_
  rcases h.1 with e | e | e <;> contradiction

@[simp] theorem State.setCallState_callState (s : State) (l : LineId) (st : CallState) :
    (s.setCallState l st).callState l = st := by
  unfold State.setCallState State.callState
  rw [State.modLine_line_self, (Line.enter_eq st _).1]

/-! ### Early QUENCH -/

/-- Early QUENCH on a line in ARM or RING is a QUENCH of kind EARLY for 30 ms, with the detector told in RING alone; on
any other line it is nothing. -/
theorem Line.earlyQuench_cases (c : CutCause) (x : Line) :
    (x.relay.phase = .arm ∧ x.earlyQuench c =
      { x with relay := { x.relay with phase := .quench, quenchKind := some .early, timer := some 30 } }) ∨
    (x.relay.phase = .ring ∧ x.earlyQuench c =
      { x with relay := { x.relay with phase := .quench, quenchKind := some .early, timer := some 30 }
               det := x.det.cutShort c }) ∨
    ((x.relay.phase = .silent ∨ x.relay.phase = .quench) ∧ x.earlyQuench c = x) := by
  unfold Line.earlyQuench
  cases h : x.relay.phase
  · exact .inr (.inr ⟨.inl rfl, rfl⟩)
  · exact .inl ⟨rfl, rfl⟩
  · exact .inr (.inl ⟨rfl, rfl⟩)
  · exact .inr (.inr ⟨.inr rfl, rfl⟩)

/-! ### Jobs -/

/-- An abort takes the line's jobs off the list and the head, and reports an aborted HOST_TEST. -/
theorem State.abortJobs_eq (s : State) (l : LineId) :
    s.abortJobs l = { s with
      msu := s.msu.dropJobs l
      reports := if s.hasHostTest l = true then (s.queueReport (.testResult l none)).reports else s.reports } := by
  unfold State.abortJobs
  split
  · rw [State.queueReport_eq, State.queueReport_eq]
  · rfl

/-- The arbiter does nothing, or starts the job it chooses on a free head. -/
theorem State.arbitrate_cases (s : State) :
    s.arbitrate = s ∨
      ∃ l k, s.msu.running = none ∧ s.chooseJob = some (l, k) ∧
        s.arbitrate = { s with msu := s.msu.start l k } := by
  unfold State.arbitrate
  cases hr : s.msu.running with
  | some r => exact .inl rfl
  | none =>
    cases hc : s.chooseJob with
    | none => exact .inl rfl
    | some p => exact .inr ⟨p.1, p.2, rfl, rfl, rfl⟩

theorem State.arbitrate_busy (s : State) (h : s.msu.running ≠ none) : s.arbitrate = s := by
  rcases s.arbitrate_cases with e | ⟨_, _, hr, _, _⟩
  · exact e
  · exact absurd hr h

/-- The arbiter changes the head, the count of jobs started and the pointer, and nothing else. -/
theorem State.arbitrate_eq (s : State) :
    s.arbitrate = { s with msu := { s.msu with running := s.arbitrate.msu.running
                                               startCount := s.arbitrate.msu.startCount
                                               pointer := s.arbitrate.msu.pointer } } := by
  rcases s.arbitrate_cases with e | ⟨l, k, _, _, e⟩
  · rw [e]
  · rw [e]; rfl

@[simp] theorem State.arbitrate_lines (s : State) : s.arbitrate.lines = s.lines := by rw [State.arbitrate_eq]
@[simp] theorem State.arbitrate_line (s : State) (l : LineId) : s.arbitrate.line l = s.line l := by
  rw [State.arbitrate_eq]; rfl
@[simp] theorem State.arbitrate_callState (s : State) (l : LineId) : s.arbitrate.callState l = s.callState l := by
  rw [State.arbitrate_eq]; rfl
@[simp] theorem State.arbitrate_jobs (s : State) : s.arbitrate.msu.jobs = s.msu.jobs := by rw [State.arbitrate_eq]
@[simp] theorem State.arbitrate_reports (s : State) : s.arbitrate.reports = s.reports := by rw [State.arbitrate_eq]
@[simp] theorem State.arbitrate_link (s : State) : s.arbitrate.link = s.link := by rw [State.arbitrate_eq]
@[simp] theorem State.arbitrate_pending (s : State) : s.arbitrate.pending = s.pending := by rw [State.arbitrate_eq]

/-- A job on the head after the arbiter was there before, or has the next number. -/
theorem State.arbitrate_running (s : State) :
    ∀ r ∈ s.arbitrate.msu.running, s.msu.running = some r ∨ (s.msu.running = none ∧ r.number = s.msu.startCount) := by
  intro r h
  rcases s.arbitrate_cases with e | ⟨l, k, hr, _, e⟩
  · rw [e] at h; exact .inl h
  · rw [e] at h
    have : (⟨l, k, jobMs k, s.msu.startCount⟩ : RunningJob) = r := Option.some.inj h
    exact .inr ⟨hr, this ▸ rfl⟩

/-- A completion finds the running job exactly when that job made its readings. -/
theorem State.completing_iff (s : State) (tip ring : Reading) (l : LineId) (k : JobKind) :
    s.completing tip ring = some (l, k) ↔
      ∃ r, s.msu.running = some r ∧ tip.job = r.number ∧ ring.job = r.number ∧ r.line = l ∧ r.kind = k := by
  unfold State.completing
  cases h : s.msu.running with
  | none => simp
  | some r =>
    by_cases g : tip.job = r.number ∧ ring.job = r.number
    · simp [g]
    · simp [g]; tauto

/-- A completion whose readings another job made finds none. -/
theorem State.completing_none (s : State) (tip ring : Reading) (h : ∀ r ∈ s.msu.running, tip.job ≠ r.number) :
    s.completing tip ring = none := by
  cases hc : s.completing tip ring with
  | none => rfl
  | some p =>
    obtain ⟨r, hr, e, _⟩ := (s.completing_iff tip ring p.1 p.2).1 hc
    exact absurd e (h r hr)

/-! ### Assignments -/

/-- A placement writes the line's assignment, the loads of one bus, the placed count and the waiting list. -/
theorem State.place_spec (s : State) (l : LineId) (a : Assignment) (bus : Bus) (o : Slot) :
    ((s.place l a bus o).line l = { s.line l with asg := some { a with placement := .placed bus o s.placedCount } }) ∧
    (∀ m, m ≠ l → (s.place l a bus o).line m = s.line m) ∧
    (∀ g, ((s.place l a bus o).bus bus).loads.get g = (s.bus bus).loads.get g + loadAt s.pattern a o g) ∧
    (s.place l a bus o).placedCount = s.placedCount + 1 ∧
    (s.place l a bus o).waiting = s.waiting.filter (· ≠ l) := by
  have hl : ∀ m, (s.place l a bus o).line m =
      ((s.addLoads a bus o).setAsg l (some { a with placement := .placed bus o s.placedCount })).line m := fun _ => rfl
  have hb : ∀ m, (s.addLoads a bus o).line m = s.line m := fun m => State.modBus_line _ _ _ _
  refine ⟨?_, fun m hm => ?_, fun g => ?_, ?_, rfl⟩
  · rw [hl, State.setAsg, State.modLine_line_self, hb]
  · rw [hl, State.setAsg, State.modLine_line_ne _ _ _ _ hm, hb]
  · have e : (s.place l a bus o).bus bus = (s.addLoads a bus o).bus bus := by cases bus <;> rfl
    rw [e, State.addLoads, State.modBus_bus_self]
    simp
  · cases bus <;> rfl

/-- A displacement to the waiting list writes the line's assignment and the list. -/
theorem State.joinWaiting_spec (s : State) (l : LineId) (a : Assignment) :
    ((s.joinWaiting l a).line l = { s.line l with asg := some { a with placement := .waiting, waited := 0 } }) ∧
    (∀ m, m ≠ l → (s.joinWaiting l a).line m = s.line m) ∧
    (s.joinWaiting l a).busA = s.busA ∧ (s.joinWaiting l a).busB = s.busB ∧
    (s.joinWaiting l a).placedCount = s.placedCount := by
  have hl : ∀ m, (s.joinWaiting l a).line m =
      (s.setAsg l (some { a with placement := .waiting, waited := 0 })).line m := fun _ => rfl
  refine ⟨?_, fun m hm => ?_, rfl, rfl, rfl⟩
  · rw [hl, State.setAsg, State.modLine_line_self]
  · rw [hl, State.setAsg, State.modLine_line_ne _ _ _ _ hm]

/-- A creation places the new assignment where the search answers, or puts it on the waiting list. -/
theorem State.createAssignment_cases (s : State) (l : LineId) (kind : AssignmentKind) (k0 : Stroke)
    (k1 : Option Stroke) (n : Nat) :
    (∃ o bus, State.search { s with createdCount := s.createdCount + 1 }
        (newAssignment kind k0 k1 n s.createdCount) = some (o, bus) ∧
      s.createAssignment l kind k0 k1 n =
        State.place { s with createdCount := s.createdCount + 1 } l (newAssignment kind k0 k1 n s.createdCount) bus o) ∨
    (State.search { s with createdCount := s.createdCount + 1 }
        (newAssignment kind k0 k1 n s.createdCount) = none ∧
      s.createAssignment l kind k0 k1 n =
        State.joinWaiting { s with createdCount := s.createdCount + 1 } l
          (newAssignment kind k0 k1 n s.createdCount)) := by
  unfold State.createAssignment
  cases h : State.search { s with createdCount := s.createdCount + 1 }
      (newAssignment kind k0 k1 n s.createdCount) with
  | none => right; simp [h]
  | some p => left; exact ⟨p.1, p.2, rfl, by simp [h]⟩

/-- A removal leaves the line with no assignment and no verify, its other records but the relays as they were, and the
other lines as they were. -/
theorem State.removeAssignment_spec (s : State) (l : LineId) (c : CutCause) (h : (s.line l).asg ≠ none) :
    ((s.removeAssignment l c).line l).asg = none ∧
    ((s.removeAssignment l c).line l).record = (s.line l).record ∧
    ((s.removeAssignment l c).line l).sides = (s.line l).sides ∧
    ((s.removeAssignment l c).line l).scan = (s.line l).scan ∧
    ((s.removeAssignment l c).line l).dial = (s.line l).dial ∧
    ((s.removeAssignment l c).line l).call = (s.line l).call ∧
    ((s.removeAssignment l c).line l).leaks = (s.line l).leaks ∧
    (∀ m, m ≠ l → (s.removeAssignment l c).line m = s.line m) := by
  unfold State.removeAssignment
  cases ha : (s.line l).asg with
  | none => exact absurd ha h
  | some a =>
    cases hp : a.placement with
    | waiting =>
      simp only [hp]
      refine ⟨?_, ?_, ?_, ?_, ?_, ?_, ?_, fun m hm => ?_⟩ <;>
        simp [State.modDet, State.setAsg, State.modLine_line, *] <;> rfl
    | placed bus o n =>
      simp only [hp]
      refine ⟨?_, ?_, ?_, ?_, ?_, ?_, ?_, fun m hm => ?_⟩ <;>
        simp [State.modDet, State.setAsg, State.earlyQuench, State.subtractLoads, State.modLine_line, *] <;>
        (rcases Line.earlyQuench_cases c (s.line l) with ⟨_, e⟩ | ⟨_, e⟩ | ⟨_, e⟩ <;> rw [e])

/-! ### Thresholds -/

/-- A change of sides followed by the threshold computation touches the sides, the reasons and the condition alone. -/
theorem agreeTripMargin_eq (x : Line) :
    agreeTripMargin x = { x with record := { x.record with
      reasons := { x.record.reasons with tripMargin := x.sides.tip.pinned || x.sides.ring.pinned }
      condition := (agreeTripMargin x).record.condition } } := by
  unfold agreeTripMargin
  simp only
  split
  · rename_i h; simp [h]
  · split
    · rename_i h; simp [h]
    · rename_i h; simp [h]

theorem updateSides_sides (p : Params) (f g : SideRecord → SideRecord) (x : Line) :
    (updateSides p f g x).sides =
      ⟨computeThreshold p (f x.sides.tip), computeThreshold p (g x.sides.ring)⟩ := by
  unfold updateSides
  rw [agreeTripMargin_eq]

theorem updateSide_sides (p : Params) (sd : Side) (f : SideRecord → SideRecord) (x : Line) :
    (updateSide p sd f x).sides = x.sides.modify (fun y => computeThreshold p (f y)) sd := by
  unfold updateSide
  rw [agreeTripMargin_eq]

end Sys2Proof.Machine
end

