-- ==== Sys2Proof/Tests/Slice0.lean ====
section
/-! SUPPORT. Tests: ill-formed commands refused, the spec's worked examples one step at a time, and for every statement
with hypotheses a state that meets them. -/

namespace Sys2Proof.Tests

-- One thread for the theorems below: each takes a stack of its own otherwise, and together they pass the memory limit.
set_option Elab.async false

open Sys2Proof Sys2Proof.Machine

/-! ### Ill-formed commands are refused -/

theorem test_wf_nine_parties :
    ¬(Instr.configureLine 0 0 0 0 1 (List.replicate 9 ⟨1, 0, 1, 0⟩)).WellFormed := by decide
theorem test_wf_bursts_over_the_payload : ¬(Instr.setCode 1 (List.replicate 24 ⟨0, 1⟩)).WellFormed := by decide
theorem test_wf_listed_kind : ¬(Instr.unknownKind 0x30 []).WellFormed := by decide
theorem test_wf_long_payload : ¬(Instr.unknownKind 0x55 (List.replicate 49 0)).WellFormed := by decide

/-! ### Frames (R164, R165, R173, R180) -/

theorem test_decode_ring : decodeCommand 0x30 [7, 5, 0] = .ok (.ring 7 5 0) := by decide
theorem test_decode_set_code : decodeCommand 0x20 [6, 0, 2, 3, 2] = .ok (.setCode 6 [⟨0, 2⟩, ⟨3, 2⟩]) := by decide
theorem test_decode_configure_line :
    decodeCommand 0x10 [7, 3, 25, 1, 0, 2, 0, 2, 2] = .ok (.configureLine 7 3 25 1 0 [⟨2, 0, 2, 2⟩]) := by decide
theorem test_decode_unlisted_kind : decodeCommand 0x05 [] = .error .unknownKind := by decide
theorem test_decode_bad_length : decodeCommand 0x30 [7, 5] = .error .badLength := by decide
/-- The check of POLL to station 12, by a long division of the message by R165's polynomial. -/
theorem test_check_of_a_poll : frameCheck [12, 1, 0] = 0xFF91 := by decide +kernel
theorem test_check_of_a_ring : frameCheck [1, 0x30, 3, 7, 5, 0] = 0x223A := by decide +kernel

/-! ### Small states -/

/-- The state after one command or event. -/
def after (i : Instr) (s : State) : State :=
  match exec i s with
  | .next t => t
  | _ => s

/-- The payload of the reply in hand. -/
def replied (s : State) : List Byte :=
  match s.link.reply with
  | some f => f.payload
  | none => []

/-- The parties of line 7 in the worked examples of 01 and 07. -/
def parties7 : List Party := [⟨1, .tip, 1, 2⟩, ⟨4, .ring, 0, 1⟩, ⟨5, .tip, 3, 3⟩]

/-- Line 7 as configured, in a call state, with a further change. -/
def in7 (st : CallState) (f : Line → Line) : State :=
  State.reset.modLine 7 fun x => f { x with record := { x.record with
    parties := parties7, loads := ⟨3, 20⟩, dialMode := .firstThenBlock, blockCount := 1, callState := st } }

/-- Line 7 with parties, SILENT and idle. -/
def idle7 : State := in7 .idle id

/-- A PLAIN assignment for party 5 of line 7, placed on bus A at offset 1. -/
def ring5 : Assignment := ⟨.plain, ⟨.ring, 0, 20⟩, none, .placed .a 1 0, 20, false, 0, 0⟩

/-- The slot loads of `ring5`: 20 RLU in slots 1 to 8. -/
def loads5 : Vector Nat 24 := #v[0, 20, 20, 20, 20, 20, 20, 20, 20, 0, 0, 0, 0, 0, 0, 0, 0, 0, 0, 0, 0, 0, 0, 0]

/-- Line 7 ringing party 5. -/
def ringing7 (f : Line → Line) : State :=
  let s := in7 .ringing fun x =>
    f { x with asg := some ring5, call := { x.call with ringingParty := some 4 } }
  { s with busA := { s.busA with loads := loads5 }, createdCount := 1, placedCount := 1 }

/-- A relay record in RING on TIP from bus A, with last slot 0. -/
def ringTip : RelayRecord := ⟨.ring, some .a, some .tip, some 0, none, false, none⟩

/-- Line 7 with a reverting call of party 2 by party 5, in a call state. -/
def revert7 (st : CallState) (recallOn : Bool) (f : Line → Line) : State :=
  in7 st fun x => f { x with call := { x.call with called := some 1, caller := some 4, recallOn := recallOn } }

/-- A state with a job on the head, the job started last. -/
def running (j : RunningJob) (jobs : List JobEntry) (s : State) : State :=
  { s with msu := { s.msu with
      running := some j, jobs := jobs, arrivalCount := 5, startCount := j.number + 1, backlog := 3 } }

/-! ### Commands (01, 02, 03) -/

theorem test_configure_line_stores_clamped_values :
    replied (after (.configureLine 7 3 25 1 0 [⟨2, 0, 2, 2⟩, ⟨5, 1, 1, 1⟩, ⟨6, 0, 4, 3⟩]) State.reset) =
      [0, 0, 3, 20, 1, 2] := by decide +kernel
theorem test_configure_line_duplicate_signature :
    replied (after (.configureLine 7 3 25 1 0 [⟨2, 0, 2, 2⟩, ⟨5, 1, 1, 1⟩, ⟨6, 0, 2, 3⟩]) State.reset) = [9, 0] := by
  decide +kernel
theorem test_block_returns_the_state_and_aborts_the_test :
    replied (after (.block 7) (running ⟨7, .hostTest, 10, 0⟩ [⟨7, .hostTest, 4⟩] idle7)) = [0, 1, 2] := by decide +kernel
theorem test_unblock_with_the_loop_closed :
    replied (after (.unblock 7) (in7 .blocked fun x => { x with scan := { x.scan with closed := true } })) =
      [0, 1, 6] := by decide +kernel
theorem test_read_line_of_a_leaking_line :
    replied (after (.readLine 7) (in7 .idle fun x => { x with
      record := { x.record with condition := .degraded, reasons := ⟨true, false⟩,
                                latched := ⟨⟨false, false⟩, true⟩ }
      sides := ⟨⟨144, 60, 75, false⟩, ⟨38, 60, 64, false⟩⟩, leaks := ⟨30, 8⟩ })) =
    [0, 0, 2, 1, 1, 30, 0, 144, 0, 60, 75, 8, 0, 38, 0, 60, 64, 0, 0xFF, 0, 0xFF, 0, 0, 0, 0, 0, 4] := by
  decide +kernel
theorem test_set_code_four_short_rings :
    replied (after (.setCode 6 [⟨0, 2⟩, ⟨3, 2⟩, ⟨6, 2⟩, ⟨9, 2⟩]) State.reset) = [0, 0, 6, 0, 2, 3, 2, 6, 2, 9, 2] := by
  decide +kernel
theorem test_set_code_burst_over_the_half :
    replied (after (.setCode 6 [⟨5, 7⟩]) State.reset) = [3, 0, 6] := by decide +kernel
theorem test_set_bus_clamps_the_budget : replied (after (.setBus 1 75) State.reset) = [0, 0, 1, 60] := by decide +kernel
theorem test_read_schedule_at_power_on :
    replied (after (.readSchedule 0) State.reset) = [0, 0, 0, 0, 40] ++ List.replicate 24 0 ++ [0, 0] := by
  decide +kernel

/-! ### Call commands (07, 08, 09) -/

/-- The first row of 'placing four rings' (03): line 5 on (RING, code 2), 5 RLU, in slot 1. -/
def fourRings : State :=
  let s := State.reset.modLine 5 fun x => { x with record := { x.record with
    parties := [⟨0, .ring, 1, 1⟩], loads := ⟨0, 5⟩, callState := .idle } }
  { s with
    slot := 1
    busA := { s.busA with
      budget := 10
      loads := #v[6, 6, 6, 6, 6, 6, 6, 6, 0, 0, 0, 0, 0, 0, 0, 0, 0, 0, 0, 0, 0, 0, 0, 0] }
    busB := { s.busB with budget := 10 } }

theorem test_ring_takes_the_lower_peak_first :
    replied (after (.ring 5 1 0) fourRings) = [0, 0, 0, 1, 2] := by decide +kernel
theorem test_ring_loads_the_ringing_slots :
    (after (.ring 5 1 0) fourRings).busB.loads =
      #v[0, 0, 5, 5, 0, 0, 5, 5, 0, 0, 0, 0, 0, 0, 0, 0, 0, 0, 0, 0, 0, 0, 0, 0] := by decide +kernel
theorem test_cancel_in_revert_hold :
    replied (after (.cancel 7) (revert7 .revertHold true id)) = [0, 0, 3] := by decide +kernel
theorem test_connect_reports_the_origination_owed :
    (after (.connect 7) (in7 .originating fun x =>
      { x with call := { x.call with originationPending := true } })).reports.queue =
      [.originate 7 (.unidentified .abandoned) none] := by decide +kernel
theorem test_release_with_the_loop_closed :
    replied (after (.release 7) (in7 .connected fun x => { x with scan := { x.scan with closed := true } })) =
      [0, 0, 6] := by decide +kernel
theorem test_revert_holds_the_line : replied (after (.revert 7 2 5 1) (in7 .originating id)) = [0, 0, 7] := by
  decide +kernel
theorem test_revert_of_one_party : replied (after (.revert 7 2 2 1) (in7 .originating id)) = [10, 0] := by
  decide +kernel
theorem test_test_line_queued_behind_a_running_job :
    replied (after (.testLine 7) (running ⟨3, .insulation, 10, 0⟩ [] idle7)) = [0, 0, 0] := by decide +kernel
theorem test_test_line_already_queued :
    replied (after (.testLine 7) (running ⟨7, .hostTest, 10, 0⟩ [⟨7, .hostTest, 4⟩] idle7)) = [0, 0, 1] := by
  decide +kernel

/-! ### Settings and reports (11) -/

/-- The queue of 'POLL service, worked' (11). -/
def pollState : State :=
  let d (n : Nat) (x : Line) : Line := { x with dial := { x.dial with digits := List.replicate n 7 } }
  let s := (((State.reset.modLine 2 (d 16)).modLine 5 (d 15)).modLine 9 (d 14)).modLine 12 (d 13)
  { s with reports := { s.reports with
    queue := [.digits 2, .digits 5, .digits 9, .digits 12, .flash 6] } }

theorem test_poll_stops_at_the_entry_that_does_not_fit :
    (replied (after .poll pollState)).length = 38 ∧ (replied (after .poll pollState)).take 3 = [0, 1, 3] ∧
      (after .poll pollState).reports.queue = [.digits 12, .flash 6] := by decide +kernel
theorem test_poll_packs_digits :
    replied (after .poll { State.reset.modLine 10 (fun x =>
      { x with dial := { x.dial with digits := [0, 7, 3], complete := true } }) with
      reports := ⟨[.digits 10], true, ⟨true, true, true⟩⟩ }) = [0, 2, 1, 0x02, 10, 8, 3, 0x70, 0x03] := by decide +kernel
theorem test_restart_parks_a_closed_line :
    (after (.restart false) (in7 .connected fun x => { x with scan := { x.scan with closed := true } })).reports.queue =
      [.restarted, .parked 7] := by decide +kernel
/-- The end of 'a wet line finds its margin' (05): Tmax lowered to 95 dmA. -/
theorem test_set_parameters_pins_a_side :
    let t := after (.setParameters 0x0010 #v[0, 0, 0, 0, 95, 0, 0, 0, 0, 0, 0, 0, 0])
      (in7 .idle fun x => { x with sides := ⟨⟨298, 70, 100, false⟩, ⟨0, 60, 60, false⟩⟩ })
    (t.line 7).sides.tip = ⟨298, 70, 95, true⟩ ∧
      t.reports.queue = [.lineCondition 7 .degraded ⟨false, true⟩ ⟨0, 0⟩] := by decide +kernel
theorem test_set_reports_ignores_other_bits :
    replied (after (.setReports 0xFD) State.reset) = [0, 0, 5] := by decide +kernel
theorem test_unknown_kind : (after (.unknownKind 0x05 [1, 2]) State.reset).link.reply = some ⟨0, 0xFF, [1, 0]⟩ := by
  decide +kernel
theorem test_power_on_with_a_bad_generator :
    (after (.powerOn 12 1 true false) idle7).busB.status = .faulted ∧
      (after (.powerOn 12 1 true false) idle7).callState 7 = .unequipped := by decide +kernel

/-! ### The link (10) -/

/-- A station in the course of a frame, with the next position. -/
def assembling (next : FramePosition) : State :=
  { State.reset with link := { State.reset.link with
    receiver := { mode := .assemble, broadcast := false, next := next, address := 1, kind := 1, length := 0,
                  payload := [], checkLow := 0, gapTimer := some 33 } } }

/-- A station with a reply in hand. -/
def replying (st : ReplyState) : State :=
  { State.reset with link := { State.reset.link with replyState := st, reply := some ⟨0, 0x81, [0, 0, 0]⟩ } }

theorem test_address_character_starts_a_frame :
    (after (.linkCharacter ⟨true, 0x101⟩) State.reset).link.receiver.mode = .assemble := by decide +kernel
theorem test_length_60_discards_the_frame :
    (after (.linkCharacter ⟨true, 60⟩) (assembling .length)).link.receiver.mode = .hunt ∧
      (after (.linkCharacter ⟨true, 60⟩) (assembling .length)).link.latches.length = true := by decide +kernel
theorem test_gap_discards_the_frame : (after .gapTimerExpiry (assembling .payload)).link.latches.gap = true := by
  decide +kernel
theorem test_turnaround_begins_the_sending :
    (after .turnaroundExpiry (replying .pending)).link.replyState = .sending := by decide +kernel
theorem test_reply_end : (after .replyEnd (replying .sending)).link.replyState = .idle := by decide +kernel

/-! ### The slot clock and the planner's events (02, 03) -/

theorem test_slot_boundary_begins_the_burst :
    ((after (.slotBoundary true) (ringing7 id)).line 7).relay =
      ⟨.arm, some .a, some .ring, some 8, none, false, some 20⟩ := by decide +kernel
theorem test_cycle_boundary_does_not_count_the_first :
    ((after (.slotBoundary true) { ringing7 id with slot := 23 }).line 7).asg =
      some { ring5 with skipped := true } := by decide +kernel
theorem test_assignment_expiry_reports_no_answer :
    (after (.assignmentExpiry 7) (ringing7 id)).reports.queue = [.noAnswer 7 (some 4)] ∧
      (after (.assignmentExpiry 7) (ringing7 id)).busA.loads = Vector.replicate 24 0 := by decide +kernel
theorem test_source_good_drop_is_timed :
    (after (.sourceGoodChange .a false) State.reset).busA.filterTimer = some 50 := by decide +kernel

/-- `ringing7` with bus A's input dropped. -/
def dropped7 : State :=
  let s := ringing7 id
  { s with busA := { s.busA with sourceGood := false, filterTimer := some 50 } }

theorem test_bus_fault_moves_the_ring_to_the_other_bus :
    ((after (.busFault .a) dropped7).line 7).asg = some { ring5 with placement := .placed .b 1 1 } ∧
      (after (.busFault .a) dropped7).reports.queue = [.busState .a .faulted] := by decide +kernel

/-- Bus A FAULTED, with its input back. -/
def returning : State :=
  { State.reset with busA := { State.reset.busA with status := .faulted, filterTimer := some 1000 } }

theorem test_bus_recovery : (after (.busRecovery .a) returning).busA.status = .good := by decide +kernel

/-! ### The sequencer and the detector (04, 05) -/

theorem test_arm_expiry_begins_ring :
    ((after (.armExpiry 7) (ringing7 fun x => { x with relay := { ringTip with phase := .arm, timer := some 20 } })).line
      7).det.mode = .watch := by decide +kernel
/-- The first two rows of 'The baseline, worked' (05). -/
theorem test_ring_end_updates_the_baseline :
    ((after (.ringEnd 7) (ringing7 fun x => { x with
      relay := ringTip, sides := ⟨⟨120, 60, 72, false⟩, ⟨0, 60, 60, false⟩⟩
      det := ⟨.watch, some .tip, 0, 0, 1600, 100, none, false⟩ })).line 7).sides.tip = ⟨125, 60, 73, false⟩ := by
  decide +kernel
theorem test_ring_end_rounds_toward_zero :
    ((after (.ringEnd 7) (ringing7 fun x => { x with
      relay := ringTip, sides := ⟨⟨125, 60, 73, false⟩, ⟨0, 60, 60, false⟩⟩
      det := ⟨.watch, some .tip, 0, 0, 500, 100, none, false⟩ })).line 7).sides.tip = ⟨116, 60, 72, false⟩ := by
  decide +kernel
theorem test_quench_end_reacquires :
    ((after (.quenchEnd 7) (ringing7 fun x => { x with
      relay := { ringTip with phase := .quench, quenchKind := some .early } })).line 7).scan.reacquiring = true := by
  decide +kernel

/-- Line 7 in the trip window of 'The trip with a broken run, worked' (05), with threshold 72 dmA. -/
def window7 (run length : Nat) : State :=
  ringing7 fun x => { x with
    relay := ringTip, sides := ⟨⟨120, 60, 72, false⟩, ⟨0, 60, 60, false⟩⟩
    det := ⟨.window, some .tip, run, length, 297, 6, none, false⟩ }

theorem test_sample_four_breaks_the_run :
    ((after (.tripSample 7 13) (window7 1 1)).line 7).det.run = 0 ∧
      ((after (.tripSample 7 13) (window7 1 1)).line 7).det.windowLength = 2 := by decide +kernel
theorem test_sample_seven_confirms_the_trip :
    (after (.tripSample 7 92) (window7 2 4)).reports.queue = [.answer 7 (some .tip) .trip (some 4)] ∧
      ((after (.tripSample 7 92) (window7 2 4)).line 7).sides.tip = ⟨120, 60, 72, false⟩ := by decide +kernel
/-- The first verify of 'a wet line finds its margin' (05). -/
theorem test_verify_raises_the_margin :
    (after (.verifyTimerExpiry 7) (ringing7 fun x => { x with
      sides := ⟨⟨300, 60, 90, false⟩, ⟨0, 60, 60, false⟩⟩
      det := ⟨.verify, some .tip, 2, 12, 0, 0, some .unresolved, true⟩ })).reports.queue =
      [.tripNoise 7 .tip 70 100] := by decide +kernel

/-! ### The scanner and dial reception (06) -/

theorem test_third_closed_sample_is_a_make :
    ((after (.loopSample 7 true) (in7 .idle fun x => { x with scan := { x.scan with filterCount := 2 } })).line 7).scan =
      ⟨true, 0, false, 0, false, some 50, none, none⟩ := by decide +kernel
theorem test_break_of_450_ms_is_a_flash :
    (after (.loopSample 7 true) (in7 .connected fun x =>
      { x with scan := { x.scan with filterCount := 2, breakTimer := some 445 } })).reports.queue = [.flash 7] := by
  decide +kernel
theorem test_closed_hold_is_an_origination :
    (after (.closedHoldExpiry 7) (in7 .idle fun x =>
      { x with scan := { x.scan with closed := true, closedHold := some 50 } })).msu.running =
      some ⟨7, .originId, 120, 0⟩ := by decide +kernel
theorem test_break_timer_clears_a_connected_line :
    (after (.breakTimerExpiry 7) (in7 .connected fun x =>
      { x with scan := { x.scan with breakTimer := some 1050 } })).reports.queue = [.clear 7 .connected] := by
  decide +kernel

/-- Line 7 originating with a train of pulses ended, block count 4, ORIGINATE made due. -/
def train7 (pulses received : Nat) (digits : List Nat) : State :=
  in7 .originating fun x => { x with
    record := { x.record with blockCount := 4 }
    scan := { x.scan with closed := true, makeTimer := some 300 }
    dial := { x.dial with collection := .opened, pulseCount := pulses, received := received, digits := digits
                          originationReported := true } }

theorem test_two_pulses_are_the_first_digit :
    ((after (.makeTimerExpiry 7) (train7 2 0 [])).line 7).dial.digits = [2] ∧
      (after (.makeTimerExpiry 7) (train7 2 0 [])).reports.queue = [.digits 7] ∧
      ((after (.makeTimerExpiry 7) (train7 2 0 [])).line 7).dial.interdigit = some 4000 := by decide +kernel
theorem test_the_fourth_digit_completes_the_block :
    ((after (.makeTimerExpiry 7) (train7 3 3 [0, 7])).line 7).dial.digits = [0, 7, 3] ∧
      ((after (.makeTimerExpiry 7) (train7 3 3 [0, 7])).line 7).dial.complete = true ∧
      ((after (.makeTimerExpiry 7) (train7 3 3 [0, 7])).line 7).dial.collection = .done := by decide +kernel
theorem test_interdigit_pause_completes_the_block :
    ((after (.interdigitTimerExpiry 7) (in7 .originating fun x => { x with
      dial := { x.dial with collection := .opened, interdigit := some 4000, digits := [1] } })).line 7).dial.complete =
      true := by decide +kernel

/-! ### Call timers and measurement (07, 08, 09) -/

theorem test_permanent_signal_parks :
    (after (.permanentSignalExpiry 7) (in7 .originating fun x =>
      { x with call := { x.call with permanentSignal := some 40000 } })).reports.queue = [.parked 7] := by
  decide +kernel
theorem test_revert_hold_gives_back :
    (after (.revertHoldExpiry 7) (revert7 .revertHold true fun x =>
      { x with call := { x.call with revertHold := some 30000 } })).reports.queue =
      [.revertAbandon 7 .holdTimeout] := by decide +kernel
theorem test_twelfth_tick_sets_must_run :
    (after .testTick { State.reset with msu := { State.reset.msu with backlog := 11 } }).msu.mustRun = true := by
  decide +kernel

/-- Line 7 with leak values 12 and 9 µS and its ORIGIN_ID on the head. -/
def identifying7 : State :=
  running ⟨7, .originId, 120, 0⟩ [⟨7, .originId, 4⟩] (in7 .originating fun x =>
    { x with leaks := ⟨12, 9⟩, call := { x.call with originationPending := true } })

theorem test_identified_party_2 :
    (after (.originIdComplete ⟨0, 214⟩ ⟨0, 15⟩) identifying7).reports.queue =
      [.originate 7 (.identified 1) (some ⟨202, 6⟩)] := by decide +kernel
theorem test_out_of_band :
    (after (.originIdComplete ⟨0, 150⟩ ⟨0, 10⟩) identifying7).reports.queue =
      [.originate 7 (.unidentified .outOfBand) (some ⟨138, 1⟩)] := by decide +kernel

/-- Line 7 in REVERT_CHECK with its side test on the head. -/
def checking7 : State :=
  running ⟨7, .answerSide, 80, 0⟩ [⟨7, .answerSide, 4⟩] (revert7 .revertCheck true id)

theorem test_called_side_answers :
    (after (.answerSideComplete ⟨0, 200⟩ ⟨0, 5⟩) checking7).reports.queue = [.answer 7 (some .tip) .called (some 1)] := by
  decide +kernel
theorem test_caller_side_is_an_early_pickup :
    (after (.answerSideComplete ⟨0, 5⟩ ⟨0, 410⟩) checking7).reports.queue = [.revertEarly 7 1] ∧
      (after (.answerSideComplete ⟨0, 5⟩ ⟨0, 410⟩) checking7).callState 7 = .revertHold := by decide +kernel

/-- Line 7 with its line test on the head. -/
def testing7 (f : Line → Line) : State := running ⟨7, .hostTest, 300, 0⟩ [⟨7, .hostTest, 4⟩] (in7 .idle f)

theorem test_test_complete_grades_and_seeds :
    ((after (.testComplete ⟨0, 30⟩ ⟨0, 8⟩) (testing7 id)).line 7).record.condition = .degraded ∧
      ((after (.testComplete ⟨0, 30⟩ ⟨0, 8⟩) (testing7 id)).line 7).sides = ⟨⟨144, 60, 75, false⟩, ⟨38, 60, 64, false⟩⟩ := by
  decide +kernel
theorem test_test_complete_holds_faulted_at_95 :
    ((after (.testComplete ⟨0, 95⟩ ⟨0, 8⟩) (testing7 fun x => { x with
      record := { x.record with condition := .faulted, reasons := ⟨true, false⟩ } })).line 7).record.condition =
      .faulted := by decide +kernel

/-- RESTART starts an insulation test on the same line at once; the ended test's completion finds no job (R129). -/
theorem test_completion_after_restart_finds_no_job :
    after (.testComplete ⟨0, 500⟩ ⟨0, 500⟩) (after (.restart true) (testing7 id)) =
      after (.restart true) (testing7 id) := by decide +kernel

/-! ### Bits on the pair (R162) -/

theorem test_character_is_sent_low_bit_first :
    charBits (addressChar 0x0C) = [false, false, false, true, true, false, false, false, false, true, true] := by decide
theorem test_character_is_read_after_rest :
    readCharacter ([true, true] ++ charBits (dataChar 0x81) ++ [true]) = some (dataChar 0x81, [true]) := by decide
theorem test_framing_error_waits_for_rest :
    readCharacter (charBits ⟨false, 5⟩ ++ [false, true, false]) = some (⟨false, 5⟩, [true, false]) := by decide
/-- The bit times of R162's table, in tenths of a microsecond. -/
theorem test_bit_times :
    ([0, 1, 2, 3].map fun r : BitVec 2 => (Link.powerOn 1 r).duration 1) = [8333, 4167, 2083, 1042] := by decide

/-! ### The laws have a state that meets them: line 7 ringing party 5, with a POLL waiting -/

/-- Line 7 ringing, with one command in the queue. -/
def lawful : State := { ringing7 id with pending := [.poll] }

theorem lawful_assignments : AssignmentLaw lawful := ⟨by decide +kernel, by decide +kernel⟩

theorem lawful_jobs : JobLaw lawful := by constructor <;> decide +kernel

theorem lawful_scanners (l : LineId) : ScannerLaw (lawful.line l) :=
  ⟨(by decide +kernel : ∀ l, (lawful.line l).scan.closedHold ≠ none → (lawful.line l).scan.closed = true) l,
   (by decide +kernel : ∀ l, (lawful.line l).scan.breakTimer ≠ none → (lawful.line l).scan.closed = false) l,
   (by decide +kernel : ∀ l, (lawful.line l).relay.phase ≠ .silent →
      (lawful.line l).scan.closedHold = none ∧ (lawful.line l).scan.breakTimer = none ∧
        (lawful.line l).scan.reacquiring = false ∧ (lawful.line l).scan.filterCount = 0) l,
   (by decide +kernel : ∀ l, (lawful.line l).scan.filterCount ≤ 2) l,
   (by decide +kernel : ∀ l, (lawful.line l).scan.reacquireCount ≤ 2 ∧
      ((lawful.line l).scan.reacquiring = false → (lawful.line l).scan.reacquireCount = 0)) l⟩

theorem lawful_dials (l : LineId) : DialLaw (lawful.line l) :=
  ⟨(by decide +kernel : ∀ l, (lawful.line l).dial.pulseCount ≤ 11) l,
   (by decide +kernel : ∀ l, (lawful.line l).dial.received ≤ 16) l,
   (by decide +kernel : ∀ l, (lawful.line l).dial.digits.length ≤ 16) l,
   (by decide +kernel : ∀ l, ∀ d ∈ (lawful.line l).dial.digits, d ≤ 9) l,
   (by decide +kernel : ∀ l, (lawful.line l).dial.collection ≠ .off ↔
      (lawful.line l).record.callState = .originating) l,
   (by decide +kernel : ∀ l, (lawful.line l).scan.makeTimer ≠ none → (lawful.line l).dial.collection = .opened) l,
   (by decide +kernel : ∀ l, (lawful.line l).dial.interdigit ≠ none → (lawful.line l).dial.collection = .opened) l⟩

theorem lawful_calls (l : LineId) : CallLaw (lawful.line l) :=
  ⟨(by decide +kernel : ∀ l, (lawful.line l).record.callState = .unequipped ↔ (lawful.line l).record.parties = []) l,
   (by decide +kernel : ∀ l, (lawful.line l).call.ringingParty ≠ none ↔
      (lawful.line l).record.callState = .ringing) l,
   (by decide +kernel : ∀ l, (lawful.line l).call.originationPending = true →
      (lawful.line l).record.callState = .originating) l,
   (by decide +kernel : ∀ l, (lawful.line l).call.permanentSignal ≠ none ↔
      (lawful.line l).record.callState = .originating) l,
   (by decide +kernel : ∀ l, (lawful.line l).call.revertHold ≠ none →
      (lawful.line l).record.callState = .revertHold) l,
   (by decide +kernel : ∀ l, (lawful.line l).call.called ≠ none ↔
      ((lawful.line l).record.callState = .revertHold ∨ (lawful.line l).record.callState = .revertRinging ∨
        (lawful.line l).record.callState = .revertCheck)) l,
   (by decide +kernel : ∀ l, (lawful.line l).record.earlyPickups ≤ 3 ∧
      ((lawful.line l).record.callState = .revertHold ∨ (lawful.line l).record.callState = .revertRinging ∨
        (lawful.line l).record.callState = .revertCheck → (lawful.line l).record.earlyPickups ≤ 2)) l,
   (by decide +kernel : ∀ l, (lawful.line l).record.condition = .faulted →
      (lawful.line l).record.callState ≠ .ringing ∧ (lawful.line l).record.callState ≠ .revertHold ∧
        (lawful.line l).record.callState ≠ .revertRinging ∧ (lawful.line l).record.callState ≠ .revertCheck) l⟩

theorem lawful_waiting : WaitingLaw lawful :=
  ⟨by decide +kernel, by decide +kernel, by decide +kernel, by decide +kernel, by decide +kernel⟩

theorem lawful_loads : LoadLaw lawful :=
  ⟨fun bus => by cases bus <;> decide +kernel, fun bus => by cases bus <;> decide +kernel,
    fun bus => by cases bus <;> decide +kernel⟩

theorem lawful_relays : RelayLaw lawful :=
  ⟨by decide +kernel, fun l bus => by cases bus <;> revert l <;> decide +kernel, by decide +kernel, by decide +kernel⟩

theorem lawful_burst (c : CodeId) (b : Burst) (h : b ∈ lawful.pattern c) : b.Valid :=
  (by unfold Burst.Valid; decide +kernel : ∀ c, ∀ b ∈ lawful.pattern c, b.Valid) c b h

theorem lawful_codes : CodeLaw lawful :=
  ⟨fun c => ⟨(by decide +kernel : ∀ c, (lawful.pattern c).length ≤ 4) c, lawful_burst c,
      (by decide +kernel : ∀ c, (lawful.pattern c).Pairwise fun b d => b.start + b.length + 1 ≤ d.start) c⟩,
    by decide +kernel⟩

theorem lawful_side (l : LineId) :
    SideLaw lawful.params (lawful.line l).sides.tip ∧ SideLaw lawful.params (lawful.line l).sides.ring :=
  have h : (lawful.line l).sides = ⟨⟨0, 60, 60, false⟩, ⟨0, 60, 60, false⟩⟩ :=
    (by decide +kernel : ∀ l, (lawful.line l).sides = ⟨⟨0, 60, 60, false⟩, ⟨0, 60, 60, false⟩⟩) l
  h ▸ ⟨⟨by decide, by decide, by decide, by decide⟩, ⟨by decide, by decide, by decide, by decide⟩⟩

theorem lawful_health : HealthLaws lawful :=
  ⟨by constructor <;> decide,
    fun l => ⟨(lawful_side l).1, (lawful_side l).2,
      (by decide +kernel : ∀ l, (lawful.line l).record.reasons.tripMargin =
        ((lawful.line l).sides.tip.pinned || (lawful.line l).sides.ring.pinned)) l,
      (by decide +kernel : ∀ l, (lawful.line l).record.condition = .normal ↔
        ((lawful.line l).record.reasons.leak = false ∧ (lawful.line l).record.reasons.tripMargin = false)) l,
      (by decide +kernel : ∀ l, (lawful.line l).record.condition = .faulted →
        (lawful.line l).record.reasons.leak = true) l,
      (by decide +kernel : ∀ l, (lawful.line l).det.sampleSum ≤ 600 * (lawful.line l).det.sampleCount) l⟩⟩

theorem lawful_reports : ReportLaw lawful := ⟨by decide +kernel, by decide +kernel, by decide +kernel⟩

theorem lawful_link : LinkLaw lawful.link := by constructor <;> decide +kernel

theorem witness_StepKeepsTheCallLaws : CallLaws lawful ∧ step lawful = .next (after .poll (ringing7 id)) :=
  ⟨⟨lawful_assignments, lawful_jobs, lawful_scanners, lawful_dials, lawful_calls⟩, rfl⟩
theorem witness_StepKeepsTheRingingLaws :
    CallLaws lawful ∧ RingingLaws lawful ∧ step lawful = .next (after .poll (ringing7 id)) :=
  ⟨witness_StepKeepsTheCallLaws.1, ⟨lawful_waiting, lawful_loads, lawful_relays⟩, rfl⟩
theorem witness_StepKeepsTheCodeLaw : CodeLaw lawful ∧ step lawful = .next (after .poll (ringing7 id)) :=
  ⟨lawful_codes, rfl⟩
theorem witness_StepKeepsTheHealthLaws : HealthLaws lawful ∧ step lawful = .next (after .poll (ringing7 id)) :=
  ⟨lawful_health, rfl⟩
theorem witness_StepKeepsTheReportLaw : ReportLaw lawful ∧ step lawful = .next (after .poll (ringing7 id)) :=
  ⟨lawful_reports, rfl⟩
theorem witness_StepKeepsTheLinkLaw : LinkLaw lawful.link ∧ step lawful = .next (after .poll (ringing7 id)) :=
  ⟨lawful_link, rfl⟩

/-! ### A state for the hypotheses of each statement, clause by clause -/

theorem witness_StepTakesFrontCommand : State.reset.pending = [] := rfl

theorem witness_DecodeOfEncodeIsTheCommand :
    ((Instr.ring 7 5 0).WellFormed ∧ encodeCommand (.ring 7 5 0) = some (0x30, [7, 5, 0])) ∧
    ((Instr.unknownKind 0x55 (List.replicate 48 0)).WellFormed ∧
      encodeCommand (.unknownKind 0x55 (List.replicate 48 0)) = some (0x55, List.replicate 48 0)) := by decide

theorem ready_reset : Ready State.reset := ⟨by decide +kernel, by decide +kernel, by decide +kernel⟩

theorem witness_GoodFrameRunsItsCommand :
    (Instr.ring 7 5 0).WellFormed ∧ Ready State.reset ∧ encodeCommand (.ring 7 5 0) = some (0x30, [7, 5, 0]) :=
  ⟨by decide, ready_reset, by decide⟩

theorem witness_FramesThatRunNoCommand :
    (([] : List Byte).length ≤ 48 ∧ (0x30 : Byte) ∈ listedKinds ∧ ¬lengthListed 0x30 ([] : List Byte).length ∧
      Ready State.reset) ∧
    (State.reset.link.receiver = .hunting ∧ dbyte 0 0 ≠ frameCheck (Frame.covered ⟨31, 2, []⟩)) ∧
    ((replying .sending).listensOnly = false ∧ (replying .sending).link.receiver = .hunting ∧
      (replying .sending).link.replyState ≠ .idle) :=
  ⟨⟨by decide, by decide, by unfold lengthListed; decide, ready_reset⟩, by decide +kernel, by decide +kernel⟩

theorem witness_ReceiverAndLinkTimers :
    (State.reset.link.receiver.mode = .hunt ∧ charIsAddress (dataChar 1) = false) ∧
    (charIsAddress (addressChar 1) = true ∧ State.reset.concerns (charByte (addressChar 1)) = true) ∧
    ((assembling .kind).link.receiver.mode = .assemble ∧ charIsAddress (addressChar 2) = true ∧
      (assembling .kind).concerns (charByte (addressChar 2)) = false) ∧
    ((assembling .length).link.receiver.next = .length ∧ 48 < (charByte (dataChar 49)).toNat) ∧
    (assembling .kind).link.receiver.gapTimer ≠ none ∧ (replying .pending).link.replyState = .pending ∧
    (replying .sending).link.replyState = .sending ∧ (replying .sending).link.reply ≠ none ∧
    ([0, 1, 2, 3].map fun r : BitVec 2 => (Link.powerOn 1 r).rate) = [0, 1, 2, 3] := by decide +kernel

theorem witness_ReplyCarriesAndClearsTheLatches :
    (State.powerOn 0 0 true true).link.address = 0 ∧ (State.powerOn 31 0 true true).link.address = 31 ∧
      State.reset.link.address ≠ 0 ∧ State.reset.link.address ≠ 31 := by decide +kernel

theorem witness_EveryCommandIsAnswered :
    encodeCommand .poll = some (0x01, []) ∧ State.reset.link.replyState = .idle ∧
      (State.powerOn 31 0 true true).link.replyState = .idle ∧ State.reset.listensOnly = false ∧
      (State.powerOn 31 0 true true).listensOnly = true ∧
      encodeCommand (.unknownKind 0x05 []) = some (0x05, []) := by decide +kernel

theorem witness_EveryReplyFitsInAFrame :
    encodeCommand (.readSchedule 0) ≠ none ∧ lawful.listensOnly = false ∧ WaitingLaw lawful ∧ CodeLaw lawful ∧
      (after (.readSchedule 0) lawful).link.reply ≠ none :=
  ⟨by decide, by decide +kernel, lawful_waiting, lawful_codes, by decide +kernel⟩

/-- Line 7 BLOCKED with its loop closed. -/
def blockedClosed : State := in7 .blocked fun x => { x with scan := { x.scan with closed := true } }
/-- Line 3 UNEQUIPPED with its held loop state closed. -/
def closed3 : State := State.reset.modLine 3 fun x => { x with scan := { x.scan with closed := true } }

theorem witness_ConfigureLineAccepted :
    ([parties7, []].all fun ps => ps.length ≤ 8) ∧ (parties7.map Party.number).Nodup ∧
      (parties7.map fun p => (p.side, p.code)).Nodup ∧ (∀ p ∈ parties7, State.reset.pattern p.code ≠ []) ∧
      State.reset.callState 7 = .unequipped ∧ (State.reset.line 7).scan.closed = false ∧
      closed3.callState 3 = .unequipped ∧ (closed3.line 3).scan.closed = true ∧ idle7.callState 7 = .idle ∧
      blockedClosed.callState 7 = .blocked := by decide +kernel

/-- Line 7 IDLE with its TIP side pinned at Tmax by a margin of 100 dmA, and a line test waiting. -/
def pinned7 : State := { in7 .idle fun x => { x with
    record := { x.record with condition := .degraded, reasons := ⟨false, true⟩ }
    sides := ⟨⟨1000, 100, 140, true⟩, .powerOn⟩ } with
  msu := { MeasurementUnit.powerOn with jobs := [⟨7, .hostTest, 0⟩], arrivalCount := 1 } }

/-- The clauses on the reports: a line test waiting on an IDLE line, and a margin reset that clears TRIP_MARGIN with the
reports of it enabled and disabled. -/
theorem witness_ConfigureLineAccepted_reports :
    pinned7.hasHostTest 7 = true ∧ pinned7.callState 7 = .idle ∧
      (pinned7.line 7).record.reasons.tripMargin = true ∧ pinned7.reports.enables.lineCondition = true ∧
      ((after (.configureLine 7 1 1 0 7 []) (pinned7.modLine 7 fun x =>
        { x with sides := ⟨⟨700, 100, 140, true⟩, .powerOn⟩ })).line 7).record.reasons.tripMargin = false ∧
      (after (.setReports 0) pinned7).reports.enables.lineCondition = false := by decide +kernel

theorem witness_ConfigureLineRefused :
    16 ≤ (16 : Byte).toNat ∧ (in7 .connected id).callState 7 = .connected ∧ 2 < (3 : Byte).toNat ∧
      8 < (PartyField.mk 9 0 1 0).number.toNat ∧
      ¬([⟨0, .tip, 0, 0⟩, ⟨0, .ring, 0, 0⟩].map Party.number).Nodup ∧
      ([⟨0, .tip, 0, 0⟩, ⟨1, .tip, 0, 0⟩].map Party.number).Nodup ∧
      ¬([⟨0, .tip, 0, 0⟩, ⟨1, .tip, 0, 0⟩].map fun p : Party => (p.side, p.code)).Nodup ∧
      State.reset.pattern 5 = [] ∧ State.reset.callState 7 = .unequipped := by decide +kernel

theorem witness_BlockAndUnblock :
    16 ≤ (16 : Byte).toNat ∧ State.reset.callState 7 = .unequipped ∧ blockedClosed.callState 7 = .blocked ∧
      (blockedClosed.line 7).scan.closed = true ∧ (in7 .blocked id).callState 7 = .blocked ∧
      ((in7 .blocked id).line 7).scan.closed = false ∧ (ringing7 id).callState 7 = .ringing ∧
      ((ringing7 id).line 7).placedBus.isSome = true ∧
      ((ringing7 fun x => { x with relay := ringTip }).line 7).relay.phase = .ring := by decide +kernel

theorem witness_ReadsReturnTheSnapshots : 16 ≤ (16 : Byte).toNat ∧ 1 < (2 : Byte).toNat := by decide

theorem witness_SetCodeReplacesAnUnusedCode :
    ((0 : Byte).toNat < 1 ∧ 8 < (9 : Byte).toNat) ∧ ¬(readBursts [⟨11, 1⟩]).Valid ∧ (readBursts [⟨0, 11⟩]).Valid ∧
    (∃ p ∈ (idle7.line 7).record.parties, p.code = 1) ∧
    (∀ l, (∀ p ∈ (idle7.line l).record.parties, p.code ≠ 5) ∧ ∀ a ∈ (idle7.line l).asg, a.stroke0.code ≠ 5) :=
  ⟨by decide, fun h => absurd (h.bursts ⟨11, 1⟩ (by decide)) (by unfold Burst.Valid; decide),
    ⟨by decide, by unfold Burst.Valid; decide, by decide⟩, by decide +kernel, by decide +kernel⟩

theorem witness_RingingSlotsOfAnAssignment :
    11 < 12 ∧ (∀ c, (lawful.pattern c).Valid) ∧ strokeAt lawful.pattern ring5 1 1 = some ring5.stroke0 ∧
      strokeAt lawful.pattern ring5 1 2 = some ring5.stroke0 ∧ ring5.stroke1 = none ∧ placeOf 1 12 % 12 = 11 ∧
      placeOf 1 0 % 12 = 11 :=
  ⟨by decide, lawful_codes.valid, by decide +kernel, by decide +kernel, rfl, by decide, by decide⟩

/-- Both buses GOOD with budget 0. -/
def noBudget : State :=
  { idle7 with busA := { idle7.busA with budget := 0 }, busB := { idle7.busB with budget := 0 } }

theorem witness_PlacementIsTheFirstThatFits :
    noBudget.search ring5 = none ∧ noBudget.busA.status = .good ∧ fourRings.search ring5 = none ∧
      idle7.search ring5 = some (1, .a) ∧ idle7.busB.status = .good := by decide +kernel

/-- Line 7 idle with both buses FAULTED: nothing can be placed now. -/
def busesFaulted : State :=
  { idle7 with busA := { idle7.busA with status := .faulted }, busB := { idle7.busB with status := .faulted } }

theorem witness_RingCreatesAnAssignment :
    idle7.callState 7 = .idle ∧ (idle7.line 7).record.condition ≠ .faulted ∧
      (idle7.line 7).party 4 = some ⟨4, .ring, 0, 1⟩ ∧ (idle7.line 7).record.loads.get .ring ≤ idle7.busA.budget ∧
      idle7.search (newAssignment .plain ⟨.ring, 0, 20⟩ none 20 0) = some (1, .a) ∧
      busesFaulted.search (newAssignment .plain ⟨.ring, 0, 20⟩ none 20 0) = none ∧
      (busesFaulted.line 7).record.loads.get .ring ≤ busesFaulted.busA.budget := by decide +kernel

/-- Line 7 in a call state and FAULTED. -/
def faulted7 (st : CallState) : State :=
  in7 st fun x => { x with record := { x.record with condition := .faulted, reasons := ⟨true, false⟩ } }

/-- Line 7 originating with both budgets 0. -/
def noBudgetOriginating : State :=
  let s := in7 .originating id
  { s with busA := { s.busA with budget := 0 }, busB := { s.busB with budget := 0 } }

theorem witness_RingAndRevertRefused :
    16 ≤ (16 : Byte).toNat ∧ State.reset.callState 7 ≠ .idle ∧ idle7.callState 7 = .idle ∧
      (8 < (9 : Byte).toNat ∧ (0 : Byte).toNat < 1 ∧ 1 < (2 : Byte).toNat) ∧
      (faulted7 .idle).callState 7 = .idle ∧ ((faulted7 .idle).line 7).record.condition = .faulted ∧
      (∀ p ∈ (idle7.line 7).record.parties, p.number ≠ 0) ∧
      noBudget.busA.budget < (noBudget.line 7).record.loads.get .tip ∧
      noBudget.busB.budget < (noBudget.line 7).record.loads.get .tip ∧
      (noBudget.line 7).party 1 = some ⟨1, .tip, 1, 2⟩ ∧
      (in7 .originating id).callState 7 = .originating ∧ (faulted7 .originating).callState 7 = .originating ∧
      ((faulted7 .originating).line 7).record.condition = .faulted ∧
      (∀ p ∈ ((in7 .originating id).line 7).record.parties, p.number ≠ 0) ∧
      noBudgetOriginating.callState 7 = .originating ∧
      (noBudgetOriginating.line 7).party 1 = some ⟨1, .tip, 1, 2⟩ ∧
      (noBudgetOriginating.line 7).party 4 = some ⟨4, .ring, 0, 1⟩ ∧
      noBudgetOriginating.busA.budget < (noBudgetOriginating.line 7).record.loads.get .tip ∧
      noBudgetOriginating.busB.budget < (noBudgetOriginating.line 7).record.loads.get .tip := by decide +kernel

theorem witness_SlotBoundaryBeginsAndEndsBursts :
    ((ringing7 id).line 7).endsAtBoundary 23 = false ∧ (idle7.line 7).endsAtBoundary 23 = false ∧ ((ringing7 id).line 7).relay.phase = .silent ∧
      ((ringing7 id).line 7).relay.quiet = true ∧ ((ringing7 id).line 7).placed = some (ring5, .a, 1, 0) ∧
      strokeAt (ringing7 id).pattern ring5 1 1 = some ring5.stroke0 ∧
      strokeAt (ringing7 id).pattern ring5 1 0 = none ∧ (idle7.line 7).placed = none ∧
      ((ringing7 fun x => { x with relay := ringTip }).line 7).relay.phase = .ring ∧
      ((ringing7 fun x => { x with relay := { ringTip with phase := .quench, quenchKind := some .normal } }).line
        7).relay.quenchKind = some .normal ∧
      ((ringing7 fun x => { x with relay :=
        { ringTip with phase := .quench, quenchKind := some .early, lastSlot := some 5 } }).line 7).relay.lastSlot ≠
        some 0 := by decide +kernel

/-- The clause on a QUENCH that is due, on an equipped line with a verify pending and on an UNEQUIPPED one. -/
theorem witness_SlotBoundaryBeginsAndEndsBursts_quench :
    ((ringing7 fun x => { x with
      relay := { ringTip with phase := .quench, quenchKind := some .normal, quiet := false }
      det := ⟨.verify, some .tip, 0, 0, 0, 0, some .openAtEnd, false⟩ }).line 7).record.parties ≠ [] ∧
      ((State.reset.modLine 2 fun x => { x with
        relay := { ringTip with phase := .quench, quenchKind := some .early, lastSlot := some State.reset.slot } }).line
          2).relay.lastSlot = some State.reset.slot ∧
      (State.reset.line 2).record.parties = [] := by decide +kernel

/-- Line 7 ringing with `n` cycles left and the first boundary skipped, at the last slot of the cycle. -/
def lastSlot7 (skipped : Bool) (n : Nat) : State :=
  { ringing7 fun x => { x with asg := some { ring5 with skipped := skipped, cyclesLeft := n } } with slot := 23 }

theorem lawful_last_slot : RelayLaw (lastSlot7 true 1) :=
  ⟨by decide +kernel, fun l bus => by cases bus <;> revert l <;> decide +kernel, by decide +kernel, by decide +kernel⟩

theorem witness_CycleBoundaryCountsDownRings :
    (strokeAt (lastSlot7 true 1).pattern ring5 0 0 = some ring5.stroke0 ∧
      strokeAt (lastSlot7 true 1).pattern ring5 0 23 = none) ∧
    RelayLaw (lastSlot7 true 1) ∧ (lastSlot7 true 1).slot = 23 ∧
      ((lastSlot7 true 1).line 7).asg = some { ring5 with skipped := true, cyclesLeft := 1 } ∧
      ((lastSlot7 true 2).line 7).asg = some { ring5 with skipped := true, cyclesLeft := 2 } ∧
      ((lastSlot7 false 1).line 7).asg = some { ring5 with skipped := false, cyclesLeft := 1 } :=
  ⟨by decide +kernel, lawful_last_slot, by decide +kernel⟩

/-- Line 7's assignment waiting, with waited boundaries 2. -/
def waiting7 (budget : Nat) : State :=
  let s := in7 .ringing fun x => { x with
    asg := some { ring5 with placement := .waiting, waited := 2 }, call := { x.call with ringingParty := some 4 } }
  { s with busA := { s.busA with budget := budget }, busB := { s.busB with budget := 0 }, waiting := [7]
           createdCount := 1 }

/-- `waiting7` at the last slot of the cycle, with the waited boundaries given. -/
def waitingLast7 (budget waited : Nat) : State :=
  { (waiting7 budget).modLine 7 fun x => { x with asg := x.asg.map fun a => { a with waited := waited } } with
    slot := 23 }

/-- An entry that is passed over, one that a cycle boundary ages, and none that comes to its end. -/
theorem witness_WaitingListHeadAtASlotBoundary_passed :
    (waitingLast7 0 0).PassesOver 7 ∧ (∀ l, ((waitingLast7 0 0).line l).endsAtBoundary 23 = false) ∧
      (waitingLast7 0 1).waitedAfter { ring5 with placement := .waiting, waited := 1 } = 2 ∧
      (waitingLast7 0 1).slot = 23 :=
  ⟨⟨{ ring5 with placement := .waiting, waited := 0 }, by decide +kernel, by decide +kernel, by decide +kernel⟩,
    by decide +kernel, by decide +kernel, by decide +kernel⟩

theorem witness_WaitingListHeadAtASlotBoundary :
    (∀ l, ((waiting7 40).line l).endsAtBoundary (waiting7 40).slot = false) ∧ (waiting7 40).waiting = 7 :: [] ∧
      ((waiting7 40).line 7).asg = some { ring5 with placement := .waiting, waited := 2 } ∧
      State.search { waiting7 40 with slot := 1 } { ring5 with placement := .waiting, waited := 2 } = some (2, .a) ∧
      (waiting7 0).waiting = 7 :: [] ∧
      State.search { waiting7 0 with slot := 1 } { ring5 with placement := .waiting, waited := 2 } = none := by
  decide +kernel

/-- A REVERT assignment of line 7, party 2 then party 5, placed on bus A at offset 1. -/
def revertRing7 : Assignment :=
  { ring5 with kind := .revert, stroke0 := ⟨.tip, 1, 3⟩, stroke1 := some ⟨.ring, 0, 20⟩ }

theorem witness_AssignmentExpiryEndsTheRing :
    ((ringing7 id).line 7).asg = some ring5 ∧ ring5.kind = .plain ∧ ((ringing7 id).line 7).relay.phase = .silent ∧
      ((ringing7 fun x => { x with relay := ringTip }).line 7).relay.phase = .ring ∧
      ((ringing7 id).line 7).placedBus.isSome = true ∧
      ((revert7 .revertRinging true fun x => { x with asg := some revertRing7 }).line 7).asg = some revertRing7 ∧
      revertRing7.kind = .revert := by decide +kernel

theorem witness_SetBusStoresAndSheds :
    1 < (2 : Byte).toNat ∧ ((ringing7 id).bus .a).peak ≤ min 60 (20 : Byte).toNat ∧
      min 60 (19 : Byte).toNat < ((ringing7 id).bus .a).peak ∧
      ((ringing7 id).line 7).placed = some (ring5, .a, 1, 0) ∧ LoadLaw lawful :=
  ⟨by decide, by decide +kernel, by decide +kernel, by decide +kernel, lawful_loads⟩

/-- The clause on where a displaced assignment goes: bus B good with room, bus B without room, bus B FAULTED. -/
theorem witness_SetBusStoresAndSheds_rehomed :
    (∀ m, m ≠ 7 → ((ringing7 id).line m).placedOrderOn .a ≠ some 0) ∧
      ((after (.setBus 0 0) (ringing7 id)).line 7).placedBus = some .b ∧
      ((after (.setBus 0 0) ((ringing7 id).modBus .b fun r => { r with budget := 19 })).line 7).waits = true ∧
      ((after (.setBus 0 0) ((ringing7 id).modBus .b fun r => { r with status := .faulted })).line 7).waits = true := by
  decide +kernel

theorem witness_SourceGoodFilterAndRecovery :
    (State.reset.bus .a).sourceGood = true ∧ (State.reset.bus .a).status = .good ∧
      (dropped7.bus .a).sourceGood = false ∧ (dropped7.bus .a).status = .good ∧
      ((State.powerOn 1 0 false true).bus .a).sourceGood = false ∧
      ((State.powerOn 1 0 false true).bus .a).status = .faulted ∧ (returning.bus .a).sourceGood = true ∧
      (returning.bus .a).status = .faulted ∧ (returning.bus .a).filterTimer ≠ none := by decide +kernel

theorem witness_BusFaultDisplacesItsAssignments :
    (dropped7.bus .a).status = .good ∧ (dropped7.bus .a).filterTimer ≠ none ∧
      (dropped7.line 7).placed = some (ring5, .a, 1, 0) ∧ dropped7.reports.enables.busState = true ∧
      (∀ m, m ≠ 7 → (dropped7.line m).placedOrderOn .a ≠ some 0) := by
  decide +kernel

theorem witness_RelayPhasesAndTheirTimers :
    ((ringing7 fun x => { x with relay := { ringTip with phase := .arm } }).line 7).relay.phase = .arm ∧
      ((ringing7 fun x => { x with relay := { ringTip with phase := .quench } }).line 7).relay.phase = .quench := by
  decide +kernel

theorem witness_ThresholdAndTripMargin :
    ((0 + 9) / 10 + 39 < 40) ∧ (40 ≤ (900 + 9) / 10 + 50 ∧ (900 + 9) / 10 + 50 ≤ 140) ∧
      (40 ≤ 140 ∧ 140 < (901 + 9) / 10 + 50) := by decide

theorem witness_RingEndUpdatesTheBaseline :
    ((ringing7 fun x => { x with relay := ringTip, det := ⟨.watch, some .tip, 0, 0, 16, 1, none, false⟩ }).line
        7).relay = ringTip ∧
      ringTip.phase = .ring ∧ ringTip.lastSlot = some (ringing7 id).slot ∧
      ((ringing7 fun x => { x with relay := ringTip, det := ⟨.watch, some .tip, 0, 0, 0, 0, none, false⟩ }).line
        7).det.sampleCount = 0 ∧
      ((window7 2 4).line 7).det.mode = .window ∧ ((window7 2 4).line 7).relay = ringTip := by decide +kernel

/-- The clause on a quiet burst that pins its side: TRIP_MARGIN and the condition change. -/
theorem witness_RingEndUpdatesTheBaseline_pins :
    ((ringing7 fun x => { x with relay := ringTip, det := ⟨.watch, some .tip, 0, 0, 600, 1, none, false⟩
                                 sides := ⟨⟨790, 60, 139, false⟩, .powerOn⟩ }).line 7).record.condition = .normal ∧
      ((after (.ringEnd 7) (ringing7 fun x => { x with
        relay := ringTip, det := ⟨.watch, some .tip, 0, 0, 600, 1, none, false⟩
        sides := ⟨⟨790, 60, 139, false⟩, .powerOn⟩ })).line 7).record.condition = .degraded := by decide +kernel

/-- Line 7 in WATCH on TIP with threshold 72 dmA. -/
def watch7 : State := ringing7 fun x => { x with
  relay := ringTip, sides := ⟨⟨120, 60, 72, false⟩, ⟨0, 60, 60, false⟩⟩
  det := ⟨.watch, some .tip, 0, 0, 0, 0, none, false⟩ }

theorem witness_SampleIsJudgedAgainstTheThreshold :
    (watch7.line 7).relay.phase = .ring ∧ (watch7.line 7).det.side = some .tip ∧ (watch7.line 7).det.mode = .watch ∧
      ((watch7.line 7).sides.get .tip).threshold = 72 ∧ min 600 72 ≤ 72 ∧ 72 < min 600 73 ∧
      ((window7 1 1).line 7).det.mode = .window ∧ ((window7 1 1).line 7).relay.phase = .ring ∧
      ((window7 1 10).line 7).det.windowLength + 1 < (window7 1 10).params.window ∧ 1 ≤ (window7 1 10).params.confirm ∧
      ((window7 1 10).line 7).det.run + 1 < (window7 1 10).params.confirm := by decide +kernel

theorem witness_SampleEndsTheWindow :
    ((window7 2 11).line 7).relay.phase = .ring ∧ ((window7 2 11).line 7).det.mode = .window ∧
      (window7 2 11).params.confirm ≤ ((window7 2 11).line 7).det.run + 1 ∧
      (window7 2 11).callState 7 = .ringing ∧
      (revert7 .revertRinging true fun x => { x with
        asg := some revertRing7, relay := ringTip, det := ⟨.window, some .tip, 2, 11, 0, 0, none, false⟩ }).callState 7 =
        .revertRinging ∧
      (window7 1 11).params.window ≤ ((window7 1 11).line 7).det.windowLength + 1 ∧
      ((window7 1 11).line 7).det.run + 1 < (window7 1 11).params.confirm := by decide +kernel

/-- Line 7 with a verify running, for a cause. -/
def verify7 (cause : VerifyCause) (noise : Bool) : State :=
  let s := ringing7 fun x => { x with
    sides := ⟨⟨300, 60, 90, false⟩, ⟨0, 60, 60, false⟩⟩, det := ⟨.verify, some .tip, 2, 12, 0, 0, some cause, true⟩ }
  { s with reports := { s.reports with enables := ⟨noise, true, true⟩ } }

theorem witness_VerifyExpiryRaisesTheMargin :
    ((verify7 .unresolved true).line 7).det.mode = .verify ∧
      ((verify7 .unresolved true).line 7).det.verifyRunning = true ∧
      ((verify7 .unresolved true).line 7).det.side = some .tip ∧
      ((verify7 .unresolved true).line 7).det.verifyCause = some .unresolved ∧
      (verify7 .unresolved true).reports.enables.tripNoise = true ∧
      (verify7 .unresolved false).reports.enables.tripNoise = false ∧
      ((verify7 .openAtEnd true).line 7).det.verifyCause = some .openAtEnd := by decide +kernel

/-- Line 7 idle with a scanner record. -/
def scan7 (c : ScannerRecord) : State := in7 .idle fun x => { x with scan := c }

theorem witness_LoopSampleIsFiltered :
    (State.reset.line 7).record.parties = [] ∧
      ((ringing7 fun x => { x with relay := ringTip }).line 7).relay.phase ≠ .silent ∧
      (idle7.line 7).record.parties ≠ [] ∧ (idle7.line 7).relay.phase = .silent ∧
      (idle7.line 7).scan.reacquiring = false ∧ (idle7.line 7).scan.closed = false ∧
      (idle7.line 7).scan.filterCount < 2 ∧
      ((scan7 ⟨false, 2, false, 0, false, none, none, none⟩).line 7).scan.filterCount = 2 ∧
      ((scan7 ⟨true, 2, false, 0, false, none, none, none⟩).line 7).scan.closed = true := by decide +kernel

theorem witness_ReacquisitionEndsAtThreeEqualSamples :
    ((scan7 ⟨true, 0, true, 0, false, none, none, none⟩).line 7).scan.reacquiring = true ∧
      ((scan7 ⟨true, 0, true, 1, false, none, none, none⟩).line 7).scan.reacquireCount = 1 ∧
      ((scan7 ⟨true, 0, true, 2, false, none, none, none⟩).line 7).scan.reacquireCount = 2 ∧
      ((scan7 ⟨false, 0, true, 2, true, none, none, none⟩).line 7).scan.lastSample = true ∧
      ((scan7 ⟨true, 0, true, 0, false, none, none, none⟩).line 7).record.parties ≠ [] ∧
      ((scan7 ⟨true, 0, true, 0, false, none, none, none⟩).line 7).relay.phase = .silent := by decide +kernel

/-- Line 7 with two closed samples after a break of `n` ms, in a call state with a collection. -/
def break7 (st : CallState) (n : Nat) (marker reported : Bool) : State :=
  let s := in7 st fun x => { x with
    scan := { x.scan with filterCount := 2, breakTimer := some n }
    dial := { x.dial with collection := .opened, originationReported := reported } }
  { s with reports := { s.reports with queue := if marker then [.digits 7] else [] } }

theorem witness_MakeClassifiesItsBreak :
    ([10, 95, 96, 1044, 295, 290, 1045].map fun n =>
        (((break7 .connected n false true).line 7).scan.breakTimer.map fun m => min 1050 (m + 5)).getD 0) =
        [15, 100, 101, 1049, 300, 295, 1050] ∧
      ((break7 .originating 10 false true).line 7).record.parties ≠ [] ∧
      ((break7 .originating 10 false true).line 7).relay.phase = .silent ∧
      ((break7 .originating 10 false true).line 7).scan.reacquiring = false ∧
      ((break7 .originating 10 false true).line 7).scan.closed = false ∧
      ((break7 .originating 10 false true).line 7).scan.filterCount = 2 ∧
      (break7 .originating 10 false true).callState 7 = .originating ∧
      ((break7 .originating 10 false true).line 7).dial.collection = .opened ∧
      (break7 .originating 96 true true).markerPending 7 = true ∧
      (break7 .originating 96 false true).markerPending 7 = false ∧
      ((break7 .originating 96 false false).line 7).dial.originationReported = false ∧
      ((in7 .originating fun x => { x with
        dial := { x.dial with collection := .done } }).line 7).dial.collection = .done ∧
      (break7 .connected 295 false true).callState 7 = .connected ∧
      (break7 .parked 295 false true).callState 7 = .parked := by decide +kernel

/-- `train7` in a dial mode. -/
def trainMode7 (mode : DialMode) (pulses received : Nat) (digits : List Nat) : State :=
  (train7 pulses received digits).modLine 7 fun x => { x with record := { x.record with dialMode := mode } }

theorem witness_TrainsAndPausesFormDigits :
    ([1, 10, 11].map fun n => ((trainMode7 .each n 0 []).line 7).dial.pulseCount) = [1, 10, 11] ∧
      ((train7 1 0 []).line 7).scan.makeTimer ≠ none ∧ ((train7 1 0 []).line 7).dial.collection = .opened ∧
      ((trainMode7 .each 1 0 (List.replicate 15 1)).line 7).dial.digits.length < 16 ∧
      16 ≤ ((trainMode7 .each 1 0 (List.replicate 16 1)).line 7).dial.digits.length ∧
      ((trainMode7 .each 1 0 []).line 7).record.dialMode = .each ∧
      ((trainMode7 .firstThenBlock 1 0 []).line 7).record.dialMode = .firstThenBlock ∧
      ((trainMode7 .block 1 3 []).line 7).record.blockCount = min 16 (3 + 1) ∧
      ((trainMode7 .block 1 2 []).line 7).record.blockCount ≠ min 16 (2 + 1) ∧
      (train7 1 0 []).markerPending 7 = false ∧ ((train7 1 0 []).line 7).dial.originationReported = true ∧
      ((in7 .originating fun x => { x with
        dial := { x.dial with collection := .opened, interdigit := some 4000 } }).line 7).dial.interdigit ≠ none ∧
      ((in7 .originating fun x => { x with
        dial := { x.dial with collection := .opened, interdigit := some 4000 } }).line 7).dial.originationReported =
        false := by decide +kernel

/-- Line 7 in a call state with its loop closed and its closed-hold timer running, FAULTED or not. -/
def held7 (st : CallState) (c : Condition) : State := in7 st fun x => { x with
  record := { x.record with condition := c }, scan := { x.scan with closed := true, closedHold := some 50 } }

theorem witness_ClosedLoopOnAnIdleLineIsAnOrigination :
    ((held7 .idle .normal).line 7).scan.closedHold ≠ none ∧ (held7 .idle .normal).callState 7 = .idle ∧
      ((held7 .idle .normal).line 7).record.condition ≠ .faulted ∧
      ((held7 .idle .faulted).line 7).record.condition = .faulted ∧
      ((held7 .idle .faulted).line 7).scan.closedHold ≠ none ∧ (held7 .idle .faulted).callState 7 = .idle := by
  decide +kernel

/-- Line 7 ringing with its loop held closed, with or without a verify running. -/
def heldRinging7 (d : DetectorRecord) : State := ringing7 fun x => { x with
  det := d, scan := { x.scan with closed := true, closedHold := some 50 } }

theorem witness_ClosedLoopOnARingingLineIsAnAnswer :
    ((heldRinging7 .powerOn).line 7).scan.closedHold ≠ none ∧ (heldRinging7 .powerOn).callState 7 = .ringing ∧
      ((heldRinging7 .powerOn).line 7).asg = some ring5 ∧ ((heldRinging7 .powerOn).line 7).det.mode ≠ .verify ∧
      ((heldRinging7 ⟨.verify, some .tip, 2, 12, 0, 0, some .openAtEnd, true⟩).line 7).det.verifyRunning = true ∧
      ((heldRinging7 ⟨.verify, some .tip, 2, 12, 0, 0, some .openAtEnd, true⟩).line 7).det.mode = .verify ∧
      (revert7 .revertRinging true fun x => { x with
        asg := some revertRing7, scan := { x.scan with closed := true, closedHold := some 50 } }).callState 7 =
        .revertRinging ∧
      (held7 .connected .normal).callState 7 = .connected ∧
      ((held7 .connected .normal).line 7).scan.closedHold ≠ none := by decide +kernel

/-- Line 7 in a call state with its break timer run out, and a reverting call. -/
def broken7 (st : CallState) (recallOn : Bool) : State :=
  revert7 st recallOn fun x => { x with scan := { x.scan with breakTimer := some 1050 } }

theorem witness_BreakOf1050msClearsOrRings :
    ([.originating, .connected, .parked, .revertHold, .revertCheck, .idle].map fun st =>
        ((broken7 st true).callState 7, ((broken7 st true).line 7).scan.breakTimer)) =
        [(.originating, some 1050), (.connected, some 1050), (.parked, some 1050), (.revertHold, some 1050),
          (.revertCheck, some 1050), (.idle, some 1050)] ∧
      ((broken7 .revertHold true).line 7).call.called.bind ((broken7 .revertHold true).line 7).party =
        some ⟨1, .tip, 1, 2⟩ ∧
      ((broken7 .revertHold true).line 7).call.caller.bind ((broken7 .revertHold true).line 7).party =
        some ⟨4, .ring, 0, 1⟩ ∧
      (broken7 .revertHold true).search (newAssignment .revert ⟨.tip, 1, 3⟩ (some ⟨.ring, 0, 20⟩) 20 0) =
        some (1, .a) ∧
      State.search { broken7 .revertCheck false with
        busA := { State.reset.busA with status := .faulted }, busB := { State.reset.busB with status := .faulted } }
        (newAssignment .revert ⟨.tip, 1, 3⟩ none 20 0) = none := by decide +kernel

theorem witness_CallTimersParkOrGiveBack :
    (in7 .originating fun x => { x with call := { x.call with permanentSignal := some 40000 } }).callState 7 =
        .originating ∧
      ((in7 .originating fun x => { x with call := { x.call with permanentSignal := some 40000 } }).line
        7).call.permanentSignal ≠ none ∧
      (revert7 .revertHold true fun x => { x with call := { x.call with revertHold := some 30000 } }).callState 7 =
        .revertHold ∧
      ((revert7 .revertHold true fun x => { x with call := { x.call with revertHold := some 30000 } }).line
        7).call.revertHold ≠ none := by decide +kernel

theorem witness_TestRequestsAndTicks :
    16 ≤ (16 : Byte).toNat ∧ State.reset.callState 7 ≠ .idle ∧ idle7.callState 7 = .idle ∧
      idle7.hasHostTest 7 = false ∧ (testing7 id).hasHostTest 7 = true ∧ (testing7 id).callState 7 = .idle ∧
      (testing7 id).msu.running.isSome = true := by decide +kernel

/-- Line 7 idle with the backlog at `n` and nothing on the head. -/
def backlog7 (n : Nat) (jobs : List JobEntry) : State :=
  { idle7 with msu := { idle7.msu with backlog := n, jobs := jobs } }

theorem witness_ArbiterStartsTheHighestRankedJob :
    State.reset.msu.running = none ∧ State.reset.runnableJobs = [] ∧ (backlog7 1 []).msu.running = none ∧
      (backlog7 1 []).runnableJobs = [(6, 7, .insulation)] ∧
      (backlog7 0 [⟨7, .hostTest, 0⟩]).runnableJobs = [(5, 7, .hostTest)] := by decide +kernel

/-- RESTART takes line 7's test off the head and starts another there in its place. -/
theorem witness_EndedJobsAreNotFound :
    (∀ q ∈ (testing7 id).msu.running, q.number < (testing7 id).msu.startCount) ∧
      (testing7 id).msu.running = some ⟨7, .hostTest, 300, 0⟩ ∧
      (after (.restart true) (testing7 id)).msu.running = some ⟨7, .insulation, 300, 1⟩ := by decide +kernel

theorem witness_ResultsFollowTheBands :
    ([40, 69, 131, 149, 261, 299, 521].all fun g => decide ((40 ≤ g ∧ g ≤ 69) ∨ (131 ≤ g ∧ g ≤ 149) ∨
        (261 ≤ g ∧ g ≤ 299) ∨ 521 ≤ g)) = true ∧
      NoElement 0 ∧ NoElement 39 ∧ InClass 1 300 ∧ InClass 1 520 ∧ InClass 2 150 ∧ InClass 2 260 ∧ InClass 3 70 ∧
      InClass 3 130 := by unfold NoElement InClass; decide

theorem witness_OriginIdReportsTheOrigination :
    identifying7.msu.running = some ⟨7, .originId, 120, 0⟩ ∧
      ((running ⟨7, .originId, 120, 0⟩ [⟨7, .originId, 4⟩] (in7 .originating fun x => { x with
        dial := { x.dial with markerOwed := true } })).line 7).dial.markerOwed = true := by decide +kernel

/-- `checking7` with both parties on one side. -/
def sharedSide7 : State := checking7.modLine 7 fun x => { x with call := { x.call with caller := some 5 } }

theorem witness_AnswerSideDecidesWhoAnswered :
    checking7.msu.running = some ⟨7, .answerSide, 80, 0⟩ ∧
      (checking7.line 7).call.called.bind (checking7.line 7).party = some ⟨1, .tip, 1, 2⟩ ∧
      (checking7.line 7).call.caller.bind (checking7.line 7).party = some ⟨4, .ring, 0, 1⟩ ∧
      (sharedSide7.line 7).call.caller.bind (sharedSide7.line 7).party = some ⟨5, .tip, 3, 3⟩ ∧
      sideResult ⟨70, 69⟩ = some .tip ∧ sideResult ⟨69, 70⟩ = some .ring ∧ sideResult ⟨70, 70⟩ = none ∧
      (checking7.line 7).record.earlyPickups < 2 ∧
      2 ≤ ((checking7.modLine 7 fun x =>
        { x with record := { x.record with earlyPickups := 2 } }).line 7).record.earlyPickups := by decide +kernel

theorem witness_TestCompletionEvaluatesTheLine :
    (testing7 id).msu.running = some ⟨7, .hostTest, 300, 0⟩ ∧
      (running ⟨7, .insulation, 300, 0⟩ [] idle7).msu.running = some ⟨7, .insulation, 300, 0⟩ ∧
      (testing7 id).params.faultLimit ≤ 100 ∧ 99 < (testing7 id).params.faultLimit ∧
      (faulted7 .idle).params.faultLimit - 10 ≤ 90 ∧ 89 < (faulted7 .idle).params.faultLimit - 10 ∧
      (testing7 id).params.degradeLimit ≤ 20 ∧ (testing7 id).params.degradeLimit - 5 ≤ 15 ∧
      14 < (testing7 id).params.degradeLimit - 5 ∧ (testing7 id).callState 7 ≠ .unequipped ∧
      (testing7 id).reports.enables.lineCondition = true := by decide +kernel

theorem witness_CancelEndsTheRing :
    16 ≤ (16 : Byte).toNat ∧ idle7.callState 7 ∉ [.ringing, .revertHold, .revertRinging, .revertCheck] ∧
      (ringing7 id).callState 7 = .ringing ∧
      (revert7 .revertRinging true id).callState 7 = .revertRinging ∧
      (revert7 .revertHold true id).callState 7 = .revertHold ∧ checking7.callState 7 = .revertCheck ∧
      ((ringing7 fun x => { x with relay := ringTip }).line 7).placedBus.isSome = true ∧
      ((ringing7 fun x => { x with relay := ringTip }).line 7).relay.phase = .ring := by decide +kernel

theorem witness_ConnectAndReleaseLeaveOriginating :
    16 ≤ (16 : Byte).toNat ∧ idle7.callState 7 ≠ .originating ∧ idle7.callState 7 ≠ .connected ∧
      (in7 .originating id).callState 7 = .originating ∧ (in7 .connected id).callState 7 = .connected := by
  decide +kernel

theorem witness_RevertHoldsTheLine :
    (in7 .originating id).callState 7 = .originating ∧ ((in7 .originating id).line 7).record.condition ≠ .faulted ∧
      ((in7 .originating id).line 7).party 1 = some ⟨1, .tip, 1, 2⟩ ∧
      ((in7 .originating id).line 7).party 4 = some ⟨4, .ring, 0, 1⟩ ∧
      ((in7 .originating id).line 7).record.loads.get .tip ≤ ((in7 .originating id).bus .a).budget ∧
      ((in7 .originating id).line 7).record.loads.get .ring ≤ ((in7 .originating id).bus .a).budget := by
  decide +kernel

theorem witness_PollServesTheOldestReports : ReportLaw lawful := lawful_reports

theorem witness_SetParametersClampsAndStores :
    ParamLaw lawful.params ∧ (0x1FFF : DByte).getLsbD 12 = true ∧ (0 : DByte).getLsbD 0 = false :=
  ⟨lawful_health.params, by decide, by decide⟩

/-- The clause on a change of Tmax: raised to 200, it unpins line 7's TIP side, whose threshold was held to 140. -/
theorem witness_SetParametersClampsAndStores_tmax :
    (after (.setParameters 0x10 (Vector.replicate 13 200)) pinned7).params.tmax ≠ pinned7.params.tmax ∧
      ((after (.setParameters 0x10 (Vector.replicate 13 200)) pinned7).line 7).record.condition ≠
        (pinned7.line 7).record.condition := by decide +kernel

theorem witness_RestartEndsEveryCall : WaitingLaw lawful ∧ LoadLaw lawful := ⟨lawful_waiting, lawful_loads⟩

end Sys2Proof.Tests
end

section
/-! PROOFS. What the line table's commands use of the operand bytes, the removal of an assignment, the abort of a
line's jobs, the emptying of its digit queue and the arbiter. -/

namespace Sys2Proof.Machine

/-! ### Line numbers as operands -/

@[simp] theorem readLineId_lineByte (l : LineId) : readLineId (lineByte l) = some l := by
  have hb : (lineByte l).toNat = l.val := by
    have := l.isLt
    simp only [lineByte, byteOf, BitVec.toNat_ofNat]
    omega
  simp [readLineId, hb]

theorem readLineId_of_ge {b : Byte} (h : 16 ≤ b.toNat) : readLineId b = none := by
  simp [readLineId, h]

/-! ### What the line table and the planner's removal never write -/

/-- The items of the state that no removal, abort, emptying or arbitration writes: the code table and the slot counter,
the created-order and placed-order counts, the parameters, the link and the queue of commands. -/
structure FixedKept (s u : State) : Prop where
  codes : u.codes = s.codes
  slot : u.slot = s.slot
  createdCount : u.createdCount = s.createdCount
  placedCount : u.placedCount = s.placedCount
  params : u.params = s.params
  link : u.link = s.link
  pending : u.pending = s.pending

theorem FixedKept.trans {s t u : State} (h : FixedKept s t) (k : FixedKept t u) : FixedKept s u where
  codes := k.codes.trans h.codes
  slot := k.slot.trans h.slot
  createdCount := k.createdCount.trans h.createdCount
  placedCount := k.placedCount.trans h.placedCount
  params := k.params.trans h.params
  link := k.link.trans h.link
  pending := k.pending.trans h.pending

theorem FixedKept.eq {s u : State} (h : FixedKept s u) :
    u = { s with lines := u.lines, busA := u.busA, busB := u.busB, waiting := u.waiting, msu := u.msu
                 reports := u.reports } := by
  obtain ⟨hcodes, hslot, hcreated, hplaced, hparams, hlink, hpending⟩ := h
  rw [← hcodes, ← hslot, ← hcreated, ← hplaced, ← hparams, ← hlink, ← hpending]

theorem State.modLine_fixedKept (s : State) (l : LineId) (f : Line → Line) : FixedKept s (s.modLine l f) :=
  ⟨rfl, rfl, rfl, rfl, rfl, rfl, rfl⟩

theorem OthersKept.trans {l : LineId} {s t u : State} (h : OthersKept l s t) (k : OthersKept l t u) :
    OthersKept l s u := fun m hm => (k m hm).trans (h m hm)

theorem State.modLine_othersKept (s : State) (l : LineId) (f : Line → Line) : OthersKept l s (s.modLine l f) :=
  fun m hm => s.modLine_line_ne l m f hm

/-! ### The removal of an assignment (R47) -/

theorem State.removeAssignment_of_none {s : State} {l : LineId} (c : CutCause) (h : (s.line l).asg = none) :
    s.removeAssignment l c = s := by simp [State.removeAssignment, h]

theorem State.removeAssignment_of_waiting {s : State} {l : LineId} {a : Assignment} (c : CutCause)
    (h : (s.line l).asg = some a) (hp : a.placement = .waiting) :
    s.removeAssignment l c =
      (({ s with waiting := s.waiting.filter (· ≠ l) }.setAsg l none).modDet l DetectorRecord.dropVerify) := by
  simp [State.removeAssignment, h, hp]

theorem State.removeAssignment_of_placed {s : State} {l : LineId} {a : Assignment} {bus : Bus} {o : Slot} {n : Nat}
    (c : CutCause) (h : (s.line l).asg = some a) (hp : a.placement = .placed bus o n) :
    s.removeAssignment l c =
      ((((s.subtractLoads a bus o).earlyQuench l c).setAsg l none).modDet l DetectorRecord.dropVerify) := by
  simp [State.removeAssignment, h, hp]

/-- A removal writes the lines, the buses and the waiting list, and nothing else. -/
theorem State.removeAssignment_eq (s : State) (l : LineId) (c : CutCause) :
    s.removeAssignment l c = { s with
      lines := (s.removeAssignment l c).lines
      busA := (s.removeAssignment l c).busA
      busB := (s.removeAssignment l c).busB
      waiting := (s.removeAssignment l c).waiting } := by
  cases ha : (s.line l).asg with
  | none => rw [State.removeAssignment_of_none c ha]
  | some a =>
    cases hp : a.placement with
    | waiting => rw [State.removeAssignment_of_waiting c ha hp]; rfl
    | placed bus o n => rw [State.removeAssignment_of_placed c ha hp]; cases bus <;> rfl

@[simp] theorem State.removeAssignment_msu (s : State) (l : LineId) (c : CutCause) :
    (s.removeAssignment l c).msu = s.msu := by rw [State.removeAssignment_eq]
@[simp] theorem State.removeAssignment_reports (s : State) (l : LineId) (c : CutCause) :
    (s.removeAssignment l c).reports = s.reports := by rw [State.removeAssignment_eq]

theorem State.removeAssignment_fixedKept (s : State) (l : LineId) (c : CutCause) :
    FixedKept s (s.removeAssignment l c) := by
  rw [State.removeAssignment_eq]; exact ⟨rfl, rfl, rfl, rfl, rfl, rfl, rfl⟩

theorem State.removeAssignment_othersKept (s : State) (l : LineId) (c : CutCause) :
    OthersKept l s (s.removeAssignment l c) := by
  by_cases ha : (s.line l).asg = none
  · rw [State.removeAssignment_of_none c ha]; exact fun _ _ => rfl
  · obtain ⟨-, -, -, -, -, -, -, hothers⟩ := s.removeAssignment_spec l c ha
    exact hothers

theorem State.removeAssignment_line_of_waiting {s : State} {l : LineId} {a : Assignment} (c : CutCause)
    (h : (s.line l).asg = some a) (hp : a.placement = .waiting) :
    (s.removeAssignment l c).line l =
      { s.line l with asg := none, det := (s.line l).det.dropVerify } := by
  rw [State.removeAssignment_of_waiting c h hp, State.modDet_line_self, State.setAsg_line_self]; rfl

theorem State.removeAssignment_line_of_placed {s : State} {l : LineId} {a : Assignment} {bus : Bus} {o : Slot}
    {n : Nat} (c : CutCause) (h : (s.line l).asg = some a) (hp : a.placement = .placed bus o n) :
    (s.removeAssignment l c).line l =
      { (s.line l).earlyQuench c with asg := none, det := ((s.line l).earlyQuench c).det.dropVerify } := by
  rw [State.removeAssignment_of_placed c h hp, State.modDet_line_self, State.setAsg_line_self,
    State.earlyQuench_line_self, State.subtractLoads, State.modBus_line]

/-- A removal leaves the line with no assignment, and writes nothing else of it but its relays and its detector. -/
theorem State.removeAssignment_line_eq (s : State) (l : LineId) (c : CutCause) :
    (s.removeAssignment l c).line l = { s.line l with
      asg := none
      relay := ((s.removeAssignment l c).line l).relay
      det := ((s.removeAssignment l c).line l).det } := by
  cases ha : (s.line l).asg with
  | none => rw [State.removeAssignment_of_none c ha, ← ha]
  | some a =>
    cases hp : a.placement with
    | waiting => rw [State.removeAssignment_line_of_waiting c ha hp]
    | placed bus o n =>
      rw [State.removeAssignment_line_of_placed c ha hp]
      rcases Line.earlyQuench_cases c (s.line l) with ⟨_, e⟩ | ⟨_, e⟩ | ⟨_, e⟩ <;> rw [e]

/-- A line whose relays ring nothing keeps its relay record when its assignment is removed (R64). -/
theorem State.removeAssignment_relay_of_undriven {s : State} {l : LineId} (c : CutCause)
    (h : (s.line l).relay.phase = .silent ∨ (s.line l).relay.phase = .quench) :
    ((s.removeAssignment l c).line l).relay = (s.line l).relay := by
  cases ha : (s.line l).asg with
  | none => rw [State.removeAssignment_of_none c ha]
  | some a =>
    cases hp : a.placement with
    | waiting => rw [State.removeAssignment_line_of_waiting c ha hp]
    | placed bus o n =>
      rw [State.removeAssignment_line_of_placed c ha hp]
      rcases Line.earlyQuench_cases c (s.line l) with ⟨g, -⟩ | ⟨g, -⟩ | ⟨-, e⟩
      · simp [g] at h
      · simp [g] at h
      · rw [e]

/-- A burst of a placed assignment is cut short when the assignment is removed (R47, R64). -/
theorem State.removeAssignment_relay_of_driven {s : State} {l : LineId} (c : CutCause)
    (hb : (s.line l).placedBus.isSome = true)
    (h : (s.line l).relay.phase = .arm ∨ (s.line l).relay.phase = .ring) :
    ((s.removeAssignment l c).line l).relay =
      { (s.line l).relay with phase := .quench, quenchKind := some .early, timer := some 30 } := by
  cases ha : (s.line l).asg with
  | none => simp [Line.placedBus, ha] at hb
  | some a =>
    cases hp : a.placement with
    | waiting => simp [Line.placedBus, ha, hp] at hb
    | placed bus o n =>
      rw [State.removeAssignment_line_of_placed c ha hp]
      rcases Line.earlyQuench_cases c (s.line l) with ⟨-, e⟩ | ⟨-, e⟩ | ⟨g, -⟩
      · rw [e]
      · rw [e]
      · rcases h with h | h <;> simp [h] at g

/-! ### The abort of a line's jobs (R113) -/

theorem State.queueReport_othersKept (s : State) (l : LineId) (r : Report) : OthersKept l s (s.queueReport r) :=
  fun m _ => s.queueReport_line r m

@[simp] theorem State.abortJobs_line (s : State) (l m : LineId) : (s.abortJobs l).line m = s.line m := by
  rw [State.abortJobs_eq]; rfl
@[simp] theorem State.abortJobs_msu (s : State) (l : LineId) : (s.abortJobs l).msu = s.msu.dropJobs l := by
  rw [State.abortJobs_eq]

/-- An aborted HOST_TEST has its report in the queue. -/
theorem State.abortJobs_queue (s : State) (l : LineId) :
    (s.abortJobs l).reports.queue =
      if s.hasHostTest l then queueWith s.reports.queue (.testResult l none) else s.reports.queue := by
  rw [State.abortJobs_eq, State.queueReport_eq]
  split <;> rfl

theorem State.abortJobs_othersKept (s : State) (l : LineId) : OthersKept l s (s.abortJobs l) :=
  fun m _ => s.abortJobs_line l m

theorem State.abortJobs_fixedKept (s : State) (l : LineId) : FixedKept s (s.abortJobs l) := by
  rw [State.abortJobs_eq]; exact ⟨rfl, rfl, rfl, rfl, rfl, rfl, rfl⟩

theorem MeasurementUnit.dropJobs_head {m : MeasurementUnit} {l : LineId} :
    ∀ r ∈ (m.dropJobs l).running, r.line ≠ l := by
  intro r hr
  have h : r ∈ m.running.filter (·.line ≠ l) := hr
  simp only [Option.mem_filter_iff, decide_eq_true_eq] at h
  exact h.2

/-! ### The emptying of a digit queue (R106) -/

/-- An emptied digit queue takes the collection with it, its timers and the make timer among them (R105, R106). -/
theorem State.emptyDigits_line (s : State) (l : LineId) :
    (s.emptyDigits l).line l = { s.line l with
      dial := { (s.line l).dial with
        collection := .off, pulseCount := 0, interdigit := none, digits := [], errors := ⟨false, false, false⟩
        complete := false, markerOwed := false }
      scan := { (s.line l).scan with makeTimer := none } } := by
  simp [State.emptyDigits, State.endCollection]

theorem State.emptyDigits_othersKept (s : State) (l : LineId) : OthersKept l s (s.emptyDigits l) := by
  intro m hm
  rw [State.emptyDigits, State.modDial_line_ne _ _ _ _ hm, State.endCollection, State.modLine_line_ne _ _ _ _ hm,
    State.removeMarker_line]

@[simp] theorem State.emptyDigits_msu (s : State) (l : LineId) : (s.emptyDigits l).msu = s.msu := rfl
@[simp] theorem State.emptyDigits_queue (s : State) (l : LineId) :
    (s.emptyDigits l).reports.queue = s.reports.queue.filter (· ≠ .digits l) := rfl

theorem State.emptyDigits_fixedKept (s : State) (l : LineId) : FixedKept s (s.emptyDigits l) :=
  ⟨rfl, rfl, rfl, rfl, rfl, rfl, rfl⟩

/-! ### The arbiter (R117) -/

theorem mem_insertBy {α : Type} (key : α → Nat) (x y : α) (xs : List α) :
    y ∈ insertBy key x xs ↔ y = x ∨ y ∈ xs := by
  induction xs with
  | nil => simp [insertBy]
  | cons z zs ih =>
    unfold insertBy
    split
    · simp
    · simp only [List.mem_cons, ih]; tauto

theorem mem_foldl_insertBy {α : Type} (key : α → Nat) (y : α) (xs acc : List α) :
    y ∈ xs.foldl (fun acc x => insertBy key x acc) acc ↔ y ∈ acc ∨ y ∈ xs := by
  induction xs generalizing acc with
  | nil => simp
  | cons x xs ih => simp only [List.foldl_cons, ih, mem_insertBy, List.mem_cons]; tauto

@[simp] theorem mem_sortBy {α : Type} (key : α → Nat) (y : α) (xs : List α) : y ∈ sortBy key xs ↔ y ∈ xs := by
  simp [sortBy, mem_foldl_insertBy]

/-- An entry the arbiter chooses stands in the job list. -/
theorem State.entryChoice_line {s : State} {k : JobKind} {p : LineId × JobKind} (h : s.entryChoice k = some p) :
    ∃ j ∈ s.msu.jobs, j.line = p.1 := by
  obtain ⟨j, hj, rfl⟩ := Option.map_eq_some_iff.1 h
  exact ⟨j, (mem_sortBy _ _ _).1 (List.mem_of_find?_eq_some hj), rfl⟩

/-- An insulation job is chosen for an IDLE line (R112). -/
theorem State.insulationChoice_line {s : State} {u : Urgency} {p : LineId × JobKind}
    (h : s.insulationChoice u = some p) : s.callState p.1 = .idle := by
  unfold State.insulationChoice at h
  split at h
  · obtain ⟨l, hl, rfl⟩ := Option.map_eq_some_iff.1 h
    have he : s.insulationEligible l = true := List.find?_some hl
    simp only [State.insulationEligible, Bool.and_eq_true, decide_eq_true_eq] at he
    exact he.1.1
  · simp at h

/-- A chosen job's line has an entry in the job list or is IDLE. -/
theorem State.chooseJob_line {s : State} {p : LineId × JobKind} (h : s.chooseJob = some p) :
    (∃ j ∈ s.msu.jobs, j.line = p.1) ∨ s.callState p.1 = .idle := by
  simp only [State.chooseJob, Option.or_eq_some_iff] at h
  rcases h with h | ⟨-, h | ⟨-, h | ⟨-, h | ⟨-, h | ⟨-, h⟩⟩⟩⟩⟩
  · exact .inl (State.entryChoice_line h)
  · exact .inr (State.insulationChoice_line h)
  · exact .inl (State.entryChoice_line h)
  · exact .inr (State.insulationChoice_line h)
  · exact .inl (State.entryChoice_line h)
  · exact .inr (State.insulationChoice_line h)

/-- The arbiter starts no job on a line that is not IDLE and has no entry in the job list. -/
theorem State.arbitrate_head_ne {s : State} {l : LineId} (hhead : ∀ r ∈ s.msu.running, r.line ≠ l)
    (hjobs : ∀ j ∈ s.msu.jobs, j.line ≠ l) (hidle : s.callState l ≠ .idle) :
    ∀ r ∈ s.arbitrate.msu.running, r.line ≠ l := by
  rcases s.arbitrate_cases with e | ⟨m, k, -, hc, e⟩
  · rwa [e]
  · rw [e]
    rintro r hr rfl
    have hrm : r.line = m := by rw [← Option.some.inj hr]
    rcases State.chooseJob_line hc with ⟨j, hj, hm⟩ | hm
    · exact hjobs j hj (hm.trans hrm.symm)
    · exact hidle (hrm ▸ hm)

theorem State.arbitrate_fixedKept (s : State) : FixedKept s s.arbitrate := by
  rw [State.arbitrate_eq]; exact ⟨rfl, rfl, rfl, rfl, rfl, rfl, rfl⟩

theorem State.arbitrate_othersKept (s : State) (l : LineId) : OthersKept l s s.arbitrate :=
  fun m _ => s.arbitrate_line m

end Sys2Proof.Machine
end

section
/-! PROOFS. BLOCK and UNBLOCK (R13, R14, R15), assembled from what each operation in them does. -/

namespace Sys2Proof.Machine

/-! ### The two commands' answers -/

theorem exec_block (line : Byte) (s : State) : exec (.block line) s = .next (reply 0x91 (blockAnswer line s)) := rfl

theorem exec_unblock (line : Byte) (s : State) :
    exec (.unblock line) s = .next (reply 0x92 (unblockAnswer line s)) := rfl

theorem blockAnswer_of_ge {line : Byte} (s : State) (h : 16 ≤ line.toNat) :
    blockAnswer line s = ⟨s, .badField, []⟩ := by
  simp [blockAnswer, readLineId_of_ge h, refuse]

theorem blockAnswer_of_unequipped {l : LineId} {s : State} (h : s.callState l = .unequipped) :
    blockAnswer (lineByte l) s = ⟨s, .lineState, []⟩ := by
  simp [blockAnswer, h, refuse]

theorem blockAnswer_of_equipped {l : LineId} {s : State} (h : s.callState l ≠ .unequipped) :
    blockAnswer (lineByte l) s = ⟨blockAccepted l s, .ok, [(s.callState l).byte]⟩ := by
  simp [blockAnswer, h]

theorem unblockAnswer_of_ge {line : Byte} (s : State) (h : 16 ≤ line.toNat) :
    unblockAnswer line s = ⟨s, .badField, []⟩ := by
  simp [unblockAnswer, readLineId_of_ge h, refuse]

theorem unblockAnswer_of_not_blocked {l : LineId} {s : State} (h : s.callState l ≠ .blocked) :
    unblockAnswer (lineByte l) s = ⟨s, .lineState, []⟩ := by
  simp [unblockAnswer, h, refuse]

theorem unblockAnswer_of_blocked {l : LineId} {s : State} (h : s.callState l = .blocked) :
    unblockAnswer (lineByte l) s =
      ⟨unblockAccepted l s, .ok, [((unblockAccepted l s).callState l).byte]⟩ := by
  simp [unblockAnswer, h]

/-! ### BLOCK accepted (R13) -/

/-- A line taken out of service, before the arbiter is asked: its assignment removed, its jobs aborted, its digit queue
emptied and its call record cleared (R13). -/
def State.outOfService (s : State) (l : LineId) : State :=
  ((((s.removeAssignment l .removal).abortJobs l).emptyDigits l).modCall l CallRecord.blocked).setCallState l .blocked

theorem blockAccepted_of_blocked {l : LineId} {s : State} (h : s.callState l = .blocked) : blockAccepted l s = s :=
  if_pos h

theorem blockAccepted_eq {l : LineId} {s : State} (h : s.callState l ≠ .blocked) :
    blockAccepted l s = (s.outOfService l).arbitrate := if_neg h

/-- What is left of a line taken out of service: its relays and detector as the removal left them, its configuration,
condition and trip history as they were. -/
theorem State.outOfService_line (s : State) (l : LineId) :
    (s.outOfService l).line l = { s.line l with
      record := { (s.line l).record with callState := .blocked }
      asg := none
      relay := ((s.removeAssignment l .removal).line l).relay
      det := ((s.removeAssignment l .removal).line l).det
      dial := { (s.line l).dial with
        collection := .off, pulseCount := 0, interdigit := none, digits := [], errors := ⟨false, false, false⟩
        complete := false, markerOwed := false }
      scan := { (s.line l).scan with makeTimer := none }
      call := ⟨none, false, none, none, none, false, none⟩ } := by
  rw [State.outOfService, State.setCallState_line_self, Line.enter_plain .blocked _ nofun nofun nofun,
    State.modCall_line_self, State.emptyDigits_line, State.abortJobs_line, State.removeAssignment_line_eq]
  rfl

theorem State.outOfService_msu (s : State) (l : LineId) : (s.outOfService l).msu = s.msu.dropJobs l := by
  simp [State.outOfService]

theorem State.outOfService_queue (s : State) (l : LineId) :
    (s.outOfService l).reports.queue =
      (if s.hasHostTest l then queueWith s.reports.queue (.testResult l none) else s.reports.queue).filter
        (· ≠ .digits l) := by
  simp [State.outOfService, State.abortJobs_queue, State.hasHostTest]

theorem State.outOfService_othersKept (s : State) (l : LineId) : OthersKept l s (s.outOfService l) :=
  ((s.removeAssignment_othersKept l .removal).trans (State.abortJobs_othersKept _ l)).trans <|
    (State.emptyDigits_othersKept _ l).trans <|
      (State.modLine_othersKept _ l _).trans (State.modLine_othersKept _ l _)

theorem State.outOfService_fixedKept (s : State) (l : LineId) : FixedKept s (s.outOfService l) :=
  ((s.removeAssignment_fixedKept l .removal).trans (State.abortJobs_fixedKept _ l)).trans <|
    (State.emptyDigits_fixedKept _ l).trans <|
      (State.modLine_fixedKept _ l _).trans (State.modLine_fixedKept _ l _)

theorem blockAccepted_line {l : LineId} {s : State} (h : s.callState l ≠ .blocked) :
    (blockAccepted l s).line l = (s.outOfService l).line l := by
  rw [blockAccepted_eq h, State.arbitrate_line]

theorem blockAccepted_queue {l : LineId} {s : State} (h : s.callState l ≠ .blocked) :
    (blockAccepted l s).reports.queue =
      (if s.hasHostTest l then queueWith s.reports.queue (.testResult l none) else s.reports.queue).filter
        (· ≠ .digits l) := by
  rw [blockAccepted_eq h, State.arbitrate_reports, State.outOfService_queue]

theorem blockAccepted_othersKept {l : LineId} {s : State} (h : s.callState l ≠ .blocked) :
    OthersKept l s (blockAccepted l s) := by
  rw [blockAccepted_eq h]
  exact (s.outOfService_othersKept l).trans (State.arbitrate_othersKept _ l)

theorem blockAccepted_fixedKept {l : LineId} {s : State} (h : s.callState l ≠ .blocked) :
    FixedKept s (blockAccepted l s) := by
  rw [blockAccepted_eq h]
  exact (s.outOfService_fixedKept l).trans (State.arbitrate_fixedKept _)

/-- BLOCK takes the line's jobs off the unit, and the arbiter asked afterwards starts none on it: the line is not IDLE
any more and has no entry left. -/
theorem blockAccepted_jobsDropped {l : LineId} {s : State} (h : s.callState l ≠ .blocked) :
    JobsDropped l s (blockAccepted l s) := by
  have hjobs : (s.outOfService l).msu.jobs = s.msu.jobs.filter fun j => j.line ≠ l := by
    rw [State.outOfService_msu]; rfl
  have hblocked : (s.outOfService l).callState l = .blocked := State.setCallState_callState _ _ _
  rw [blockAccepted_eq h]
  constructor
  · rw [State.arbitrate_jobs, hjobs]
  · refine State.arbitrate_head_ne ?_ ?_ ?_
    · rw [State.outOfService_msu]; exact MeasurementUnit.dropJobs_head
    · rw [hjobs]; intro j hj; simpa using (List.mem_filter.1 hj).2
    · simp [hblocked]
  · rw [State.arbitrate_eq, State.outOfService_msu]; exact ⟨rfl, rfl⟩

/-! ### UNBLOCK accepted (R15) -/

/-- On an open loop UNBLOCK makes the line IDLE, with no closed-hold timer to start (R96). -/
theorem unblockAccepted_of_open {l : LineId} {s : State} (h : (s.line l).scan.closed = false) :
    unblockAccepted l s =
      (s.modRecord l fun r => { r with callState := .idle }).arbitrate := by
  have henter : (s.line l).enter .idle = { s.line l with record := { (s.line l).record with callState := .idle } } :=
    if_neg (by simp [h])
  simp [unblockAccepted, idleOrParked, h, State.setCallState, State.modRecord, State.modLine, henter]

/-- On a closed loop UNBLOCK makes the line PARKED, and its report falls due. -/
theorem unblockAccepted_of_closed {l : LineId} {s : State} (h : (s.line l).scan.closed = true) :
    unblockAccepted l s =
      ((s.modRecord l fun r => { r with callState := .parked }).queueReport (.parked l)).arbitrate := by
  have henter := Line.enter_plain .parked (s.line l) nofun nofun nofun
  simp [unblockAccepted, idleOrParked, h, State.setCallState, State.modRecord, State.modLine, henter]

/-! ### The statement -/

/-- Settles O20. BLOCK's clauses are those of `State.outOfService` carried over the arbiter; UNBLOCK's follow from the
two forms of `unblockAccepted`, by the loop state the scanner holds. -/
theorem blockAndUnblock : Obligations.BlockAndUnblock := by
  unfold Obligations.BlockAndUnblock
  refine ⟨fun l line s => ⟨fun h => ?badLine, fun h => ?unequipped, fun h => ?again, fun hu hb => ?blocks⟩,
    fun l line s => ⟨fun h => ?badLine', fun h => ?notBlocked, fun hb ho => ?opens, fun hb hc => ?closes⟩⟩
  case badLine => rw [exec_block, blockAnswer_of_ge s h]
  case unequipped => rw [exec_block, blockAnswer_of_unequipped h]
  case again => rw [exec_block, blockAnswer_of_equipped (by simp [h]), blockAccepted_of_blocked h, h]; rfl
  case blocks =>
    refine ⟨blockAccepted l s, by rw [exec_block, blockAnswer_of_equipped hu], ?_⟩
    rw [blockAccepted_line hb, State.outOfService_line]
    exact ⟨rfl, rfl, rfl, rfl, rfl, rfl, rfl, State.removeAssignment_relay_of_undriven .removal,
      State.removeAssignment_relay_of_driven .removal, blockAccepted_queue hb, blockAccepted_jobsDropped hb,
      blockAccepted_othersKept hb, (blockAccepted_fixedKept hb).eq⟩
  case badLine' => rw [exec_unblock, unblockAnswer_of_ge s h]
  case notBlocked => rw [exec_unblock, unblockAnswer_of_not_blocked h]
  case opens =>
    have he := unblockAccepted_of_open ho
    have hline : (unblockAccepted l s).line l =
        { s.line l with record := { (s.line l).record with callState := .idle } } := by
      rw [he, State.arbitrate_line, State.modRecord_line_self]
    refine ⟨unblockAccepted l s, ?_, hline, ?_, ?_⟩
    · rw [exec_unblock, unblockAnswer_of_blocked hb, State.callState, hline]; rfl
    · rw [he]; exact (State.modLine_othersKept s l _).trans (State.arbitrate_othersKept _ l)
    · rw [he, State.arbitrate_eq]; rfl
  case closes =>
    have he := unblockAccepted_of_closed hc
    have hline : (unblockAccepted l s).line l =
        { s.line l with record := { (s.line l).record with callState := .parked } } := by
      rw [he, State.arbitrate_line, State.queueReport_line, State.modRecord_line_self]
    refine ⟨unblockAccepted l s, ?_, hline, ?_, ?_, ?_⟩
    · rw [exec_unblock, unblockAnswer_of_blocked hb, State.callState, hline]; rfl
    · rw [he, State.arbitrate_reports, State.queueReport_eq]; rfl
    · rw [he]
      exact ((State.modLine_othersKept s l _).trans (State.queueReport_othersKept _ l _)).trans
        (State.arbitrate_othersKept _ l)
    · rw [he, State.arbitrate_eq, State.queueReport_eq]; rfl

end Sys2Proof.Machine
end

section
/-! PROOFS. POWER_ON and the values every block's records have after it (R17, R20, R24, R55, R70, R90, R108, R128, R146,
R160, R172, R175, R176, R178). -/

namespace Sys2Proof.Machine

/-! ### The command -/

theorem exec_powerOn (address : BitVec 5) (rate : BitVec 2) (goodA goodB : Bool) (s : State) :
    exec (.powerOn address rate goodA goodB) s = .next (powerOnStep address rate goodA goodB s) := rfl

/-! ### What a power-on record reads as -/

theorem PerSide.get_mk_self {α : Type} (x : α) (sd : Side) : (PerSide.mk x x).get sd = x := by cases sd <;> rfl

@[simp] theorem State.powerOn_line (address : BitVec 5) (rate : BitVec 2) (goodA goodB : Bool) (l : LineId) :
    (State.powerOn address rate goodA goodB).line l = .powerOn := by
  show (Vector.replicate 16 Line.powerOn)[l.val] = _
  exact Vector.getElem_replicate _

@[simp] theorem powerOnStep_line (address : BitVec 5) (rate : BitVec 2) (goodA goodB : Bool) (s : State)
    (l : LineId) : (powerOnStep address rate goodA goodB s).line l = .powerOn :=
  State.powerOn_line address rate goodA goodB l

@[simp] theorem BusRecord.powerOn_loads_get (good : Bool) (g : Slot) : (BusRecord.powerOn good).loads.get g = 0 := by
  show (Vector.replicate 24 0)[g.val] = 0
  exact Vector.getElem_replicate _

/-- Each bus is at power-on as its own source-good input makes it, and the input reaches only the status and the item
that keeps it. -/
theorem powerOnStep_bus (address : BitVec 5) (rate : BitVec 2) (goodA goodB : Bool) (s : State) (bus : Bus) :
    ∃ good, (powerOnStep address rate goodA goodB s).bus bus = .powerOn good := by
  cases bus with
  | a => exact ⟨goodA, rfl⟩
  | b => exact ⟨goodB, rfl⟩

/-- A line's relays at power-on: SILENT, so no relay is driven (R70). -/
theorem RelayRecord.powerOn_undriven :
    RelayRecord.powerOn.feedClosed = false ∧ RelayRecord.powerOn.busSelect = none ∧
      ∀ sd, RelayRecord.powerOn.ringingRelay sd = false := ⟨rfl, rfl, fun _ => rfl⟩

/-! ### The statement -/

/-- Settles O10. The items of a line and of a bus follow from the record each of them has after POWER_ON; the others
are items of the state that `State.powerOn` writes once. -/
theorem powerOnValues : Obligations.PowerOnValues := by
  unfold Obligations.PowerOnValues
  intro address rate goodA goodB s
  refine ⟨_, exec_powerOn address rate goodA goodB s, ?_⟩
  simp only [powerOnStep_line]
  refine ⟨fun _ => rfl, fun _ => ⟨rfl, rfl, RelayRecord.powerOn_undriven⟩,
    fun _ => PerSide.get_mk_self SideRecord.powerOn, fun _ => rfl, fun _ => ⟨rfl, rfl, rfl, rfl, rfl, rfl, rfl⟩,
    fun _ => rfl, fun _ => rfl, fun _ => PerSide.get_mk_self 0, ?codes, rfl, rfl, ?buses, rfl, rfl, ?rest⟩
  case codes => rfl
  case buses =>
    intro bus
    obtain ⟨good, hbus⟩ := powerOnStep_bus address rate goodA goodB s bus
    rw [hbus]
    exact ⟨rfl, BusRecord.powerOn_loads_get good, rfl, rfl⟩
  case rest => exact ⟨rfl, rfl, rfl, rfl, rfl, rfl, rfl, rfl, rfl, rfl, rfl, rfl, rfl, rfl, rfl, rfl, rfl, rfl⟩

end Sys2Proof.Machine
end

section
/-! PROOFS. The trip detector's samples (R78 to R82): what each verdict on a sample leaves of its line, and the answer a
confirmed trip gives call control (R139, R153). -/

namespace Sys2Proof.Machine

/-- Early QUENCH of a burst in RING (R64). -/
theorem Line.earlyQuench_of_ring {x : Line} (c : CutCause) (h : x.relay.phase = .ring) :
    x.earlyQuench c = { x with
      relay := { x.relay with phase := .quench, quenchKind := some .early, timer := some 30 }
      det := x.det.cutShort c } := by
  rcases Line.earlyQuench_cases c x with ⟨g, -⟩ | ⟨-, e⟩ | ⟨g, -⟩
  · simp [h] at g
  · exact e
  · simp [h] at g

/-! ### What a removal and an answer leave of a line whose burst is over -/

/-- With the relays ringing nothing and no verify to drop, a removal takes the assignment and nothing else (R47). -/
theorem State.removeAssignment_line_of_undriven {s : State} {l : LineId} (c : CutCause)
    (hrelay : (s.line l).relay.phase = .silent ∨ (s.line l).relay.phase = .quench)
    (hdet : (s.line l).det.mode ≠ .verify) :
    (s.removeAssignment l c).line l = { s.line l with asg := none } := by
  have hdrop : (s.line l).det.dropVerify = (s.line l).det := if_neg hdet
  cases ha : (s.line l).asg with
  | none => rw [State.removeAssignment_of_none c ha, ← ha]
  | some a =>
    cases hp : a.placement with
    | waiting => rw [State.removeAssignment_line_of_waiting c ha hp, hdrop]
    | placed bus o n =>
      rw [State.removeAssignment_line_of_placed c ha hp]
      rcases Line.earlyQuench_cases c (s.line l) with ⟨g, -⟩ | ⟨g, -⟩ | ⟨-, e⟩
      · simp [g] at hrelay
      · simp [g] at hrelay
      · rw [e, hdrop]

theorem State.answer_of_ringing {s : State} {l : LineId} (source : AnswerSource) (side : Option Side)
    (h : s.callState l = .ringing) :
    s.answer l source side =
      (((s.removeAssignment l .removal).setCallState l .connected).queueReport
        (.answer l side source (s.line l).call.ringingParty)).modCall l fun c => { c with ringingParty := none } := by
  simp only [State.answer, h]

theorem State.answer_of_revertRinging {s : State} {l : LineId} (source : AnswerSource) (side : Option Side)
    (h : s.callState l = .revertRinging) :
    s.answer l source side =
      ((s.removeAssignment l .removal).setCallState l .revertCheck).requestJob l .answerSide := by
  simp only [State.answer, h]

theorem State.answer_of_not_rung {s : State} {l : LineId} (source : AnswerSource) (side : Option Side)
    (hringing : s.callState l ≠ .ringing) (hrevert : s.callState l ≠ .revertRinging) :
    s.answer l source side = s := by
  unfold State.answer
  split
  · exact absurd ‹_› hringing
  · exact absurd ‹_› hrevert
  · rfl

theorem State.answer_othersKept (s : State) (l : LineId) (source : AnswerSource) (side : Option Side) :
    OthersKept l s (s.answer l source side) := by
  have hremoved := s.removeAssignment_othersKept l .removal
  by_cases hringing : s.callState l = .ringing
  · rw [State.answer_of_ringing source side hringing]
    exact (hremoved.trans (State.modLine_othersKept _ l _)).trans <|
      (State.queueReport_othersKept _ l _).trans (State.modLine_othersKept _ l _)
  by_cases hrevert : s.callState l = .revertRinging
  · rw [State.answer_of_revertRinging source side hrevert]
    exact hremoved.trans (State.modLine_othersKept _ l _)
  · rw [State.answer_of_not_rung source side hringing hrevert]
    exact fun _ _ => rfl

section AnswerLine

variable {s : State} {l : LineId} (source : AnswerSource) (side : Option Side)
  (hrelay : (s.line l).relay.phase = .silent ∨ (s.line l).relay.phase = .quench)
  (hdet : (s.line l).det.mode ≠ .verify)

include hrelay hdet

/-- An answered PLAIN ring (R139): CONNECTED, with no assignment and no ringing party. -/
theorem State.answer_line_of_ringing (h : s.callState l = .ringing) :
    (s.answer l source side).line l = { s.line l with
      record := { (s.line l).record with callState := .connected }
      asg := none
      call := { (s.line l).call with ringingParty := none } } := by
  rw [State.answer_of_ringing source side h, State.modCall_line_self, State.queueReport_line,
    State.setCallState_line_self, State.removeAssignment_line_of_undriven .removal hrelay hdet,
    Line.enter_plain .connected _ nofun nofun nofun]

/-- An answered reverting ring (R153): REVERT_CHECK, with no assignment; its parties stand. -/
theorem State.answer_line_of_revertRinging (h : s.callState l = .revertRinging) :
    (s.answer l source side).line l = { s.line l with
      record := { (s.line l).record with callState := .revertCheck }
      asg := none } := by
  rw [State.answer_of_revertRinging source side h, State.requestJob_line, State.setCallState_line_self,
    State.removeAssignment_line_of_undriven .removal hrelay hdet, Line.enter_plain .revertCheck _ nofun nofun nofun]

/-- Whatever the call state, an answer outside a burst and a verify leaves the detector as it was. -/
theorem State.answer_det : ((s.answer l source side).line l).det = (s.line l).det := by
  by_cases hringing : s.callState l = .ringing
  · rw [State.answer_line_of_ringing source side hrelay hdet hringing]
  by_cases hrevert : s.callState l = .revertRinging
  · rw [State.answer_line_of_revertRinging source side hrelay hdet hrevert]
  · rw [State.answer_of_not_rung source side hringing hrevert]

end AnswerLine

/-! ### A sample by the mode it meets (R78, R79, R80) -/

theorem exec_tripSample_of_ring {l : LineId} {s : State} (current : Nat) (h : (s.line l).relay.phase = .ring) :
    exec (.tripSample l current) s = .next (judgeSample l (min 600 current) s) :=
  congrArg Host.Outcome.next (if_pos h)

theorem Line.threshold_of_side {x : Line} {sd : Side} (h : x.det.side = some sd) :
    x.threshold = (x.sides.get sd).threshold := by
  simp only [Line.threshold, h]

theorem DetectorRecord.verdict_trip {p : Params} {d : DetectorRecord} (h : p.confirm ≤ d.run) :
    d.verdict p = .trip := if_pos h

theorem DetectorRecord.verdict_unresolved {p : Params} {d : DetectorRecord} (hrun : d.run < p.confirm)
    (hlength : p.window ≤ d.windowLength) : d.verdict p = .unresolved :=
  (if_neg (Nat.not_le.2 hrun)).trans (if_pos hlength)

theorem DetectorRecord.verdict_goesOn {p : Params} {d : DetectorRecord} (hrun : d.run < p.confirm)
    (hlength : d.windowLength < p.window) : d.verdict p = .goesOn :=
  (if_neg (Nat.not_le.2 hrun)).trans (if_neg (Nat.not_le.2 hlength))

/-- The state with a sample counted and taken into its line's window, before the verdict (R80, steps 1 and 2). -/
def State.windowSampled (s : State) (l : LineId) (v : Nat) : State :=
  s.modDet l fun d => (d.countSample v).windowSample ((s.line l).threshold < v)

section JudgeSample

variable {s : State} {l : LineId} {v : Nat}

theorem State.windowSampled_line (s : State) (l : LineId) (v : Nat) :
    (s.windowSampled l v).line l = { s.line l with det := ((s.windowSampled l v).line l).det } := by
  rw [State.windowSampled, State.modDet_line_self]

/-- An above-sample makes the run longer. -/
theorem State.windowSampled_det_of_above (h : (s.line l).threshold < v) :
    ((s.windowSampled l v).line l).det = { (s.line l).det with
      run := (s.line l).det.run + 1, windowLength := (s.line l).det.windowLength + 1
      sampleSum := (s.line l).det.sampleSum + v, sampleCount := (s.line l).det.sampleCount + 1 } := by
  rw [State.windowSampled, State.modDet_line_self, decide_eq_true h]; rfl

/-- A below-sample breaks the run. -/
theorem State.windowSampled_det_of_below (h : v ≤ (s.line l).threshold) :
    ((s.windowSampled l v).line l).det = { (s.line l).det with
      run := 0, windowLength := (s.line l).det.windowLength + 1
      sampleSum := (s.line l).det.sampleSum + v, sampleCount := (s.line l).det.sampleCount + 1 } := by
  rw [State.windowSampled, State.modDet_line_self, decide_eq_false (Nat.not_lt.2 h)]; rfl

/-- The mode and the recorded side are not the window's to change. -/
theorem State.windowSampled_mode_side (s : State) (l : LineId) (v : Nat) :
    ((s.windowSampled l v).line l).det.mode = (s.line l).det.mode ∧
      ((s.windowSampled l v).line l).det.side = (s.line l).det.side := by
  rw [State.windowSampled, State.modDet_line_self]; exact ⟨rfl, rfl⟩

theorem judgeSample_of_watch (h : (s.line l).det.mode = .watch) :
    judgeSample l v s = s.modDet l fun d => (d.countSample v).watchSample ((s.line l).threshold < v) := by
  simp only [judgeSample, h]

theorem judgeSample_of_idle_or_verify (h : (s.line l).det.mode = .idle ∨ (s.line l).det.mode = .verify) :
    judgeSample l v s = s := by
  rcases h with h | h <;> simp only [judgeSample, h]

section Window

variable (h : (s.line l).det.mode = .window)

include h

theorem judgeSample_of_goesOn (hverdict : ((s.windowSampled l v).line l).det.verdict s.params = .goesOn) :
    judgeSample l v s = s.windowSampled l v := by
  unfold State.windowSampled at hverdict ⊢
  simp only [judgeSample, h, State.modDet_params, hverdict]

theorem judgeSample_of_trip (hverdict : ((s.windowSampled l v).line l).det.verdict s.params = .trip) :
    judgeSample l v s = (s.windowSampled l v).confirmTrip l := by
  unfold State.windowSampled at hverdict ⊢
  simp only [judgeSample, h, State.modDet_params, hverdict]

theorem judgeSample_of_unresolved
    (hverdict : ((s.windowSampled l v).line l).det.verdict s.params = .unresolved) :
    judgeSample l v s = (s.windowSampled l v).windowUnresolved l := by
  unfold State.windowSampled at hverdict ⊢
  simp only [judgeSample, h, State.modDet_params, hverdict]

end Window

end JudgeSample

/-! ### The cut of the burst (R81, R82) -/

/-- An unresolved window cuts the burst and leaves a verify pending; the rest of the line stands (R66, R82). -/
theorem State.windowUnresolved_line {s : State} {l : LineId} (h : (s.line l).relay.phase = .ring) :
    (s.windowUnresolved l).line l = { s.line l with
      relay := { (s.line l).relay with phase := .quench, quenchKind := some .early, timer := some 30 }
      det := (s.line l).det.unresolved } := by
  rw [State.windowUnresolved, State.modDet_line_self, State.earlyQuench_line_self, Line.earlyQuench_of_ring _ h]; rfl

theorem State.windowUnresolved_othersKept (s : State) (l : LineId) : OthersKept l s (s.windowUnresolved l) :=
  (State.modLine_othersKept s l _).trans (State.modLine_othersKept _ l _)

/-- The state once a confirmed trip has cut the burst, before call control is told (R65, R81). -/
def State.tripCut (s : State) (l : LineId) : State := (s.earlyQuench l .trip).modDet l DetectorRecord.tripped

theorem State.confirmTrip_eq (s : State) (l : LineId) :
    s.confirmTrip l = ((s.tripCut l).answer l .trip (s.line l).det.side).arbitrate := rfl

theorem State.tripCut_line {s : State} {l : LineId} (h : (s.line l).relay.phase = .ring) :
    (s.tripCut l).line l = { s.line l with
      relay := { (s.line l).relay with phase := .quench, quenchKind := some .early, timer := some 30 }
      det := (s.line l).det.tripped } := by
  rw [State.tripCut, State.modDet_line_self, State.earlyQuench_line_self, Line.earlyQuench_of_ring _ h]; rfl

theorem State.confirmTrip_othersKept (s : State) (l : LineId) : OthersKept l s (s.confirmTrip l) :=
  ((State.modLine_othersKept s l _).trans (State.modLine_othersKept _ l _)).trans <|
    (State.answer_othersKept (s.tripCut l) l .trip _).trans (State.arbitrate_othersKept _ l)

section ConfirmTrip

variable {s : State} {l : LineId} (h : (s.line l).relay.phase = .ring)

include h

/-- Once the trip has cut the burst, the answer finds the line in QUENCH and its detector IDLE. -/
theorem State.tripCut_quiet :
    ((s.tripCut l).line l).relay.phase = .quench ∧ ((s.tripCut l).line l).det.mode ≠ .verify := by
  rw [State.tripCut_line h]; exact ⟨rfl, nofun⟩

theorem State.tripCut_callState : (s.tripCut l).callState l = s.callState l := by
  rw [State.callState, State.tripCut_line h]; rfl

theorem State.confirmTrip_det : ((s.confirmTrip l).line l).det = (s.line l).det.tripped := by
  obtain ⟨hphase, hmode⟩ := State.tripCut_quiet h
  rw [State.confirmTrip_eq, State.arbitrate_line, State.answer_det .trip _ (.inr hphase) hmode, State.tripCut_line h]

/-- A trip on a RINGING line: the burst cut and the PLAIN ring answered (R81, R139). -/
theorem State.confirmTrip_line_of_ringing (hstate : s.callState l = .ringing) :
    (s.confirmTrip l).line l = { s.line l with
      record := { (s.line l).record with callState := .connected }
      asg := none
      relay := { (s.line l).relay with phase := .quench, quenchKind := some .early, timer := some 30 }
      det := (s.line l).det.tripped
      call := { (s.line l).call with ringingParty := none } } := by
  obtain ⟨hphase, hmode⟩ := State.tripCut_quiet h
  rw [State.confirmTrip_eq, State.arbitrate_line,
    State.answer_line_of_ringing .trip _ (.inr hphase) hmode ((State.tripCut_callState h).trans hstate),
    State.tripCut_line h]

/-- A trip on a REVERT_RINGING line: the burst cut and the reverting ring answered (R81, R153). -/
theorem State.confirmTrip_line_of_revertRinging (hstate : s.callState l = .revertRinging) :
    (s.confirmTrip l).line l = { s.line l with
      record := { (s.line l).record with callState := .revertCheck }
      asg := none
      relay := { (s.line l).relay with phase := .quench, quenchKind := some .early, timer := some 30 }
      det := (s.line l).det.tripped } := by
  obtain ⟨hphase, hmode⟩ := State.tripCut_quiet h
  rw [State.confirmTrip_eq, State.arbitrate_line,
    State.answer_line_of_revertRinging .trip _ (.inr hphase) hmode ((State.tripCut_callState h).trans hstate),
    State.tripCut_line h]

/-- The answer of a RINGING line is reported by its side and its ringing party (R139). -/
theorem State.confirmTrip_queue_of_ringing (hstate : s.callState l = .ringing) :
    (s.confirmTrip l).reports.queue =
      queueWith s.reports.queue (.answer l (s.line l).det.side .trip (s.line l).call.ringingParty) := by
  rw [State.confirmTrip_eq, State.arbitrate_reports,
    State.answer_of_ringing .trip _ ((State.tripCut_callState h).trans hstate), State.modCall_reports,
    State.queueReport_eq, State.setCallState_reports, State.removeAssignment_reports, State.tripCut_line h]
  rfl

/-- The answer of a REVERT_RINGING line is no report but a side test requested (R153). -/
theorem State.confirmTrip_requests_of_revertRinging (hstate : s.callState l = .revertRinging) :
    (s.confirmTrip l).reports = s.reports ∧
      (s.confirmTrip l).msu.jobs = s.msu.jobs ++ [⟨l, .answerSide, s.msu.arrivalCount⟩] := by
  rw [State.confirmTrip_eq, State.arbitrate_reports, State.arbitrate_jobs,
    State.answer_of_revertRinging .trip _ ((State.tripCut_callState h).trans hstate)]
  simp [State.requestJob, State.tripCut]

end ConfirmTrip

/-! ### The statements -/

/-- No sample returns a line to WATCH (R79): a window goes on, ends in a trip with the detector IDLE, or ends with a
verify pending; in the other modes no sample is taken. -/
theorem judgeSample_mode_ne_watch {s : State} {l : LineId} (v : Nat) (hring : (s.line l).relay.phase = .ring)
    (hmode : (s.line l).det.mode ≠ .watch) : ((judgeSample l v s).line l).det.mode ≠ .watch := by
  have hsampled : ((s.windowSampled l v).line l).relay.phase = .ring := by
    rw [State.windowSampled_line]; exact hring
  cases hm : (s.line l).det.mode with
  | watch => exact absurd hm hmode
  | idle => rwa [judgeSample_of_idle_or_verify (.inl hm)]
  | verify => rwa [judgeSample_of_idle_or_verify (.inr hm)]
  | window =>
    cases hv : ((s.windowSampled l v).line l).det.verdict s.params with
    | goesOn => rw [judgeSample_of_goesOn hm hv, (s.windowSampled_mode_side l v).1, hm]; nofun
    | trip => rw [judgeSample_of_trip hm hv, State.confirmTrip_det hsampled]; nofun
    | unresolved => rw [judgeSample_of_unresolved hm hv, State.windowUnresolved_line hsampled]; nofun

/-- Settles O37. In WATCH the sample is one change of the detector's record; in WINDOW the verdict goes on while the run
and the window length are below their limits. -/
theorem sampleIsJudgedAgainstTheThreshold : Obligations.SampleIsJudgedAgainstTheThreshold := by
  unfold Obligations.SampleIsJudgedAgainstTheThreshold
  intro l current s sd hring hside
  rw [exec_tripSample_of_ring current hring, ← Line.threshold_of_side hside]
  refine ⟨fun hm hbelow => ?watchBelow, fun hm habove => ?watchAbove, fun hm hlength hconfirm hbelow => ?windowBelow,
    fun hm hlength hrun habove => ?windowAbove, fun hm t ht => ?notWatch⟩
  case watchBelow =>
    refine ⟨_, rfl, ?_⟩
    rw [judgeSample_of_watch hm, decide_eq_false (Nat.not_lt.2 hbelow)]
    exact ⟨State.modDet_line_self _ _ _, State.modLine_othersKept s l _, rfl⟩
  case watchAbove =>
    refine ⟨_, rfl, ?_⟩
    rw [judgeSample_of_watch hm, decide_eq_true habove]
    exact ⟨State.modDet_line_self _ _ _, State.modLine_othersKept s l _, rfl⟩
  case windowBelow =>
    have hdet := State.windowSampled_det_of_below hbelow
    refine ⟨_, rfl, ?_⟩
    rw [judgeSample_of_goesOn hm (by rw [hdet]; exact DetectorRecord.verdict_goesOn hconfirm hlength),
      State.windowSampled_line, hdet]
    exact ⟨rfl, State.modLine_othersKept s l _, rfl⟩
  case windowAbove =>
    have hdet := State.windowSampled_det_of_above habove
    refine ⟨_, rfl, ?_⟩
    rw [judgeSample_of_goesOn hm (by rw [hdet]; exact DetectorRecord.verdict_goesOn hrun hlength),
      State.windowSampled_line, hdet]
    exact ⟨rfl, State.modLine_othersKept s l _, rfl⟩
  case notWatch =>
    cases ht
    exact judgeSample_mode_ne_watch _ hring hm

/-- Settles O38. The sample that ends the window is counted first, so that both outcomes act on `State.windowSampled`:
a trip is `State.confirmTrip` there, answered by the call state, and an unresolved window is
`State.windowUnresolved`. -/
theorem sampleEndsTheWindow : Obligations.SampleEndsTheWindow := by
  unfold Obligations.SampleEndsTheWindow
  intro l current s sd hring hside hm
  rw [exec_tripSample_of_ring current hring, ← Line.threshold_of_side hside]
  generalize min 600 current = v
  obtain ⟨-, hsampledSide⟩ := s.windowSampled_mode_side l v
  have hline := s.windowSampled_line l v
  have hsampledRing : ((s.windowSampled l v).line l).relay.phase = .ring := by rw [hline]; exact hring
  have hstate : (s.windowSampled l v).callState l = s.callState l := by rw [State.callState, hline]; rfl
  have hothers : OthersKept l s (s.windowSampled l v) := State.modLine_othersKept s l _
  refine ⟨fun habove hconfirm hrung => ?trip, fun hlength hconfirm hshort => ?unresolved⟩
  case trip =>
    have hverdict : ((s.windowSampled l v).line l).det.verdict s.params = .trip := by
      rw [State.windowSampled_det_of_above habove]; exact DetectorRecord.verdict_trip hconfirm
    refine ⟨_, rfl, ?_⟩
    rw [judgeSample_of_trip hm hverdict]
    rcases hrung with hringing | hrevert
    · have htrip := State.confirmTrip_line_of_ringing hsampledRing (hstate.trans hringing)
      have hcall : ((s.windowSampled l v).confirmTrip l).callState l = .connected := by rw [State.callState, htrip]
      have hqueue := State.confirmTrip_queue_of_ringing hsampledRing (hstate.trans hringing)
      rw [hsampledSide, hside, hline] at hqueue
      rw [htrip, hline]
      exact ⟨rfl, rfl, rfl, rfl, rfl, rfl, rfl, fun _ => ⟨hcall, hqueue, rfl⟩,
        fun h => absurd (hringing.symm.trans h) nofun, hothers.trans (State.confirmTrip_othersKept _ l)⟩
    · have htrip := State.confirmTrip_line_of_revertRinging hsampledRing (hstate.trans hrevert)
      have hcall : ((s.windowSampled l v).confirmTrip l).callState l = .revertCheck := by rw [State.callState, htrip]
      obtain ⟨hreports, hjobs⟩ := State.confirmTrip_requests_of_revertRinging hsampledRing (hstate.trans hrevert)
      rw [htrip, hline]
      exact ⟨rfl, rfl, rfl, rfl, rfl, rfl, rfl, fun h => absurd (hrevert.symm.trans h) nofun,
        fun _ => ⟨hcall, hreports, rfl, hjobs⟩, hothers.trans (State.confirmTrip_othersKept _ l)⟩
  case unresolved =>
    have hverdict : ((s.windowSampled l v).line l).det.verdict s.params = .unresolved := by
      by_cases habove : (s.line l).threshold < v
      · rw [State.windowSampled_det_of_above habove]
        exact DetectorRecord.verdict_unresolved (hshort.resolve_left (Nat.not_le.2 habove)) hlength
      · rw [State.windowSampled_det_of_below (Nat.not_lt.1 habove)]
        exact DetectorRecord.verdict_unresolved hconfirm hlength
    refine ⟨_, rfl, ?_⟩
    rw [judgeSample_of_unresolved hm hverdict, State.windowUnresolved_line hsampledRing, hline]
    exact ⟨rfl, rfl, rfl, rfl, rfl, rfl, hsampledSide.trans hside, rfl, rfl, rfl, rfl,
      hothers.trans (State.windowUnresolved_othersKept _ l), rfl⟩

end Sys2Proof.Machine
end

section
/-! PROOFS. The laws at power-on (R17, R20, R24, R55, R70, R90, R108, R128, R146, R160, R172, R175, R178), and what the
executable test of a pattern says of it (R21, R22). -/

namespace Sys2Proof.Machine

/-! ### The test of a pattern (R21, R22) -/

theorem Burst.valid_iff (b : Burst) : b.valid = true ↔ b.Valid := by
  simp [Burst.valid, Burst.Valid, and_assoc]

/-- Each burst parted from the next is parted from every later one, since starts grow along the pattern. -/
theorem spaced_iff_pairwise (p : Pattern) :
    spaced p = true ↔ p.Pairwise fun b c => b.start + b.length + 1 ≤ c.start := by
  induction p with
  | nil => simp [spaced]
  | cons x rest ih =>
    cases rest with
    | nil => simp [spaced]
    | cons y rest =>
      simp only [spaced, Bool.and_eq_true, decide_eq_true_eq, ih, List.pairwise_cons, List.mem_cons]
      constructor
      · rintro ⟨hxy, hy, hrest⟩
        refine ⟨?_, hy, hrest⟩
        rintro c (rfl | hc)
        · exact hxy
        · have := hy c hc
          omega
      · rintro ⟨hx, hy, hrest⟩
        exact ⟨hx y (.inl rfl), hy, hrest⟩

theorem Pattern.valid_iff (p : Pattern) : p.valid = true ↔ p.Valid := by
  simp only [Pattern.valid, Bool.and_eq_true, decide_eq_true_eq, List.all_eq_true, Burst.valid_iff,
    spaced_iff_pairwise]
  exact ⟨fun ⟨⟨hcount, hbursts⟩, hparted⟩ => ⟨hcount, hbursts, hparted⟩,
    fun ⟨hcount, hbursts, hparted⟩ => ⟨⟨hcount, hbursts⟩, hparted⟩⟩

/-! ### The laws at power-on -/

section PowerOn

variable (address : BitVec 5) (rate : BitVec 2) (goodA goodB : Bool)

theorem State.powerOn_bus (bus : Bus) :
    ∃ good, (State.powerOn address rate goodA goodB).bus bus = .powerOn good := by
  cases bus with
  | a => exact ⟨goodA, rfl⟩
  | b => exact ⟨goodB, rfl⟩

theorem State.powerOn_callLaws : CallLaws (State.powerOn address rate goodA goodB) where
  assignments := by constructor <;> simp [State.callState, Line.powerOn, LineRecord.powerOn]
  jobs := by
    constructor <;> simp [State.runnableJobs, State.powerOn, MeasurementUnit.powerOn]
  scanner l := by
    rw [State.powerOn_line]
    constructor <;> simp [Line.powerOn, ScannerRecord.powerOn]
  dial l := by
    rw [State.powerOn_line]
    constructor <;> simp [Line.powerOn, DialRecord.powerOn, ScannerRecord.powerOn, LineRecord.powerOn]
  call l := by
    rw [State.powerOn_line]
    constructor <;> simp [Line.powerOn, CallRecord.powerOn, LineRecord.powerOn]

/-- A waiting list of no lines and load maps of zeros, with no line rung. -/
theorem State.powerOn_ringingLaws : RingingLaws (State.powerOn address rate goodA goodB) where
  waiting := by
    have hnil : (State.powerOn address rate goodA goodB).waiting = [] := rfl
    constructor <;> simp [hnil, Line.waits, Line.powerOn]
  loads := by
    constructor
    · intro bus g
      obtain ⟨good, hbus⟩ := State.powerOn_bus address rate goodA goodB bus
      simp [hbus, Line.loadOn, Line.powerOn]
    · intro bus _ g
      obtain ⟨good, hbus⟩ := State.powerOn_bus address rate goodA goodB bus
      simp [hbus]
    · intro bus _ l
      simp [Line.placedBus, Line.powerOn]
  relays := by constructor <;> simp [Line.powerOn, RelayRecord.powerOn]

theorem State.powerOn_codeLaw : CodeLaw (State.powerOn address rate goodA goodB) where
  valid c := by
    have hall : ∀ c : CodeId, (defaultCodes.get c).valid = true := by decide
    exact (Pattern.valid_iff _).1 (hall c)
  usable l p hp := by simp [Line.powerOn, LineRecord.powerOn] at hp

theorem State.powerOn_healthLaws : HealthLaws (State.powerOn address rate goodA goodB) where
  params := show ParamLaw Params.powerOn by constructor <;> decide
  lines l := by
    have hside : SideLaw Params.powerOn SideRecord.powerOn := by constructor <;> decide
    rw [State.powerOn_line]
    exact ⟨hside, hside, rfl, by decide, by decide, by decide⟩

theorem State.powerOn_reportLaw : ReportLaw (State.powerOn address rate goodA goodB) where
  bounded := Nat.zero_le _
  markers _ := Nat.zero_le _
  owed l h := by simp [Line.powerOn, DialRecord.powerOn] at h

theorem Link.powerOn_linkLaw : LinkLaw (Link.powerOn address rate) := by
  constructor <;> simp [Link.powerOn, Receiver.hunting]

end PowerOn

/-- Settles O11, law by law. -/
theorem lawsHoldAtPowerOn : Obligations.LawsHoldAtPowerOn := by
  unfold Obligations.LawsHoldAtPowerOn
  exact ⟨rfl, fun address rate goodA goodB =>
    ⟨State.powerOn_callLaws address rate goodA goodB, State.powerOn_ringingLaws address rate goodA goodB,
      State.powerOn_codeLaw address rate goodA goodB, State.powerOn_healthLaws address rate goodA goodB,
      State.powerOn_reportLaw address rate goodA goodB, Link.powerOn_linkLaw address rate⟩⟩

end Sys2Proof.Machine
end

section
/-! PROOFS. What the operations that call control, dial reception and the identification share leave of their line, of the
other lines, of the job list and of the report queue (06, 07, 08, 09): one equation for each, cited by the statements'
proofs. -/

namespace Sys2Proof.Machine

/-! ### What call control never writes -/

/-- The items that no operation of call control but a ring writes: those of `FixedKept`, the buses and the waiting
list. -/
structure ScheduleKept (s u : State) : Prop extends FixedKept s u where
  busA : u.busA = s.busA
  busB : u.busB = s.busB
  waiting : u.waiting = s.waiting

theorem ScheduleKept.trans {s t u : State} (h : ScheduleKept s t) (k : ScheduleKept t u) : ScheduleKept s u where
  toFixedKept := h.toFixedKept.trans k.toFixedKept
  busA := k.busA.trans h.busA
  busB := k.busB.trans h.busB
  waiting := k.waiting.trans h.waiting

theorem ScheduleKept.eq {s u : State} (h : ScheduleKept s u) :
    u = { s with lines := u.lines, msu := u.msu, reports := u.reports } := by
  rw [← h.codes, ← h.slot, ← h.createdCount, ← h.placedCount, ← h.params, ← h.link, ← h.pending, ← h.busA, ← h.busB,
    ← h.waiting]

theorem ScheduleKept.bus {s u : State} (h : ScheduleKept s u) (bus : Bus) : u.bus bus = s.bus bus := by
  cases bus with
  | a => exact h.busA
  | b => exact h.busB

theorem ScheduleKept.pattern {s u : State} (h : ScheduleKept s u) : u.pattern = s.pattern := by
  funext c; rw [State.pattern, State.pattern, h.codes]

theorem State.modLine_scheduleKept (s : State) (l : LineId) (f : Line → Line) : ScheduleKept s (s.modLine l f) :=
  ⟨⟨rfl, rfl, rfl, rfl, rfl, rfl, rfl⟩, rfl, rfl, rfl⟩

theorem State.modDial_scheduleKept (s : State) (l : LineId) (f : DialRecord → DialRecord) :
    ScheduleKept s (s.modDial l f) := s.modLine_scheduleKept l _

theorem State.modCall_scheduleKept (s : State) (l : LineId) (f : CallRecord → CallRecord) :
    ScheduleKept s (s.modCall l f) := s.modLine_scheduleKept l _

theorem State.setCallState_scheduleKept (s : State) (l : LineId) (st : CallState) :
    ScheduleKept s (s.setCallState l st) := s.modLine_scheduleKept l _

theorem State.clearRevert_scheduleKept (s : State) (l : LineId) : ScheduleKept s (s.clearRevert l) :=
  s.modCall_scheduleKept l _

theorem State.reopenCollection_scheduleKept (s : State) (l : LineId) : ScheduleKept s (s.reopenCollection l) :=
  s.modDial_scheduleKept l _

theorem State.startPermanentSignal_scheduleKept (s : State) (l : LineId) :
    ScheduleKept s (s.startPermanentSignal l) := s.modCall_scheduleKept l _

theorem State.startRevertHold_scheduleKept (s : State) (l : LineId) : ScheduleKept s (s.startRevertHold l) :=
  s.modCall_scheduleKept l _

theorem State.queueReport_scheduleKept (s : State) (r : Report) : ScheduleKept s (s.queueReport r) := by
  rw [State.queueReport_eq]; exact ⟨⟨rfl, rfl, rfl, rfl, rfl, rfl, rfl⟩, rfl, rfl, rfl⟩

theorem State.requestJob_scheduleKept (s : State) (l : LineId) (k : JobKind) : ScheduleKept s (s.requestJob l k) :=
  ⟨⟨rfl, rfl, rfl, rfl, rfl, rfl, rfl⟩, rfl, rfl, rfl⟩

theorem State.abortJobs_scheduleKept (s : State) (l : LineId) : ScheduleKept s (s.abortJobs l) := by
  rw [State.abortJobs_eq]; exact ⟨⟨rfl, rfl, rfl, rfl, rfl, rfl, rfl⟩, rfl, rfl, rfl⟩

theorem State.releaseHead_scheduleKept (s : State) (l : LineId) : ScheduleKept s (s.releaseHead l) :=
  ⟨⟨rfl, rfl, rfl, rfl, rfl, rfl, rfl⟩, rfl, rfl, rfl⟩

theorem State.emptyDigits_scheduleKept (s : State) (l : LineId) : ScheduleKept s (s.emptyDigits l) :=
  ⟨⟨rfl, rfl, rfl, rfl, rfl, rfl, rfl⟩, rfl, rfl, rfl⟩

theorem State.arbitrate_scheduleKept (s : State) : ScheduleKept s s.arbitrate := by
  rw [State.arbitrate_eq]; exact ⟨⟨rfl, rfl, rfl, rfl, rfl, rfl, rfl⟩, rfl, rfl, rfl⟩

theorem reportIfChanged_scheduleKept (l : LineId) (b s : State) : ScheduleKept s (reportIfChanged l b s) := by
  rcases reportIfChanged_cases l b s with e | e | e <;> rw [e]
  · exact ⟨⟨rfl, rfl, rfl, rfl, rfl, rfl, rfl⟩, rfl, rfl, rfl⟩
  · exact s.queueReport_scheduleKept _
  · exact s.modLine_scheduleKept l _

theorem OthersKept.refl (l : LineId) (s : State) : OthersKept l s s := fun _ _ => rfl

theorem State.modDial_othersKept (s : State) (l : LineId) (f : DialRecord → DialRecord) :
    OthersKept l s (s.modDial l f) := s.modLine_othersKept l _

theorem State.modCall_othersKept (s : State) (l : LineId) (f : CallRecord → CallRecord) :
    OthersKept l s (s.modCall l f) := s.modLine_othersKept l _

theorem State.setCallState_othersKept (s : State) (l : LineId) (st : CallState) :
    OthersKept l s (s.setCallState l st) := s.modLine_othersKept l _

theorem State.clearRevert_othersKept (s : State) (l : LineId) : OthersKept l s (s.clearRevert l) :=
  s.modCall_othersKept l _

theorem State.reopenCollection_othersKept (s : State) (l : LineId) : OthersKept l s (s.reopenCollection l) :=
  s.modDial_othersKept l _

theorem State.startPermanentSignal_othersKept (s : State) (l : LineId) :
    OthersKept l s (s.startPermanentSignal l) := s.modCall_othersKept l _

theorem State.startRevertHold_othersKept (s : State) (l : LineId) : OthersKept l s (s.startRevertHold l) :=
  s.modCall_othersKept l _

theorem reportIfChanged_othersKept (l : LineId) (b s : State) : OthersKept l s (reportIfChanged l b s) := by
  rcases reportIfChanged_cases l b s with e | e | e <;> rw [e]
  · exact .refl l s
  · exact s.queueReport_othersKept l _
  · exact s.modLine_othersKept l _

/-! ### Reports -/

@[simp] theorem State.queueReport_queue (s : State) (r : Report) :
    (s.queueReport r).reports.queue = queueWith s.reports.queue r := by rw [State.queueReport_eq]

@[simp] theorem State.queueReport_callState (s : State) (r : Report) (l : LineId) :
    (s.queueReport r).callState l = s.callState l := congrArg (·.record.callState) (s.queueReport_line r l)

@[simp] theorem State.abortJobs_callState (s : State) (l m : LineId) :
    (s.abortJobs l).callState m = s.callState m := congrArg (·.record.callState) (s.abortJobs_line l m)

@[simp] theorem State.requestJob_jobs (s : State) (l : LineId) (k : JobKind) :
    (s.requestJob l k).msu.jobs = s.msu.jobs ++ [⟨l, k, s.msu.arrivalCount⟩] := rfl

@[simp] theorem MeasurementUnit.dropJobs_jobs (l : LineId) (m : MeasurementUnit) :
    (m.dropJobs l).jobs = m.jobs.filter fun j => j.line ≠ l := rfl

@[simp] theorem State.releaseHead_line (s : State) (l m : LineId) : (s.releaseHead l).line m = s.line m := rfl
@[simp] theorem State.releaseHead_reports (s : State) (l : LineId) : (s.releaseHead l).reports = s.reports := rfl
@[simp] theorem State.releaseHead_params (s : State) (l : LineId) : (s.releaseHead l).params = s.params := rfl
@[simp] theorem State.releaseHead_jobs (s : State) (l : LineId) :
    (s.releaseHead l).msu.jobs = s.msu.jobs.filter fun j => j.line ≠ l := rfl
@[simp] theorem State.releaseHead_callState (s : State) (l m : LineId) :
    (s.releaseHead l).callState m = s.callState m := rfl

theorem State.markerPending_iff (s : State) (l : LineId) :
    s.markerPending l = true ↔ Report.digits l ∈ s.reports.queue := by
  simp [State.markerPending]

/-! ### Collections and the digit queue (R99, R105, R106) -/

@[simp] theorem State.endCollection_line (s : State) (l : LineId) :
    (s.endCollection l).line l = { s.line l with
      dial := { (s.line l).dial with collection := .off, pulseCount := 0, interdigit := none }
      scan := { (s.line l).scan with makeTimer := none } } := State.modLine_line_self _ _ _

@[simp] theorem State.reopenCollection_line (s : State) (l : LineId) :
    (s.reopenCollection l).line l = { s.line l with
      dial := { (s.line l).dial with collection := .opened, pulseCount := 0, received := 0 } } :=
  State.modDial_line_self _ _ _

/-- An origination opens a collection on an empty digit queue, with nothing reported or owed (R99). -/
theorem State.openCollection_line (s : State) (l : LineId) :
    (s.openCollection l).line l = { s.line l with
      dial := { (s.line l).dial with
        collection := .opened, pulseCount := 0, received := 0, interdigit := none, digits := []
        errors := ⟨false, false, false⟩, complete := false, originationReported := false, markerOwed := false }
      scan := { (s.line l).scan with makeTimer := none } } := by
  rw [State.openCollection, State.reopenCollection_line, State.modDial_line_self, State.emptyDigits_line]

theorem State.openCollection_othersKept (s : State) (l : LineId) : OthersKept l s (s.openCollection l) :=
  (s.emptyDigits_othersKept l).trans <| (State.modLine_othersKept _ l _).trans (State.modLine_othersKept _ l _)

theorem State.openCollection_scheduleKept (s : State) (l : LineId) : ScheduleKept s (s.openCollection l) := by
  unfold State.openCollection
  exact ((s.emptyDigits_scheduleKept l).trans (State.modDial_scheduleKept _ l _)).trans
    (State.reopenCollection_scheduleKept _ l)

@[simp] theorem State.openCollection_msu (s : State) (l : LineId) : (s.openCollection l).msu = s.msu := rfl

@[simp] theorem State.openCollection_queue (s : State) (l : LineId) :
    (s.openCollection l).reports.queue = s.reports.queue.filter (· ≠ .digits l) := rfl

/-! ### Timers and parties of call control -/

@[simp] theorem State.startPermanentSignal_line (s : State) (l : LineId) :
    (s.startPermanentSignal l).line l = { s.line l with
      call := { (s.line l).call with permanentSignal := some (s.params.permanentSignalS * 1000) } } :=
  State.modCall_line_self _ _ _

@[simp] theorem State.startRevertHold_line (s : State) (l : LineId) :
    (s.startRevertHold l).line l = { s.line l with
      call := { (s.line l).call with revertHold := some (s.params.revertHoldS * 1000) } } :=
  State.modCall_line_self _ _ _

@[simp] theorem State.clearRevert_line (s : State) (l : LineId) :
    (s.clearRevert l).line l = { s.line l with
      call := { (s.line l).call with called := none, caller := none, recallOn := false } } :=
  State.modCall_line_self _ _ _

/-- A line given back to its caller is ORIGINATING, with a collection that keeps the digits (R151, R156, R158). -/
theorem State.returnToCaller_line (s : State) (l : LineId) :
    (s.returnToCaller l).line l = { s.line l with
      record := { (s.line l).record with callState := .originating }
      dial := { (s.line l).dial with collection := .opened, pulseCount := 0, received := 0 }
      call := { (s.line l).call with
        called := none, caller := none, recallOn := false, revertHold := none
        permanentSignal := some (s.params.permanentSignalS * 1000) } } := by
  rw [State.returnToCaller, State.startPermanentSignal_line, State.reopenCollection_line, State.setCallState_line_self,
    State.modCall_line_self, State.clearRevert_line, Line.enter_plain .originating _ nofun nofun nofun]
  rfl

theorem State.returnToCaller_othersKept (s : State) (l : LineId) : OthersKept l s (s.returnToCaller l) := by
  unfold State.returnToCaller
  exact ((((s.clearRevert_othersKept l).trans (State.modCall_othersKept _ l _)).trans
    (State.setCallState_othersKept _ l _)).trans (State.reopenCollection_othersKept _ l)).trans
      (State.startPermanentSignal_othersKept _ l)

theorem State.returnToCaller_scheduleKept (s : State) (l : LineId) : ScheduleKept s (s.returnToCaller l) := by
  unfold State.returnToCaller
  exact ((((s.clearRevert_scheduleKept l).trans (State.modCall_scheduleKept _ l _)).trans
    (State.setCallState_scheduleKept _ l _)).trans (State.reopenCollection_scheduleKept _ l)).trans
      (State.startPermanentSignal_scheduleKept _ l)

@[simp] theorem State.returnToCaller_msu (s : State) (l : LineId) : (s.returnToCaller l).msu = s.msu := by
  simp [State.returnToCaller, State.clearRevert, State.reopenCollection, State.startPermanentSignal]

@[simp] theorem State.returnToCaller_reports (s : State) (l : LineId) :
    (s.returnToCaller l).reports = s.reports := by
  simp [State.returnToCaller, State.clearRevert, State.reopenCollection, State.startPermanentSignal]

/-! ### The ORIGINATE report and the exits from ORIGINATING (R132, R133, R135) -/

/-- The state once the line's ORIGINATE has fallen due, before an owed marker is queued behind it (R132). -/
def State.originated (s : State) (l : LineId) (r : IdResult) (gc : Option (PerSide Nat)) : State :=
  ((s.queueReport (.originate l r gc)).modCall l fun c => { c with originationPending := false }).modDial l fun d =>
    { d with originationReported := true, markerOwed := false }

theorem State.originateDue_eq (s : State) (l : LineId) (r : IdResult) (gc : Option (PerSide Nat)) :
    s.originateDue l r gc =
      if (s.line l).dial.markerOwed = true then (s.originated l r gc).queueReport (.digits l)
      else s.originated l r gc := by
  have howed : (((s.queueReport (.originate l r gc)).modCall l fun c =>
      { c with originationPending := false }).dialOf l).markerOwed = (s.line l).dial.markerOwed := by
    simp [State.dialOf]
  rw [← howed]; rfl

theorem State.originated_line (s : State) (l : LineId) (r : IdResult) (gc : Option (PerSide Nat)) :
    (s.originated l r gc).line l = { s.line l with
      dial := { (s.line l).dial with originationReported := true, markerOwed := false }
      call := { (s.line l).call with originationPending := false } } := by
  simp [State.originated]

theorem State.originated_othersKept (s : State) (l : LineId) (r : IdResult) (gc : Option (PerSide Nat)) :
    OthersKept l s (s.originated l r gc) :=
  (s.queueReport_othersKept l _).trans <| (State.modLine_othersKept _ l _).trans (State.modLine_othersKept _ l _)

theorem State.originated_scheduleKept (s : State) (l : LineId) (r : IdResult) (gc : Option (PerSide Nat)) :
    ScheduleKept s (s.originated l r gc) :=
  ((s.queueReport_scheduleKept _).trans (State.modCall_scheduleKept _ l _)).trans (State.modDial_scheduleKept _ l _)

/-- The line once its ORIGINATE has fallen due: nothing is pending any more, and nothing is owed. -/
theorem State.originateDue_line (s : State) (l : LineId) (r : IdResult) (gc : Option (PerSide Nat)) :
    (s.originateDue l r gc).line l = { s.line l with
      dial := { (s.line l).dial with originationReported := true, markerOwed := false }
      call := { (s.line l).call with originationPending := false } } := by
  rw [State.originateDue_eq, ← State.originated_line s l r gc]
  split
  · rw [State.queueReport_line]
  · rfl

theorem State.originateDue_othersKept (s : State) (l : LineId) (r : IdResult) (gc : Option (PerSide Nat)) :
    OthersKept l s (s.originateDue l r gc) := by
  rw [State.originateDue_eq]
  split
  · exact (s.originated_othersKept l r gc).trans (State.queueReport_othersKept _ l _)
  · exact s.originated_othersKept l r gc

theorem State.originateDue_scheduleKept (s : State) (l : LineId) (r : IdResult) (gc : Option (PerSide Nat)) :
    ScheduleKept s (s.originateDue l r gc) := by
  rw [State.originateDue_eq]
  split
  · exact (s.originated_scheduleKept l r gc).trans (State.queueReport_scheduleKept _ _)
  · exact s.originated_scheduleKept l r gc

@[simp] theorem State.originateDue_msu (s : State) (l : LineId) (r : IdResult) (gc : Option (PerSide Nat)) :
    (s.originateDue l r gc).msu = s.msu := by
  rw [State.originateDue_eq]; split <;> simp [State.originated]

/-- ORIGINATE at the tail, and directly behind it the marker that waited for it (R103). -/
theorem State.originateDue_queue (s : State) (l : LineId) (r : IdResult) (gc : Option (PerSide Nat)) :
    (s.originateDue l r gc).reports.queue =
      if (s.line l).dial.markerOwed = true then
        queueWith (queueWith s.reports.queue (.originate l r gc)) (.digits l)
      else queueWith s.reports.queue (.originate l r gc) := by
  rw [State.originateDue_eq]
  split <;> simp [State.originated]

/-- The state once a line has lost its jobs and its pending origination has fallen due as abandoned (R133). -/
def State.abandoned (s : State) (l : LineId) : State :=
  if (s.line l).call.originationPending = true then
    (s.abortJobs l).originateDue l (.unidentified .abandoned) none
  else s.abortJobs l

theorem State.leaveOriginating_eq (s : State) (l : LineId) :
    s.leaveOriginating l =
      ((s.abandoned l).modCall l fun c => { c with permanentSignal := none }).endCollection l := by
  rw [State.abandoned, ← State.abortJobs_line s l l]; rfl

theorem State.abandoned_line (s : State) (l : LineId) :
    (s.abandoned l).line l = { s.line l with
      dial := { (s.line l).dial with
        originationReported := (s.line l).dial.originationReported || (s.line l).call.originationPending
        markerOwed := (s.line l).dial.markerOwed && !(s.line l).call.originationPending }
      call := { (s.line l).call with originationPending := false } } := by
  unfold State.abandoned
  cases hp : (s.line l).call.originationPending with
  | false =>
    have hsame : (s.line l).call = { (s.line l).call with originationPending := false } := by rw [← hp]
    simp [← hsame]
  | true => simp [State.originateDue_line]

theorem State.abandoned_othersKept (s : State) (l : LineId) : OthersKept l s (s.abandoned l) := by
  unfold State.abandoned
  split
  · exact (s.abortJobs_othersKept l).trans (State.originateDue_othersKept _ l _ _)
  · exact s.abortJobs_othersKept l

theorem State.abandoned_scheduleKept (s : State) (l : LineId) : ScheduleKept s (s.abandoned l) := by
  unfold State.abandoned
  split
  · exact (s.abortJobs_scheduleKept l).trans (State.originateDue_scheduleKept _ l _ _)
  · exact s.abortJobs_scheduleKept l

@[simp] theorem State.abandoned_msu (s : State) (l : LineId) : (s.abandoned l).msu = s.msu.dropJobs l := by
  unfold State.abandoned; split <;> simp

theorem State.abandoned_queue (s : State) (l : LineId) : (s.abandoned l).reports.queue = leavingQueue l s := by
  unfold State.abandoned leavingQueue
  split
  · simp only [State.originateDue_queue, State.abortJobs_queue, State.abortJobs_line]
  · rw [State.abortJobs_queue]

/-- The line as every exit from ORIGINATING leaves it, before it enters its next state: the collection over, its digits
kept, nothing pending and nothing owed if something was (R133, R135). -/
theorem State.leaveOriginating_line (s : State) (l : LineId) :
    (s.leaveOriginating l).line l = { s.line l with
      dial := { (s.line l).dial with
        collection := .off, pulseCount := 0, interdigit := none
        originationReported := (s.line l).dial.originationReported || (s.line l).call.originationPending
        markerOwed := (s.line l).dial.markerOwed && !(s.line l).call.originationPending }
      scan := { (s.line l).scan with makeTimer := none }
      call := { (s.line l).call with originationPending := false, permanentSignal := none } } := by
  rw [State.leaveOriginating_eq, State.endCollection_line, State.modCall_line_self, State.abandoned_line]

theorem State.leaveOriginating_othersKept (s : State) (l : LineId) : OthersKept l s (s.leaveOriginating l) := by
  rw [State.leaveOriginating_eq]
  exact (s.abandoned_othersKept l).trans <| (State.modLine_othersKept _ l _).trans (State.modLine_othersKept _ l _)

theorem State.leaveOriginating_scheduleKept (s : State) (l : LineId) : ScheduleKept s (s.leaveOriginating l) := by
  rw [State.leaveOriginating_eq]
  exact (s.abandoned_scheduleKept l).trans <|
    (State.modLine_scheduleKept _ l _).trans (State.modLine_scheduleKept _ l _)

@[simp] theorem State.leaveOriginating_msu (s : State) (l : LineId) :
    (s.leaveOriginating l).msu = s.msu.dropJobs l := by
  rw [State.leaveOriginating_eq, State.endCollection, State.modLine_msu, State.modCall_msu, State.abandoned_msu]

@[simp] theorem State.leaveOriginating_callState (s : State) (l : LineId) :
    (s.leaveOriginating l).callState l = s.callState l := by
  rw [State.callState, State.leaveOriginating_line]; rfl

theorem State.leaveOriginating_queue (s : State) (l : LineId) :
    (s.leaveOriginating l).reports.queue = leavingQueue l s := by
  rw [State.leaveOriginating_eq, State.endCollection, State.modLine_reports, State.modCall_reports,
    State.abandoned_queue]

/-! ### Markers (R103) -/

/-- A reportable event of dial reception changes nothing of its line but what is owed. -/
theorem State.markerEvent_line (s : State) (l : LineId) :
    (s.markerEvent l).line l = { s.line l with
      dial := { (s.line l).dial with markerOwed := ((s.markerEvent l).line l).dial.markerOwed } } := by
  unfold State.markerEvent
  split
  · rfl
  · split
    · simp
    · simp

theorem State.markerEvent_othersKept (s : State) (l : LineId) : OthersKept l s (s.markerEvent l) := by
  unfold State.markerEvent
  split
  · exact .refl l s
  · split
    · exact s.queueReport_othersKept l _
    · exact s.modLine_othersKept l _

theorem State.markerEvent_scheduleKept (s : State) (l : LineId) : ScheduleKept s (s.markerEvent l) := by
  unfold State.markerEvent
  split
  · exact ⟨⟨rfl, rfl, rfl, rfl, rfl, rfl, rfl⟩, rfl, rfl, rfl⟩
  · split
    · exact s.queueReport_scheduleKept _
    · exact s.modLine_scheduleKept l _

@[simp] theorem State.markerEvent_msu (s : State) (l : LineId) : (s.markerEvent l).msu = s.msu := by
  unfold State.markerEvent
  split
  · rfl
  · split <;> simp

/-- What a reportable event does to the marker and the queue, whichever line changes came before it on a state with the
same queue and the same marker items. -/
theorem State.markerEvent_acted {s t : State} {l : LineId} (hreports : t.reports = s.reports)
    (howed : (t.line l).dial.markerOwed = (s.line l).dial.markerOwed)
    (hreported : (t.line l).dial.originationReported = (s.line l).dial.originationReported) :
    MarkerActed l s (t.markerEvent l) := by
  have hpending : t.markerPending l = s.markerPending l := by rw [State.markerPending, hreports]; rfl
  have hdial : t.dialOf l = (t.line l).dial := rfl
  refine ⟨fun hp => ?_, fun hp hr => ?_, fun hp hr => ?_⟩
  · have e : t.markerEvent l = t := if_pos (hpending.trans hp)
    rw [e]; exact ⟨hreports, howed⟩
  · have e : t.markerEvent l = t.queueReport (.digits l) := by
      simp [State.markerEvent, hpending, hp, hdial, hreported, hr]
    rw [e]
    exact ⟨by simp [hreports], by simpa using howed⟩
  · have e : t.markerEvent l = t.modDial l fun d => { d with markerOwed := true } := by
      simp [State.markerEvent, hpending, hp, hdial, hreported, hr]
    rw [e]
    exact ⟨hreports, by simp⟩

/-! ### Answers, expiries and clears -/

theorem State.clearLine_line (s : State) (l : LineId) (st : CallState) :
    (s.clearLine l st).line l = (s.line l).enter .idle := by
  rw [State.clearLine, State.queueReport_line, State.setCallState_line_self]

theorem State.clearLine_othersKept (s : State) (l : LineId) (st : CallState) : OthersKept l s (s.clearLine l st) :=
  (s.modLine_othersKept l _).trans (State.queueReport_othersKept _ l _)

theorem State.clearLine_scheduleKept (s : State) (l : LineId) (st : CallState) :
    ScheduleKept s (s.clearLine l st) :=
  (s.modLine_scheduleKept l _).trans (State.queueReport_scheduleKept _ _)

@[simp] theorem State.clearLine_msu (s : State) (l : LineId) (st : CallState) : (s.clearLine l st).msu = s.msu := by
  simp [State.clearLine]

@[simp] theorem State.clearLine_queue (s : State) (l : LineId) (st : CallState) :
    (s.clearLine l st).reports.queue = queueWith s.reports.queue (.clear l st) := by
  simp [State.clearLine]

theorem State.expire_of_none {s : State} {l : LineId} (h : (s.line l).asg = none) : s.expire l = s := by
  simp [State.expire, h]

theorem State.expire_of_plain {s : State} {l : LineId} {a : Assignment} (h : (s.line l).asg = some a)
    (hk : a.kind = .plain) :
    s.expire l = (((s.removeAssignment l .removal).setCallState l .idle).queueReport
      (.noAnswer l (s.line l).call.ringingParty)).modCall l fun c => { c with ringingParty := none } := by
  simp [State.expire, h, hk]

theorem State.expire_of_revert {s : State} {l : LineId} {a : Assignment} (h : (s.line l).asg = some a)
    (hk : a.kind = .revert) :
    s.expire l = (((s.removeAssignment l .removal).setCallState l .idle).queueReport
      (.noAnswer l (s.line l).call.called)).clearRevert l := by
  simp [State.expire, h, hk]

theorem State.expire_othersKept (s : State) (l : LineId) : OthersKept l s (s.expire l) := by
  cases ha : (s.line l).asg with
  | none => rw [State.expire_of_none ha]; exact .refl l s
  | some a =>
    have hq (r : Report) : OthersKept l s (((s.removeAssignment l .removal).setCallState l .idle).queueReport r) :=
      ((s.removeAssignment_othersKept l _).trans (State.modLine_othersKept _ l _)).trans
        (State.queueReport_othersKept _ l _)
    cases hk : a.kind with
    | plain => rw [State.expire_of_plain ha hk]; exact (hq _).trans (State.modLine_othersKept _ l _)
    | revert => rw [State.expire_of_revert ha hk]; exact (hq _).trans (State.modLine_othersKept _ l _)

/-- The call record of a line whose ring has expired (R140, R154). -/
def CallRecord.expired (kind : AssignmentKind) (c : CallRecord) : CallRecord :=
  match kind with
  | .plain => { c with ringingParty := none }
  | .revert => { c with called := none, caller := none, recallOn := false }

/-- An expired ring leaves its line IDLE, with its assignment removed and its call over (R45). -/
theorem State.expire_line {s : State} {l : LineId} {a : Assignment} (h : (s.line l).asg = some a) :
    (s.expire l).line l = { ((s.removeAssignment l .removal).line l).enter .idle with
      call := (s.line l).call.expired a.kind } := by
  cases hk : a.kind with
  | plain =>
    rw [State.expire_of_plain h hk, State.modCall_line_self, State.queueReport_line, State.setCallState_line_self,
      Line.enter_call, State.removeAssignment_line_eq]
    rfl
  | revert =>
    rw [State.expire_of_revert h hk, State.clearRevert_line, State.queueReport_line, State.setCallState_line_self,
      Line.enter_call, State.removeAssignment_line_eq]
    rfl

/-- NO_ANSWER names the ringing party, or the called party of a reverting call (R140, R154). -/
theorem State.expire_queue {s : State} {l : LineId} {a : Assignment} (h : (s.line l).asg = some a) :
    (s.expire l).reports.queue = queueWith s.reports.queue (.noAnswer l
      (match a.kind with | .plain => (s.line l).call.ringingParty | .revert => (s.line l).call.called)) := by
  cases hk : a.kind with
  | plain => simp [State.expire_of_plain h hk]
  | revert => simp [State.expire_of_revert h hk, State.clearRevert]

@[simp] theorem State.expire_msu (s : State) (l : LineId) : (s.expire l).msu = s.msu := by
  cases ha : (s.line l).asg with
  | none => rw [State.expire_of_none ha]
  | some a =>
    cases hk : a.kind with
    | plain => simp [State.expire_of_plain ha hk]
    | revert => simp [State.expire_of_revert ha hk, State.clearRevert]

/-! ### The ringing of a reverting call (R150, R152) -/

theorem State.createAssignment_othersKept (s : State) (l : LineId) (kind : AssignmentKind) (k0 : Stroke)
    (k1 : Option Stroke) (n : Nat) : OthersKept l s (s.createAssignment l kind k0 k1 n) := by
  rcases s.createAssignment_cases l kind k0 k1 n with ⟨o, bus, -, e⟩ | ⟨-, e⟩ <;> rw [e]
  · obtain ⟨-, hothers, -⟩ := State.place_spec { s with createdCount := s.createdCount + 1 } l
      (newAssignment kind k0 k1 n s.createdCount) bus o
    exact hothers
  · obtain ⟨-, hothers, -⟩ := State.joinWaiting_spec { s with createdCount := s.createdCount + 1 } l
      (newAssignment kind k0 k1 n s.createdCount)
    exact hothers

/-- A placement writes the lines, one bus, the placed-order count and the waiting list, and nothing else. -/
theorem State.place_eq (s : State) (l : LineId) (a : Assignment) (bus : Bus) (o : Slot) :
    s.place l a bus o = { s with
      lines := (s.place l a bus o).lines, busA := (s.place l a bus o).busA, busB := (s.place l a bus o).busB
      waiting := (s.place l a bus o).waiting, placedCount := s.placedCount + 1 } := by
  cases bus <;> rfl

/-- A creation writes its line's assignment and nothing else of the lines. -/
theorem State.createAssignment_line (s : State) (l : LineId) (kind : AssignmentKind) (k0 : Stroke)
    (k1 : Option Stroke) (n : Nat) :
    (s.createAssignment l kind k0 k1 n).line l =
      { s.line l with asg := ((s.createAssignment l kind k0 k1 n).line l).asg } := by
  rcases s.createAssignment_cases l kind k0 k1 n with ⟨o, bus, -, e⟩ | ⟨-, e⟩ <;> rw [e]
  · obtain ⟨hline, -⟩ := State.place_spec { s with createdCount := s.createdCount + 1 } l
      (newAssignment kind k0 k1 n s.createdCount) bus o
    rw [hline]; rfl
  · obtain ⟨hline, -⟩ := State.joinWaiting_spec { s with createdCount := s.createdCount + 1 } l
      (newAssignment kind k0 k1 n s.createdCount)
    rw [hline]; rfl

/-- A creation writes the lines, the buses, the waiting list and the two order counts, and nothing else. -/
theorem State.createAssignment_eq (s : State) (l : LineId) (kind : AssignmentKind) (k0 : Stroke)
    (k1 : Option Stroke) (n : Nat) :
    s.createAssignment l kind k0 k1 n = { s with
      lines := (s.createAssignment l kind k0 k1 n).lines
      busA := (s.createAssignment l kind k0 k1 n).busA
      busB := (s.createAssignment l kind k0 k1 n).busB
      waiting := (s.createAssignment l kind k0 k1 n).waiting
      createdCount := s.createdCount + 1
      placedCount := (s.createAssignment l kind k0 k1 n).placedCount } := by
  rcases s.createAssignment_cases l kind k0 k1 n with ⟨o, bus, -, e⟩ | ⟨-, e⟩ <;> rw [e]
  · rw [State.place_eq]
  · rfl

@[simp] theorem State.createAssignment_msu (s : State) (l : LineId) (kind : AssignmentKind) (k0 : Stroke)
    (k1 : Option Stroke) (n : Nat) : (s.createAssignment l kind k0 k1 n).msu = s.msu := by
  rw [State.createAssignment_eq]

@[simp] theorem State.createAssignment_reports (s : State) (l : LineId) (kind : AssignmentKind) (k0 : Stroke)
    (k1 : Option Stroke) (n : Nat) : (s.createAssignment l kind k0 k1 n).reports = s.reports := by
  rw [State.createAssignment_eq]

theorem State.beginReverting_of_strokes {s : State} {l : LineId} {k0 : Stroke} {k1 : Option Stroke}
    (h : (s.line l).revertStrokes = some (k0, k1)) :
    s.beginReverting l =
      (s.createAssignment l .revert k0 k1 s.params.ringCycles).setCallState l .revertRinging := by
  simp [State.beginReverting, h]

theorem State.beginReverting_of_none {s : State} {l : LineId} (h : (s.line l).revertStrokes = none) :
    s.beginReverting l = s := by
  simp [State.beginReverting, h]

theorem State.beginReverting_othersKept (s : State) (l : LineId) : OthersKept l s (s.beginReverting l) := by
  cases h : (s.line l).revertStrokes with
  | none => rw [State.beginReverting_of_none h]; exact .refl l s
  | some p =>
    rw [State.beginReverting_of_strokes h]
    exact (s.createAssignment_othersKept l _ _ _ _).trans (State.modLine_othersKept _ l _)

end Sys2Proof.Machine
end

section
/-! PROOFS. The health of a line (R6, R72, R73, R75, R88, R89, R121): what each change of its trip records, its
condition and its burst's samples keeps of `HealthLaw`. -/

namespace Sys2Proof.Machine

/-! ### Thresholds and TRIP_MARGIN (R6, R73) -/

theorem ParamLaw.tmin_le_tmax {p : Params} (h : ParamLaw p) : p.tmin ≤ p.tmax := by
  have := h.tmax.1
  omega

@[simp] theorem computeThreshold_baseline (p : Params) (y : SideRecord) :
    (computeThreshold p y).baseline = y.baseline := by
  unfold computeThreshold; dsimp only; split
  · rfl
  · split <;> rfl

@[simp] theorem computeThreshold_margin (p : Params) (y : SideRecord) :
    (computeThreshold p y).margin = y.margin := by
  unfold computeThreshold; dsimp only; split
  · rfl
  · split <;> rfl

theorem computeThreshold_of_low {p : Params} {y : SideRecord} (h : (y.baseline + 9) / 10 + y.margin < p.tmin) :
    computeThreshold p y = { y with threshold := p.tmin, pinned := false } := if_pos h

theorem computeThreshold_of_mid {p : Params} {y : SideRecord} (hlow : p.tmin ≤ (y.baseline + 9) / 10 + y.margin)
    (hhigh : (y.baseline + 9) / 10 + y.margin ≤ p.tmax) :
    computeThreshold p y = { y with threshold := (y.baseline + 9) / 10 + y.margin, pinned := false } :=
  (if_neg (Nat.not_lt.2 hlow)).trans (if_pos hhigh)

theorem computeThreshold_of_high {p : Params} {y : SideRecord} (hp : p.tmin ≤ p.tmax)
    (h : p.tmax < (y.baseline + 9) / 10 + y.margin) :
    computeThreshold p y = { y with threshold := p.tmax, pinned := true } :=
  (if_neg (by omega)).trans (if_neg (by omega))

/-- A computed threshold is in its range and pinned only above Tmax, whatever it was before. -/
theorem computeThreshold_sideLaw {p : Params} {y : SideRecord} (hp : ParamLaw p) (hbase : y.baseline ≤ 6000)
    (hmargin : 20 ≤ y.margin ∧ y.margin ≤ 100) : SideLaw p (computeThreshold p y) := by
  have htm := hp.tmin_le_tmax
  rcases Nat.lt_or_ge ((y.baseline + 9) / 10 + y.margin) p.tmin with hlow | hlow
  · rw [computeThreshold_of_low hlow]
    exact ⟨hbase, hmargin, by dsimp only; omega, by simp; omega⟩
  rcases Nat.lt_or_ge p.tmax ((y.baseline + 9) / 10 + y.margin) with hhigh | hhigh
  · rw [computeThreshold_of_high htm hhigh]
    exact ⟨hbase, hmargin, by dsimp only; omega, by simp; omega⟩
  · rw [computeThreshold_of_mid hlow hhigh]
    exact ⟨hbase, hmargin, by dsimp only; omega, by simp; omega⟩

/-- The condition once TRIP_MARGIN agrees with the sides (R6). -/
theorem agreeTripMargin_condition (x : Line) :
    (agreeTripMargin x).record.condition =
      if x.pinned = x.record.reasons.tripMargin then x.record.condition
      else if x.pinned = true then
        (if x.record.condition = .normal then .degraded else x.record.condition)
      else if x.record.condition = .degraded ∧ x.record.reasons.leak = false then .normal
      else x.record.condition := by
  have hpinned : x.pinned = (x.sides.tip.pinned || x.sides.ring.pinned) := rfl
  unfold agreeTripMargin
  rw [← hpinned]
  dsimp only
  split
  · rfl
  · split
    · rfl
    · simp

theorem agreeTripMargin_reasons (x : Line) :
    (agreeTripMargin x).record.reasons = { x.record.reasons with tripMargin := x.pinned } := by
  rw [agreeTripMargin_eq]; rfl

/-- TRIP_MARGIN brought into agreement leaves a healthy line, if LEAK and the condition agreed before. -/
theorem agreeTripMargin_healthLaw {p : Params} {x : Line} (htip : SideLaw p x.sides.tip)
    (hring : SideLaw p x.sides.ring)
    (hnormal : x.record.condition = .normal ↔
      (x.record.reasons.leak = false ∧ x.record.reasons.tripMargin = false))
    (hfaulted : x.record.condition = .faulted → x.record.reasons.leak = true)
    (hsamples : x.det.sampleSum ≤ 600 * x.det.sampleCount) : HealthLaw p (agreeTripMargin x) := by
  have hcond := agreeTripMargin_condition x
  have hreasons := agreeTripMargin_reasons x
  have hsides : (agreeTripMargin x).sides = x.sides := by rw [agreeTripMargin_eq]
  have hdet : (agreeTripMargin x).det = x.det := by rw [agreeTripMargin_eq]
  refine ⟨hsides ▸ htip, hsides ▸ hring, ?_, ?_, ?_, hdet ▸ hsamples⟩
  · rw [hreasons, hsides]; rfl
  · rw [hcond, hreasons]
    cases hc : x.record.condition <;> cases hl : x.record.reasons.leak <;>
      cases ht : x.record.reasons.tripMargin <;> cases hp : x.pinned <;> simp_all
  · rw [hcond, hreasons]
    cases hc : x.record.condition <;> cases hl : x.record.reasons.leak <;>
      cases ht : x.record.reasons.tripMargin <;> cases hp : x.pinned <;> simp_all

/-- A line whose two sides are changed and computed again is healthy, if both changes keep the ranges of R72. -/
theorem updateSides_healthLaw {p q : Params} {x : Line} {f g : SideRecord → SideRecord} (hp : ParamLaw p)
    (hf : (f x.sides.tip).baseline ≤ 6000 ∧ 20 ≤ (f x.sides.tip).margin ∧ (f x.sides.tip).margin ≤ 100)
    (hg : (g x.sides.ring).baseline ≤ 6000 ∧ 20 ≤ (g x.sides.ring).margin ∧ (g x.sides.ring).margin ≤ 100)
    (h : HealthLaw q x) : HealthLaw p (updateSides p f g x) :=
  agreeTripMargin_healthLaw (computeThreshold_sideLaw hp hf.1 hf.2) (computeThreshold_sideLaw hp hg.1 hg.2)
    h.normal h.faulted h.samples

/-- The same of one side alone. -/
theorem updateSide_healthLaw {p : Params} {x : Line} {sd : Side} {f : SideRecord → SideRecord} (hp : ParamLaw p)
    (hf : ∀ y, SideLaw p y → (f y).baseline ≤ 6000 ∧ 20 ≤ (f y).margin ∧ (f y).margin ≤ 100)
    (h : HealthLaw p x) : HealthLaw p (updateSide p sd f x) := by
  have hside (y : SideRecord) (hy : SideLaw p y) : SideLaw p (computeThreshold p (f y)) :=
    computeThreshold_sideLaw hp (hf y hy).1 (hf y hy).2
  cases sd with
  | tip => exact agreeTripMargin_healthLaw (hside _ h.tip) h.ring h.normal h.faulted h.samples
  | ring => exact agreeTripMargin_healthLaw h.tip (hside _ h.ring) h.normal h.faulted h.samples

/-- A change that writes neither the trip records, the condition nor the reasons, and keeps the burst's samples in
bounds, keeps a line healthy. -/
theorem HealthLaw.of_kept {p : Params} {x y : Line} (h : HealthLaw p x) (hsides : y.sides = x.sides)
    (hcond : y.record.condition = x.record.condition) (hreasons : y.record.reasons = x.record.reasons)
    (hsamples : y.det.sampleSum ≤ 600 * y.det.sampleCount) : HealthLaw p y := by
  obtain ⟨htip, hring, hmargin, hnormal, hfaulted, -⟩ := h
  refine ⟨?_, ?_, ?_, ?_, ?_, hsamples⟩
  · rwa [hsides]
  · rwa [hsides]
  · rwa [hsides, hreasons]
  · rwa [hcond, hreasons]
  · rwa [hcond, hreasons]

/-! ### The baseline of a quiet burst (R88) -/

/-- Below the mean a step of one eighth cannot pass it, and above it the baseline falls. -/
theorem baselineUpdate_le {sum count baseline : Nat} (hsum : sum ≤ 600 * count) (hbase : baseline ≤ 6000) :
    baselineUpdate sum count baseline ≤ 6000 := by
  unfold baselineUpdate
  split
  · exact hbase
  · rename_i hcount
    have hmean : sum / count ≤ 600 := Nat.div_le_of_le_mul (by rw [Nat.mul_comm]; exact hsum)
    rcases Int.le_total 0 (((10 * (sum / count) : Nat) : Int) - baseline) with hup | hdown
    · have : (((10 * (sum / count) : Nat) : Int) - baseline).tdiv 8 = (((10 * (sum / count) : Nat) : Int) - baseline) / 8 :=
        Int.tdiv_eq_ediv_of_nonneg hup
      rw [this]
      omega
    · have : (((10 * (sum / count) : Nat) : Int) - baseline).tdiv 8 ≤ 0 := by
        rw [Int.tdiv_eq_ediv, show Int.sign 8 = 1 from rfl]; split <;> omega
      omega

theorem Line.ringEnded_healthLaw {p : Params} {x : Line} (hp : ParamLaw p) (h : HealthLaw p x) :
    HealthLaw p (x.ringEnded p) := by
  unfold Line.ringEnded
  cases hm : x.det.mode with
  | idle => exact h
  | verify => exact h
  | window => exact h.of_kept rfl rfl rfl (Nat.zero_le _)
  | watch =>
    dsimp only
    cases hs : x.det.side with
    | none => exact h.of_kept rfl rfl rfl h.samples
    | some sd =>
      dsimp only
      split
      · exact h.of_kept rfl rfl rfl h.samples
      · have hside : HealthLaw p (updateSide p sd (fun r =>
            { r with baseline := baselineUpdate x.det.sampleSum x.det.sampleCount r.baseline }) x) :=
          updateSide_healthLaw hp (fun y hy => ⟨baselineUpdate_le h.samples hy.baseline, hy.margin⟩) h
        exact hside.of_kept rfl rfl rfl hside.samples

/-! ### Tests (R89, R121) -/

/-- A line found FAULTED has LEAK. -/
theorem evaluateLeak_leak_of_faulted {p : Params} {c : Condition} {leak : Bool} {worst : Nat}
    (h : (evaluateLeak p c leak worst).1 = true) : (evaluateLeak p c leak worst).2 = true := by
  revert h
  unfold evaluateLeak
  split
  · exact fun _ => rfl
  · split
    · split <;> simp
    · split
      · simp
      · split <;> simp

theorem Line.tested_healthLaw {p : Params} {x : Line} (g : PerSide Nat) (hp : ParamLaw p) (h : HealthLaw p x) :
    HealthLaw p (x.tested p g) := by
  have hsides : HealthLaw p (updateSides p (fun r => { r with baseline := seedBaseline p.bias g.tip })
      (fun r => { r with baseline := seedBaseline p.bias g.ring }) { x with leaks := g }) :=
    updateSides_healthLaw hp ⟨Nat.min_le_left _ _, h.tip.margin⟩ ⟨Nat.min_le_left _ _, h.ring.margin⟩
      (h.of_kept (y := { x with leaks := g }) rfl rfl rfl h.samples)
  obtain ⟨htip, hring, hmargin, -, -, hsamples⟩ := hsides
  have hleak := @evaluateLeak_leak_of_faulted p x.record.condition x.record.reasons.leak (max g.tip g.ring)
  unfold Line.tested LineRecord.evaluate
  refine ⟨htip, hring, hmargin, ?_, ?_, hsamples⟩
  · dsimp only
    split
    · simp [hleak ‹_›]
    · split
      · rename_i hor
        rcases hor with e | e <;> simp [e]
      · simp_all
  · dsimp only
    split
    · exact fun _ => hleak ‹_›
    · split <;> simp

/-! ### The parameters (R75, R122, R175) -/

theorem clampTo_mem {lo hi : Nat} (v : Nat) (h : lo ≤ hi) : lo ≤ clampTo lo hi v ∧ clampTo lo hi v ≤ hi := by
  unfold clampTo; omega

/-- A parameter selected or kept lies in its range. -/
theorem selected_mem {bit : Bool} {lo hi stored : Nat} (v : Nat) (h : lo ≤ stored ∧ stored ≤ hi) :
    lo ≤ selected bit lo hi v stored ∧ selected bit lo hi v stored ≤ hi := by
  unfold selected
  split
  · exact clampTo_mem v (h.1.trans h.2)
  · exact h

/-- An upper parameter selected, kept or raised to its moved lower bound lies in its range. -/
theorem selectedAbove_mem {bit : Bool} {lo hi stored : Nat} (v : Nat) (hlo : lo ≤ hi) (h : stored ≤ hi) :
    lo ≤ selectedAbove bit lo hi v stored ∧ selectedAbove bit lo hi v stored ≤ hi := by
  unfold selectedAbove
  split
  · exact clampTo_mem v hlo
  · exact ⟨Nat.le_max_left _ _, Nat.max_le.2 ⟨hlo, h⟩⟩

theorem Params.set_paramLaw {p : Params} (mask : DByte) (values : Vector DByte 13) (h : ParamLaw p) :
    ParamLaw (p.set mask values) := by
  have hconfirm : 2 ≤ (p.set mask values).confirm ∧ (p.set mask values).confirm ≤ 6 := selected_mem _ h.confirm
  have htmin : 20 ≤ (p.set mask values).tmin ∧ (p.set mask values).tmin ≤ 100 := selected_mem _ h.tmin
  have hdegrade : 5 ≤ (p.set mask values).degradeLimit ∧ (p.set mask values).degradeLimit ≤ 200 :=
    selected_mem _ h.degradeLimit
  exact {
    confirm := hconfirm
    window := selectedAbove_mem _ (by have := hconfirm.2; unfold Params.set at this; dsimp only at this; omega)
      h.window.2
    marginDefault := selected_mem _ h.marginDefault
    tmin := htmin
    tmax := selectedAbove_mem _ (by have := htmin.2; unfold Params.set at this; dsimp only at this; omega) h.tmax.2
    bias := selected_mem _ h.bias
    ringCycles := selected_mem _ h.ringCycles
    interdigit := selected_mem _ h.interdigit
    permanentSignal := selected_mem _ h.permanentSignal
    revertHold := selected_mem _ h.revertHold
    testTick := selected_mem _ h.testTick
    degradeLimit := hdegrade
    faultLimit := selectedAbove_mem _
      (by have := hdegrade.2; unfold Params.set at this; dsimp only at this; omega) h.faultLimit.2 }

end Sys2Proof.Machine
end

section
/-! PROOFS. What every step keeps (R22, R23, R72, R103, R162, R178 and log entry 17): one relation between the states
before and after that carries the laws of the codes, the health of the lines, the reports and the link, the queue of
commands and the numbers of the jobs, with one lemma for each shared operation. -/

namespace Sys2Proof.Machine

/-! ### The relation -/

/-- What a change of state keeps apart from the reports: the commands not yet taken, the laws whose clauses look at one
line or one block, and the numbers by which completions name their jobs (a job on the head afterwards was on it before,
or has a new number). -/
structure BlocksKept (s t : State) : Prop where
  pending : t.pending = s.pending
  codes : CodeLaw s → CodeLaw t
  health : HealthLaws s → HealthLaws t
  link : LinkLaw s.link → LinkLaw t.link
  numbers : (∀ q ∈ s.msu.running, q.number < s.msu.startCount) →
    s.msu.startCount ≤ t.msu.startCount ∧
      ∀ q ∈ t.msu.running, (q ∈ s.msu.running ∨ s.msu.startCount ≤ q.number) ∧ q.number < t.msu.startCount

/-- What every step keeps: the blocks, and the report queue's law. -/
structure Keeps (s t : State) : Prop extends BlocksKept s t where
  reports : ReportLaw s → ReportLaw t

theorem BlocksKept.refl (s : State) : BlocksKept s s :=
  ⟨rfl, id, id, id, fun h => ⟨Nat.le_refl _, fun q hq => ⟨.inl hq, h q hq⟩⟩⟩

theorem BlocksKept.trans {s t u : State} (h : BlocksKept s t) (k : BlocksKept t u) : BlocksKept s u where
  pending := k.pending.trans h.pending
  codes := k.codes ∘ h.codes
  health := k.health ∘ h.health
  link := k.link ∘ h.link
  numbers hs := by
    obtain ⟨hcount, hrunning⟩ := h.numbers hs
    obtain ⟨kcount, krunning⟩ := k.numbers fun q hq => (hrunning q hq).2
    refine ⟨hcount.trans kcount, fun q hq => ⟨?_, (krunning q hq).2⟩⟩
    rcases (krunning q hq).1 with hqt | hqt
    · exact (hrunning q hqt).1
    · exact .inr (hcount.trans hqt)

theorem Keeps.refl (s : State) : Keeps s s := ⟨.refl s, id⟩

theorem Keeps.trans {s t u : State} (h : Keeps s t) (k : Keeps t u) : Keeps s u :=
  ⟨h.toBlocksKept.trans k.toBlocksKept, k.reports ∘ h.reports⟩

/-! ### Changes of lines and of the schedule -/

/-- What a change of one line may do under `Keeps`: its health is kept under the parameters in force, a party it gains
has a code that holds a pattern, and nothing becomes owed or reported. -/
structure LineKeeps (s : State) (x y : Line) : Prop where
  health : ParamLaw s.params → HealthLaw s.params x → HealthLaw s.params y
  parties : ∀ p ∈ y.record.parties, p ∈ x.record.parties ∨ s.pattern p.code ≠ []
  owed : y.dial.markerOwed = true → x.dial.markerOwed = true
  reported : y.dial.originationReported = true → x.dial.originationReported = true

theorem LineKeeps.refl (s : State) (x : Line) : LineKeeps s x x := ⟨fun _ h => h, fun _ h => .inl h, id, id⟩

/-- A change that leaves the configuration and the trip history alone. -/
theorem LineKeeps.of_kept {s : State} {x y : Line} (hsides : y.sides = x.sides)
    (hcond : y.record.condition = x.record.condition) (hreasons : y.record.reasons = x.record.reasons)
    (hparties : y.record.parties = x.record.parties)
    (hsamples : x.det.sampleSum ≤ 600 * x.det.sampleCount → y.det.sampleSum ≤ 600 * y.det.sampleCount)
    (howed : y.dial.markerOwed = true → x.dial.markerOwed = true)
    (hreported : y.dial.originationReported = true → x.dial.originationReported = true) : LineKeeps s x y where
  health _ h := h.of_kept hsides hcond hreasons (hsamples h.samples)
  parties _ hp := .inl (hparties ▸ hp)
  owed := howed
  reported := hreported

/-- A change of the lines, the buses and the schedule, with its effect on the reports' law given apart. -/
theorem Keeps.of_lines_of_law {s t : State}
    (hhealth : ∀ l, ParamLaw s.params → HealthLaw s.params (s.line l) → HealthLaw s.params (t.line l))
    (hparties : ∀ l, ∀ p ∈ (t.line l).record.parties, p ∈ (s.line l).record.parties ∨ s.pattern p.code ≠ [])
    (hcodes : t.codes = s.codes) (hparams : t.params = s.params) (hmsu : t.msu = s.msu) (hlink : t.link = s.link)
    (hpending : t.pending = s.pending) (hlaw : ReportLaw s → ReportLaw t) : Keeps s t := by
  have hpattern : t.pattern = s.pattern := by funext c; rw [State.pattern, State.pattern, hcodes]
  refine ⟨⟨hpending, fun h => ⟨?_, ?_⟩, fun h => ⟨?_, ?_⟩, fun h => hlink ▸ h, ?_⟩, hlaw⟩
  · rw [hpattern]; exact h.valid
  · intro l p hp
    rw [hpattern]
    exact (hparties l p hp).elim (h.usable l p) id
  · rw [hparams]; exact h.params
  · intro l; rw [hparams]; exact hhealth l h.params (h.lines l)
  · rw [hmsu]; exact (Keeps.refl s).numbers

/-- A change of the lines, the buses and the schedule, each line as `LineKeeps` has it. -/
theorem Keeps.of_lines {s t : State} (hlines : ∀ l, LineKeeps s (s.line l) (t.line l)) (hcodes : t.codes = s.codes)
    (hparams : t.params = s.params) (hmsu : t.msu = s.msu) (hlink : t.link = s.link)
    (hreports : t.reports = s.reports) (hpending : t.pending = s.pending) : Keeps s t := by
  refine .of_lines_of_law (fun l => (hlines l).health) (fun l => (hlines l).parties) hcodes hparams hmsu hlink hpending
    fun h => ⟨by rw [hreports]; exact h.bounded, by rw [hreports]; exact h.markers, fun l ho => ?_⟩
  obtain ⟨hreported, hpend⟩ := h.owed l ((hlines l).owed ho)
  refine ⟨?_, by rwa [State.markerPending, hreports]⟩
  by_contra hne
  exact absurd ((hlines l).reported (by simpa using hne)) (by simp [hreported])

theorem Keeps.modLine {s : State} {l : LineId} {f : Line → Line} (h : LineKeeps s (s.line l) (f (s.line l))) :
    Keeps s (s.modLine l f) :=
  .of_lines (fun m => by
    rw [State.modLine_line]
    split
    · rename_i e; rw [e]; exact h
    · exact .refl s _) rfl rfl rfl rfl rfl rfl

theorem Keeps.mapLines {s : State} {f : Line → Line} (h : ∀ l, LineKeeps s (s.line l) (f (s.line l))) :
    Keeps s (s.mapLines f) :=
  .of_lines (fun l => by rw [State.mapLines_line]; exact h l) rfl rfl rfl rfl rfl rfl

theorem Keeps.modScan (s : State) (l : LineId) (f : ScannerRecord → ScannerRecord) : Keeps s (s.modScan l f) :=
  .modLine (.of_kept rfl rfl rfl rfl id id id)

theorem Keeps.modCall (s : State) (l : LineId) (f : CallRecord → CallRecord) : Keeps s (s.modCall l f) :=
  .modLine (.of_kept rfl rfl rfl rfl id id id)

theorem Keeps.setAsg (s : State) (l : LineId) (a : Option Assignment) : Keeps s (s.setAsg l a) :=
  .modLine (.of_kept rfl rfl rfl rfl id id id)

theorem Keeps.modDet {s : State} {l : LineId} {f : DetectorRecord → DetectorRecord}
    (h : (s.line l).det.sampleSum ≤ 600 * (s.line l).det.sampleCount →
      (f (s.line l).det).sampleSum ≤ 600 * (f (s.line l).det).sampleCount) : Keeps s (s.modDet l f) :=
  .modLine (.of_kept rfl rfl rfl rfl h id id)

theorem Keeps.modDial {s : State} {l : LineId} {f : DialRecord → DialRecord}
    (howed : (f (s.line l).dial).markerOwed = true → (s.line l).dial.markerOwed = true)
    (hreported : (f (s.line l).dial).originationReported = true → (s.line l).dial.originationReported = true) :
    Keeps s (s.modDial l f) :=
  .modLine (.of_kept rfl rfl rfl rfl id howed hreported)

theorem Keeps.setCallState (s : State) (l : LineId) (st : CallState) : Keeps s (s.setCallState l st) :=
  .modLine (.of_kept (by simp) (by simp) (by simp) (by simp) (by simp) (by simp) (by simp))

theorem Keeps.modBus (s : State) (bus : Bus) (f : BusRecord → BusRecord) : Keeps s (s.modBus bus f) :=
  .of_lines (fun l => by rw [State.modBus_line]; exact .refl s _) (by simp) (by simp) (by simp) (by simp) (by simp)
    (by simp)

/-! ### The detector and the relays -/

theorem DetectorRecord.cutShort_samples {d : DetectorRecord} (cause : CutCause)
    (h : d.sampleSum ≤ 600 * d.sampleCount) :
    (d.cutShort cause).sampleSum ≤ 600 * (d.cutShort cause).sampleCount := by
  cases cause with
  | trip => exact h
  | unresolved => exact h
  | removal => exact Nat.zero_le _
  | busFault => exact Nat.zero_le _
  | budget => exact Nat.zero_le _
  | restart => exact Nat.zero_le _

theorem DetectorRecord.dropVerify_samples {d : DetectorRecord} (h : d.sampleSum ≤ 600 * d.sampleCount) :
    d.dropVerify.sampleSum ≤ 600 * d.dropVerify.sampleCount := by
  unfold DetectorRecord.dropVerify; split <;> exact h

theorem Line.earlyQuench_lineKeeps (s : State) (cause : CutCause) (x : Line) : LineKeeps s x (x.earlyQuench cause) := by
  rcases Line.earlyQuench_cases cause x with ⟨-, e⟩ | ⟨-, e⟩ | ⟨-, e⟩ <;> rw [e]
  · exact .of_kept rfl rfl rfl rfl id id id
  · exact .of_kept rfl rfl rfl rfl (DetectorRecord.cutShort_samples cause) id id
  · exact .refl s x

theorem Keeps.earlyQuench (s : State) (l : LineId) (cause : CutCause) : Keeps s (s.earlyQuench l cause) :=
  .modLine (Line.earlyQuench_lineKeeps s cause _)

/-- A fold over lines keeps what each of its steps keeps. -/
theorem Keeps.foldl {α : Type} {f : State → α → State} (h : ∀ s x, Keeps s (f s x)) (xs : List α) (s : State) :
    Keeps s (xs.foldl f s) := by
  induction xs generalizing s with
  | nil => exact .refl s
  | cons x xs ih => exact (h s x).trans (ih _)

/-! ### Reports -/

theorem count_queueWith_ne {q : List Report} {r x : Report} (h : r ≠ x) : (queueWith q r).count x = q.count x := by
  unfold queueWith
  split
  · simp [h]
  · rfl

theorem State.markerPending_queueReport_ne {s : State} {r : Report} {l : LineId} (h : r ≠ .digits l) :
    (s.queueReport r).markerPending l = s.markerPending l := by
  rw [Bool.eq_iff_iff, State.markerPending_iff, State.markerPending_iff, State.queueReport_queue,
    ← List.count_pos_iff, ← List.count_pos_iff, count_queueWith_ne h]

theorem BlocksKept.queueReport (s : State) (r : Report) : BlocksKept s (s.queueReport r) where
  pending := s.queueReport_pending r
  codes hs := by
    have hpattern : (s.queueReport r).pattern = s.pattern := (s.queueReport_scheduleKept r).pattern
    refine ⟨by rw [hpattern]; exact hs.valid, fun l => ?_⟩
    rw [hpattern, State.queueReport_line]; exact hs.usable l
  health hs := by
    refine ⟨by rw [State.queueReport_params]; exact hs.params, fun l => ?_⟩
    rw [State.queueReport_params, State.queueReport_line]; exact hs.lines l
  link hs := by rw [State.queueReport_link]; exact hs
  numbers := by rw [State.queueReport_msu]; exact (BlocksKept.refl s).numbers

/-- A report that is no DIGITS marker. -/
theorem Keeps.queueReport {s : State} {r : Report} (h : ∀ l, r ≠ .digits l) : Keeps s (s.queueReport r) :=
  ⟨.queueReport s r, fun hs => by
    refine ⟨by rw [State.queueReport_queue]; exact queueWith_length _ _ hs.bounded, fun l => ?_, fun l ho => ?_⟩
    · rw [State.queueReport_queue, count_queueWith_ne (h l)]; exact hs.markers l
    · rw [State.queueReport_line] at ho ⊢
      rw [State.markerPending_queueReport_ne (h l)]
      exact hs.owed l ho⟩

/-- A change of the report queue's block that loses entries or none, in whatever order the flag and the enables change. -/
theorem Keeps.of_sublist {s : State} {q : ReportQueue} (h : q.queue.Sublist s.reports.queue) :
    Keeps s { s with reports := q } where
  pending := rfl
  codes hs := ⟨hs.valid, hs.usable⟩
  health hs := ⟨hs.params, hs.lines⟩
  reports hs := by
    refine ⟨h.length_le.trans hs.bounded, fun l => (h.count_le _).trans (hs.markers l), fun l ho => ?_⟩
    obtain ⟨hreported, hpend⟩ := hs.owed l ho
    refine ⟨hreported, ?_⟩
    rw [← Bool.not_eq_true, State.markerPending_iff] at hpend ⊢
    exact fun hm => hpend (h.subset hm)
  link := id
  numbers := (Keeps.refl s).numbers

/-- The DIGITS marker of a line whose ORIGINATE has fallen due and that has none pending. -/
theorem ReportLaw.queueMarker {s : State} {l : LineId} (h : ReportLaw s) (hpend : s.markerPending l = false)
    (hreported : (s.line l).dial.originationReported = true) : ReportLaw (s.queueReport (.digits l)) := by
  have hcount : s.reports.queue.count (.digits l) = 0 := by
    rw [List.count_eq_zero, ← State.markerPending_iff, hpend]; decide
  refine ⟨by rw [State.queueReport_queue]; exact queueWith_length _ _ h.bounded, fun m => ?_, fun m ho => ?_⟩
  · rw [State.queueReport_queue]
    by_cases hm : m = l
    · subst hm
      unfold queueWith
      split
      · simp [hcount]
      · exact h.markers m
    · rw [count_queueWith_ne (by simpa using Ne.symm hm)]; exact h.markers m
  · rw [State.queueReport_line] at ho ⊢
    obtain ⟨hr, hp⟩ := h.owed m ho
    have hm : m ≠ l := by rintro rfl; simp [hreported] at hr
    rw [State.markerPending_queueReport_ne (by simpa using Ne.symm hm)]
    exact ⟨hr, hp⟩

/-- A change of a line's dial reception record after which a marker is owed only as the law allows. -/
theorem ReportLaw.modDial {s : State} {l : LineId} {f : DialRecord → DialRecord} (h : ReportLaw s)
    (hf : (f (s.line l).dial).markerOwed = true →
      (f (s.line l).dial).originationReported = false ∧ s.markerPending l = false) : ReportLaw (s.modDial l f) := by
  refine ⟨h.bounded, h.markers, fun m ho => ?_⟩
  by_cases hm : m = l
  · subst hm
    rw [State.modDial_line_self] at ho ⊢
    exact hf ho
  · rw [State.modDial_line_ne _ _ _ _ hm] at ho ⊢
    exact h.owed m ho

/-- A change of a dial reception record, with its effect on the queue's law given apart. -/
theorem Keeps.modDial_of_law {s : State} {l : LineId} {f : DialRecord → DialRecord}
    (h : ReportLaw s → ReportLaw (s.modDial l f)) : Keeps s (s.modDial l f) :=
  .of_lines_of_law (fun m hp hm => by
      by_cases e : m = l
      · subst e; rw [State.modDial_line_self]; exact hm.of_kept rfl rfl rfl hm.samples
      · rwa [State.modDial_line_ne _ _ _ _ e])
    (fun m p hp => by
      by_cases e : m = l
      · subst e; rw [State.modDial_line_self] at hp; exact .inl hp
      · rw [State.modDial_line_ne _ _ _ _ e] at hp; exact .inl hp)
    rfl rfl rfl rfl rfl h

theorem Keeps.markerEvent (s : State) (l : LineId) : Keeps s (s.markerEvent l) := by
  unfold State.markerEvent
  split
  · exact .refl s
  · rename_i hpend
    split
    · rename_i hreported
      exact ⟨.queueReport s _, fun h => h.queueMarker (by simpa using hpend) hreported⟩
    · rename_i hreported
      refine .modDial_of_law fun h => h.modDial fun _ => ⟨?_, by simpa using hpend⟩
      exact Bool.eq_false_iff.2 hreported

/-- ORIGINATE falls due: nothing is owed any more, and a marker that was owed has none before it in the queue. -/
theorem Keeps.originateDue (s : State) (l : LineId) (r : IdResult) (gc : Option (PerSide Nat)) :
    Keeps s (s.originateDue l r gc) := by
  have hne (m : LineId) : Report.originate l r gc ≠ .digits m := nofun
  have hdue : Keeps s (s.originated l r gc) :=
    ((Keeps.queueReport hne).trans (Keeps.modCall _ l _)).trans (.modDial_of_law fun h => h.modDial (nomatch ·))
  rw [State.originateDue_eq]
  split
  · rename_i howed
    refine ⟨hdue.toBlocksKept.trans (.queueReport _ _), fun h => (hdue.reports h).queueMarker ?_ ?_⟩
    · have hpend : (s.originated l r gc).markerPending l = (s.queueReport (.originate l r gc)).markerPending l := rfl
      rw [hpend, State.markerPending_queueReport_ne (hne l)]
      exact (h.owed l howed).2
    · rw [State.originated_line]
  · exact hdue

end Sys2Proof.Machine
end

section
/-! PROOFS. `Keeps` for every shared operation and every command and event, and the statements that are its clauses
(R22, R23, R72, R103, R162, R178; log entry 17). -/

namespace Sys2Proof.Machine

/-! ### The schedule, the measurement unit and the link -/

/-- A change of the buses and the schedule alone. -/
theorem Keeps.of_lines_eq {s t : State} (hlines : t.lines = s.lines) (hcodes : t.codes = s.codes)
    (hparams : t.params = s.params) (hmsu : t.msu = s.msu) (hlink : t.link = s.link)
    (hreports : t.reports = s.reports) (hpending : t.pending = s.pending) : Keeps s t :=
  .of_lines (fun l => by
    have e : t.line l = s.line l := by rw [State.line, State.line, hlines]
    rw [e]; exact .refl s _) hcodes hparams hmsu hlink hreports hpending

/-- A change of the measurement unit that starts no job. -/
theorem Keeps.msu {s : State} {m : MeasurementUnit} (hcount : m.startCount = s.msu.startCount)
    (hrunning : ∀ q ∈ m.running, q ∈ s.msu.running) : Keeps s { s with msu := m } where
  pending := rfl
  codes h := ⟨h.valid, h.usable⟩
  health h := ⟨h.params, h.lines⟩
  reports h := ⟨h.bounded, h.markers, h.owed⟩
  link := id
  numbers h := by
    rw [hcount]
    exact ⟨Nat.le_refl _, fun q hq => ⟨.inl (hrunning q hq), h q (hrunning q hq)⟩⟩

/-- The arbiter gives the job it starts a new number. -/
theorem Keeps.arbitrate (s : State) : Keeps s s.arbitrate := by
  rcases s.arbitrate_cases with e | ⟨l, k, hfree, -, e⟩
  · rw [e]; exact .refl s
  · rw [e]
    exact {
      pending := rfl
      codes := fun h => ⟨h.valid, h.usable⟩
      health := fun h => ⟨h.params, h.lines⟩
      reports := fun h => ⟨h.bounded, h.markers, h.owed⟩
      link := id
      numbers := fun _ => by
        refine ⟨Nat.le_succ _, fun q hq => ?_⟩
        have hnew : (⟨l, k, jobMs k, s.msu.startCount⟩ : RunningJob) = q := Option.some.inj hq
        rw [← hnew]
        exact ⟨.inr (Nat.le_refl _), Nat.lt_succ_self _⟩ }

theorem Keeps.requestJob (s : State) (l : LineId) (k : JobKind) : Keeps s (s.requestJob l k) :=
  .msu rfl fun _ => id

theorem Keeps.releaseHead (s : State) (l : LineId) : Keeps s (s.releaseHead l) := .msu rfl nofun

theorem MeasurementUnit.dropJobs_running (l : LineId) (m : MeasurementUnit) :
    ∀ q ∈ (m.dropJobs l).running, q ∈ m.running := fun _ hq => (Option.mem_filter_iff.1 hq).1

theorem Keeps.abortJobs (s : State) (l : LineId) : Keeps s (s.abortJobs l) := by
  have hdrop : Keeps s { s with msu := s.msu.dropJobs l } := .msu rfl (s.msu.dropJobs_running l)
  unfold State.abortJobs
  dsimp only
  split
  · exact hdrop.trans (.queueReport (by nofun))
  · exact hdrop

/-- A change of the link alone that keeps its law. -/
theorem Keeps.of_link {s : State} {k : Link} (h : LinkLaw s.link → LinkLaw k) : Keeps s { s with link := k } where
  pending := rfl
  codes h := ⟨h.valid, h.usable⟩
  health h := ⟨h.params, h.lines⟩
  reports h := ⟨h.bounded, h.markers, h.owed⟩
  link := h
  numbers := (Keeps.refl s).numbers

theorem State.listensOnly_iff (s : State) :
    s.listensOnly = true ↔ s.link.address = 0 ∨ s.link.address = 31 := by simp [State.listensOnly]

/-- A reply in hand is PENDING with the turnaround running, at an address that answers. -/
theorem LinkLaw.replying {k : Link} (h : LinkLaw k) (haddress : ¬(k.address = 0 ∨ k.address = 31)) (f : Frame)
    (n : Nat) (x : LinkLatches) :
    LinkLaw { k with replyState := .pending, reply := some f, turnaround := some n, latches := x } :=
  { h with inHand := by simp, turnaround := by simp, silent := fun h => absurd h haddress }

theorem Keeps.reply (kind : Byte) (a : Answer) : Keeps a.state (reply kind a) := by
  unfold Machine.reply
  split
  · exact .refl _
  · rename_i hlisten
    rw [State.listensOnly_iff] at hlisten
    exact (Keeps.of_sublist (q := { a.state.reports with lost := false }) (List.Sublist.refl _)).trans
      (.of_link fun h => h.replying hlisten _ _ _)

/-! ### The planner and the sequencer -/

theorem Keeps.place (s : State) (l : LineId) (a : Assignment) (bus : Bus) (o : Slot) : Keeps s (s.place l a bus o) :=
  ((Keeps.modBus s bus _).trans (Keeps.setAsg _ l _)).trans (.of_lines_eq rfl rfl rfl rfl rfl rfl rfl)

theorem Keeps.joinWaiting (s : State) (l : LineId) (a : Assignment) : Keeps s (s.joinWaiting l a) :=
  (Keeps.setAsg s l _).trans (.of_lines_eq rfl rfl rfl rfl rfl rfl rfl)

theorem Keeps.createAssignment (s : State) (l : LineId) (kind : AssignmentKind) (k0 : Stroke) (k1 : Option Stroke)
    (n : Nat) : Keeps s (s.createAssignment l kind k0 k1 n) := by
  have hcount : Keeps s { s with createdCount := s.createdCount + 1 } := .of_lines_eq rfl rfl rfl rfl rfl rfl rfl
  rcases s.createAssignment_cases l kind k0 k1 n with ⟨o, bus, -, e⟩ | ⟨-, e⟩ <;> rw [e]
  · exact hcount.trans (.place _ _ _ _ _)
  · exact hcount.trans (.joinWaiting _ _ _)

theorem Keeps.dropVerify (s : State) (l : LineId) : Keeps s (s.modDet l DetectorRecord.dropVerify) :=
  .modDet DetectorRecord.dropVerify_samples

theorem Keeps.removeAssignment (s : State) (l : LineId) (c : CutCause) : Keeps s (s.removeAssignment l c) := by
  cases ha : (s.line l).asg with
  | none => rw [State.removeAssignment_of_none c ha]; exact .refl s
  | some a =>
    cases hp : a.placement with
    | waiting =>
      rw [State.removeAssignment_of_waiting c ha hp]
      exact (Keeps.of_lines_eq (s := s) (t := { s with waiting := s.waiting.filter (· ≠ l) }) rfl rfl rfl rfl rfl rfl rfl).trans
        ((Keeps.setAsg _ l _).trans (.dropVerify _ l))
    | placed bus o n =>
      rw [State.removeAssignment_of_placed c ha hp]
      exact ((Keeps.modBus s bus _).trans (.earlyQuench _ l c)).trans ((Keeps.setAsg _ l _).trans (.dropVerify _ l))

theorem Keeps.unload (s : State) (l : LineId) : Keeps s (s.unload l) := by
  unfold State.unload
  split
  · split
    · exact .modBus s _ _
    · exact .refl s
  · exact .refl s

theorem Keeps.rehome (s : State) (l : LineId) : Keeps s (s.rehome l) := by
  unfold State.rehome
  split
  · split
    · split
      · exact .place _ _ _ _ _
      · exact .joinWaiting _ _ _
    · exact .refl s
  · exact .refl s

theorem Keeps.shed (bus : Bus) (ls : List LineId) (s : State) : Keeps s (shed bus ls s).2 := by
  induction ls generalizing s with
  | nil => exact .refl s
  | cons l ls ih =>
    unfold Machine.shed
    split
    · exact .refl s
    · exact (Keeps.unload s l).trans (ih _)

theorem Keeps.shedBus (s : State) (bus : Bus) : Keeps s (s.shedBus bus) :=
  ((Keeps.shed bus _ s).trans (.foldl (fun s l => .earlyQuench s l .budget) _ _)).trans (.foldl Keeps.rehome _ _)

theorem Keeps.quenchBus (s : State) (bus : Bus) : Keeps s (s.quenchBus bus) :=
  .foldl (fun s l => by split; exacts [.earlyQuench s l .busFault, .refl s]) _ _

theorem Keeps.displaceBus (s : State) (bus : Bus) : Keeps s (s.displaceBus bus) :=
  (Keeps.foldl Keeps.unload _ _).trans (.foldl Keeps.rehome _ _)

theorem Keeps.reportBus (s : State) (bus : Bus) : Keeps s (s.reportBus bus) := by
  unfold State.reportBus
  split
  · exact .queueReport (by nofun)
  · exact .modBus s bus _

theorem Keeps.walk (ls : List LineId) (s : State) : Keeps s (walk ls s) := by
  induction ls generalizing s with
  | nil => exact .refl s
  | cons l ls ih =>
    unfold Machine.walk
    split
    · exact ih s
    · split
      · exact (Keeps.place s l _ _ _).trans (ih _)
      · split
        · exact .refl s
        · exact ih s

theorem Line.endDueQuench_lineKeeps (s : State) (g : Slot) (x : Line) : LineKeeps s x (x.endDueQuench g) := by
  have hdet : x.det.sampleSum ≤ 600 * x.det.sampleCount →
      x.det.silentBegins.sampleSum ≤ 600 * x.det.silentBegins.sampleCount := by
    unfold DetectorRecord.silentBegins; split <;> exact id
  unfold Line.endDueQuench
  split
  · exact .of_kept rfl rfl rfl rfl hdet id id
  · exact .refl s x

theorem Line.takeBoundary_kept (codes : CodeId → Pattern) (g : Slot) (x : Line) :
    x.takeBoundary codes g = { x.endDueQuench g with
      relay := (x.takeBoundary codes g).relay, scan := (x.takeBoundary codes g).scan } := by
  unfold Line.takeBoundary
  dsimp only
  split <;> rfl

theorem Keeps.sequencerBoundary (s : State) : Keeps s s.sequencerBoundary :=
  .mapLines fun l => by
    obtain ⟨hhealth, hparties, howed, hreported⟩ := Line.endDueQuench_lineKeeps s s.slot (s.line l)
    rw [Line.takeBoundary_kept]
    exact ⟨fun hp hx => (hhealth hp hx).of_kept rfl rfl rfl (hhealth hp hx).samples, hparties, howed, hreported⟩

theorem Keeps.mapAssignments (s : State) (f : Assignment → Assignment) : Keeps s (s.mapAssignments f) :=
  .mapLines fun _ => .of_kept rfl rfl rfl rfl id id id

/-! ### Call control, dial reception and measurement -/

theorem Keeps.clearRevert (s : State) (l : LineId) : Keeps s (s.clearRevert l) := .modCall s l _

theorem Keeps.startPermanentSignal (s : State) (l : LineId) : Keeps s (s.startPermanentSignal l) := .modCall s l _

theorem Keeps.startRevertHold (s : State) (l : LineId) : Keeps s (s.startRevertHold l) := .modCall s l _

theorem Keeps.reopenCollection (s : State) (l : LineId) : Keeps s (s.reopenCollection l) := .modDial id id

theorem Keeps.endCollection (s : State) (l : LineId) : Keeps s (s.endCollection l) :=
  .modLine (.of_kept rfl rfl rfl rfl id id id)

theorem Keeps.completeBlock (s : State) (l : LineId) : Keeps s (s.completeBlock l) :=
  .modLine (.of_kept rfl rfl rfl rfl id id id)

theorem Keeps.removeMarker (s : State) (l : LineId) : Keeps s (s.removeMarker l) :=
  .of_sublist List.filter_sublist

theorem Keeps.emptyDigits (s : State) (l : LineId) : Keeps s (s.emptyDigits l) :=
  ((Keeps.removeMarker s l).trans (.endCollection _ l)).trans (.modDial (by simp) id)

theorem Keeps.openCollection (s : State) (l : LineId) : Keeps s (s.openCollection l) :=
  ((Keeps.emptyDigits s l).trans (.modDial id (by simp))).trans (.reopenCollection _ l)

theorem Keeps.leaveOriginating (s : State) (l : LineId) : Keeps s (s.leaveOriginating l) := by
  have habandoned : Keeps s (s.abandoned l) := by
    unfold State.abandoned
    split
    · exact (Keeps.abortJobs s l).trans (.originateDue _ l _ _)
    · exact .abortJobs s l
  rw [State.leaveOriginating_eq]
  exact habandoned.trans ((Keeps.modCall _ l _).trans (.endCollection _ l))

theorem Keeps.returnToCaller (s : State) (l : LineId) : Keeps s (s.returnToCaller l) := by
  unfold State.returnToCaller
  exact ((((Keeps.clearRevert s l).trans (.modCall _ l _)).trans (.setCallState _ l _)).trans
    (.reopenCollection _ l)).trans (.startPermanentSignal _ l)

theorem Keeps.beginReverting (s : State) (l : LineId) : Keeps s (s.beginReverting l) := by
  cases h : (s.line l).revertStrokes with
  | none => rw [State.beginReverting_of_none h]; exact .refl s
  | some p =>
    rw [State.beginReverting_of_strokes h]
    exact (Keeps.createAssignment s l _ _ _ _).trans (.setCallState _ l _)

theorem Keeps.answer (s : State) (l : LineId) (source : AnswerSource) (side : Option Side) :
    Keeps s (s.answer l source side) := by
  by_cases hringing : s.callState l = .ringing
  · rw [State.answer_of_ringing source side hringing]
    exact (((Keeps.removeAssignment s l _).trans (.setCallState _ l _)).trans (.queueReport (by nofun))).trans
      (.modCall _ l _)
  by_cases hrevert : s.callState l = .revertRinging
  · rw [State.answer_of_revertRinging source side hrevert]
    exact ((Keeps.removeAssignment s l _).trans (.setCallState _ l _)).trans (.requestJob _ l _)
  · rw [State.answer_of_not_rung source side hringing hrevert]; exact .refl s

theorem Keeps.expire (s : State) (l : LineId) : Keeps s (s.expire l) := by
  cases ha : (s.line l).asg with
  | none => rw [State.expire_of_none ha]; exact .refl s
  | some a =>
    have hidle : Keeps s ((s.removeAssignment l .removal).setCallState l .idle) :=
      (Keeps.removeAssignment s l _).trans (.setCallState _ l _)
    cases hk : a.kind with
    | plain => rw [State.expire_of_plain ha hk]; exact (hidle.trans (.queueReport (by nofun))).trans (.modCall _ l _)
    | revert => rw [State.expire_of_revert ha hk]; exact (hidle.trans (.queueReport (by nofun))).trans (.clearRevert _ l)

theorem Keeps.clearLine (s : State) (l : LineId) (st : CallState) : Keeps s (s.clearLine l st) :=
  (Keeps.setCallState s l _).trans (.queueReport (by nofun))

theorem Keeps.reportIfChanged (l : LineId) (b s : State) : Keeps s (reportIfChanged l b s) := by
  rcases reportIfChanged_cases l b s with e | e | e <;> rw [e]
  · exact .refl s
  · exact .queueReport (by nofun)
  · exact .modLine (.of_kept rfl rfl rfl rfl id id id)

/-- A change of a line's trip records and condition that keeps it healthy, and touches neither its parties nor its
dial reception record. -/
theorem LineKeeps.of_health {s : State} {x y : Line}
    (hhealth : ParamLaw s.params → HealthLaw s.params x → HealthLaw s.params y)
    (hparties : y.record.parties = x.record.parties) (hdial : y.dial = x.dial) : LineKeeps s x y :=
  ⟨hhealth, fun _ hp => .inl (hparties ▸ hp), by rw [hdial]; exact id, by rw [hdial]; exact id⟩

@[simp] theorem updateSides_parties (p : Params) (f g : SideRecord → SideRecord) (x : Line) :
    (updateSides p f g x).record.parties = x.record.parties := by
  unfold updateSides; rw [agreeTripMargin_eq]

@[simp] theorem updateSides_dial (p : Params) (f g : SideRecord → SideRecord) (x : Line) :
    (updateSides p f g x).dial = x.dial := by
  unfold updateSides; rw [agreeTripMargin_eq]

@[simp] theorem updateSide_parties (p : Params) (sd : Side) (f : SideRecord → SideRecord) (x : Line) :
    (updateSide p sd f x).record.parties = x.record.parties := by
  unfold updateSide; rw [agreeTripMargin_eq]

@[simp] theorem updateSide_dial (p : Params) (sd : Side) (f : SideRecord → SideRecord) (x : Line) :
    (updateSide p sd f x).dial = x.dial := by
  unfold updateSide; rw [agreeTripMargin_eq]

theorem Line.ringEnded_parties_dial (p : Params) (x : Line) :
    (x.ringEnded p).record.parties = x.record.parties ∧ (x.ringEnded p).dial = x.dial := by
  unfold Line.ringEnded
  split
  · dsimp only
    split
    · split
      · exact ⟨rfl, rfl⟩
      · exact ⟨updateSide_parties _ _ _ _, updateSide_dial _ _ _ _⟩
    · exact ⟨rfl, rfl⟩
  · exact ⟨rfl, rfl⟩
  · exact ⟨rfl, rfl⟩
  · exact ⟨rfl, rfl⟩

theorem Line.tested_lineKeeps (s : State) (g : PerSide Nat) (x : Line) : LineKeeps s x (x.tested s.params g) :=
  .of_health (Line.tested_healthLaw g) (by simp [Line.tested, LineRecord.evaluate])
    (by simp [Line.tested])

theorem Keeps.revertAnswered (s : State) (l : LineId) (side : Option Side) (source : AnswerSource) :
    Keeps s (s.revertAnswered l side source) :=
  ((Keeps.setCallState s l _).trans (.queueReport (by nofun))).trans (.clearRevert _ l)

theorem Keeps.modRecord_pickups (s : State) (l : LineId) (n : Nat) :
    Keeps s (s.modRecord l fun r => { r with earlyPickups := n }) :=
  .modLine (.of_kept rfl rfl rfl rfl id id id)

theorem Keeps.earlyPickup (s : State) (l : LineId) : Keeps s (s.earlyPickup l) := by
  have hcount := Keeps.modRecord_pickups s l ((s.line l).record.earlyPickups + 1)
  unfold State.earlyPickup
  dsimp only
  split
  · exact ((hcount.trans (.setCallState _ l _)).trans (.startRevertHold _ l)).trans (.queueReport (by nofun))
  · exact (hcount.trans (.returnToCaller _ l)).trans (.queueReport (by nofun))

theorem Keeps.decideAnswer (s : State) (l : LineId) (result : Option Side) : Keeps s (s.decideAnswer l result) := by
  unfold State.decideAnswer
  dsimp only
  split
  · exact .revertAnswered s l _ _
  · split
    · exact .revertAnswered s l _ _
    · split
      · exact .revertAnswered s l _ _
      · exact .earlyPickup s l

/-! ### Events of a line -/

theorem slotBoundaryStep_keeps (first : Bool) (s : State) : Keeps s (slotBoundaryStep first s) := by
  have hslot : Keeps s { s with slot := s.slot + 1 } := .of_lines_eq rfl rfl rfl rfl rfl rfl rfl
  have hcount (u : State) : Keeps u u.plannerCount := by
    unfold State.plannerCount
    split
    · exact (Keeps.mapAssignments u _).trans (.foldl Keeps.expire _ _)
    · exact .refl u
  have hage (u : State) : Keeps u u.plannerAge := by
    unfold State.plannerAge
    split
    · exact .mapAssignments u _
    · exact .refl u
  unfold slotBoundaryStep
  dsimp only
  refine hslot.trans (.trans ?_ (((hage _).trans (.walk _ _)).trans (.arbitrate _)))
  split
  · exact (Keeps.sequencerBoundary _).trans (hcount _)
  · exact (hcount _).trans (.sequencerBoundary _)

theorem armExpiryStep_keeps (l : LineId) (s : State) : Keeps s (armExpiryStep l s) := by
  unfold armExpiryStep
  split
  · exact .modLine (.of_kept rfl rfl rfl rfl (fun _ => Nat.zero_le _) id id)
  · exact .refl s

theorem ringEndStep_keeps (l : LineId) (s : State) : Keeps s (ringEndStep l s) := by
  unfold ringEndStep
  split
  · refine Keeps.trans (.modLine ?_) (.reportIfChanged l _ _)
    obtain ⟨hparties, hdial⟩ :=
      Line.ringEnded_parties_dial s.params { s.line l with relay := (s.line l).relay.quench .normal }
    exact .of_health (fun hp hx => Line.ringEnded_healthLaw hp (hx.of_kept rfl rfl rfl hx.samples)) hparties hdial
  · exact .refl s

theorem quenchEndStep_keeps (l : LineId) (s : State) : Keeps s (quenchEndStep l s) := by
  unfold quenchEndStep
  split
  · refine Keeps.trans (.modLine (.of_kept rfl rfl rfl rfl ?_ id id)) (.arbitrate _)
    intro h
    show (s.line l).det.silentBegins.sampleSum ≤ 600 * (s.line l).det.silentBegins.sampleCount
    unfold DetectorRecord.silentBegins; split <;> exact h
  · exact .refl s

theorem Keeps.windowSampled {s : State} {l : LineId} {v : Nat} (h : v ≤ 600) : Keeps s (s.windowSampled l v) :=
  .modDet fun hs => by
    show (s.line l).det.sampleSum + v ≤ 600 * ((s.line l).det.sampleCount + 1)
    omega

theorem Keeps.confirmTrip (s : State) (l : LineId) : Keeps s (s.confirmTrip l) := by
  rw [State.confirmTrip_eq]
  exact (((Keeps.earlyQuench s l .trip).trans (.modDet fun _ => Nat.zero_le _)).trans (.answer _ l _ _)).trans
    (.arbitrate _)

theorem tripSampleStep_keeps (l : LineId) (current : Nat) (s : State) : Keeps s (tripSampleStep l current s) := by
  unfold tripSampleStep
  split
  · have hv : min Config.sampleMax current ≤ 600 := Nat.min_le_left _ _
    generalize min Config.sampleMax current = v at hv
    cases hm : (s.line l).det.mode with
    | idle => rw [judgeSample_of_idle_or_verify (.inl hm)]; exact .refl s
    | verify => rw [judgeSample_of_idle_or_verify (.inr hm)]; exact .refl s
    | watch =>
      rw [judgeSample_of_watch hm]
      refine .modDet fun hs => ?_
      have hcount : ((s.line l).det.countSample v).sampleSum ≤ 600 * ((s.line l).det.countSample v).sampleCount := by
        show (s.line l).det.sampleSum + v ≤ 600 * ((s.line l).det.sampleCount + 1)
        omega
      unfold DetectorRecord.watchSample; split <;> exact hcount
    | window =>
      have hsampled := Keeps.windowSampled (s := s) (l := l) hv
      cases hverdict : ((s.windowSampled l v).line l).det.verdict s.params with
      | goesOn => rw [judgeSample_of_goesOn hm hverdict]; exact hsampled
      | trip => rw [judgeSample_of_trip hm hverdict]; exact hsampled.trans (.confirmTrip _ l)
      | unresolved =>
        rw [judgeSample_of_unresolved hm hverdict]
        exact hsampled.trans ((Keeps.earlyQuench _ l .unresolved).trans (.modDet fun _ => Nat.zero_le _))
  · exact .refl s

theorem Keeps.raiseMargin (s : State) (l : LineId) (sd : Side) : Keeps s (s.raiseMargin l sd) := by
  have hraise : Keeps s (s.modLine l (updateSide s.params sd SideRecord.raiseMargin)) :=
    .modLine (.of_health (fun hp => updateSide_healthLaw hp fun y hy =>
      ⟨hy.baseline, by
        have := hy.margin
        simp only [SideRecord.raiseMargin, Config.marginMax, Config.marginStep]
        omega⟩) (updateSide_parties _ _ _ _) (updateSide_dial _ _ _ _))
  refine (hraise.trans ?_).trans (.reportIfChanged l _ _)
  unfold State.reportNoise
  split
  · exact .queueReport (by nofun)
  · exact .modLine (.of_kept rfl rfl rfl rfl id id id)

theorem verifyTimerExpiryStep_keeps (l : LineId) (s : State) : Keeps s (verifyTimerExpiryStep l s) := by
  have hend : Keeps s (s.modDet l DetectorRecord.endVerify) := .modDet id
  unfold verifyTimerExpiryStep
  split
  · unfold verifyExpires
    dsimp only
    split
    · exact hend.trans (.raiseMargin _ l _)
    · exact hend
  · exact .refl s

theorem Keeps.classifyBreak (s : State) (l : LineId) (n : Nat) : Keeps s (s.classifyBreak l n) := by
  have hpulse : Keeps s (s.dialPulse l) := by
    unfold State.dialPulse
    split
    · exact .modLine (.of_kept rfl rfl rfl rfl id id id)
    · exact .refl s
  have hbad : Keeps s (s.badBreak l) := by
    unfold State.badBreak
    split
    · exact Keeps.trans (.modLine (.of_kept rfl rfl rfl rfl id id id)) (.markerEvent _ l)
    · exact .refl s
  unfold State.classifyBreak
  split
  · split
    · exact hpulse
    · split
      · exact hbad
      · exact .refl s
  · split
    · exact .queueReport (by nofun)
    · exact .refl s
  · exact .refl s

theorem loopSampleStep_keeps (l : LineId) (closed : Bool) (s : State) : Keeps s (loopSampleStep l closed s) := by
  have htick := Keeps.modScan s l ScannerRecord.tick
  unfold loopSampleStep
  split
  · split
    · exact .modScan s l _
    · unfold State.filterSample
      dsimp only
      refine htick.trans ?_
      split
      · exact .modScan _ l _
      · split
        · exact .modScan _ l _
        · split
          · unfold State.make
            dsimp only
            split
            · exact (Keeps.modScan _ l _).trans (.classifyBreak _ l _)
            · exact .modScan _ l _
          · exact .modScan _ l _
  · exact .refl s

theorem Keeps.originate (s : State) (l : LineId) : Keeps s (s.originate l) := by
  have hopened : Keeps s ((((s.abortJobs l).setCallState l .originating).openCollection l).startPermanentSignal l) :=
    (((Keeps.abortJobs s l).trans (.setCallState _ l _)).trans (.openCollection _ l)).trans (.startPermanentSignal _ l)
  unfold State.originate
  dsimp only
  split
  · exact hopened.trans (.originateDue _ l _ _)
  · exact hopened.trans ((Keeps.modCall _ l _).trans (.requestJob _ l _))

theorem Keeps.silenceAnswer (s : State) (l : LineId) : Keeps s (s.silenceAnswer l) := by
  unfold State.silenceAnswer
  dsimp only
  split
  · exact Keeps.trans (.modDet id) (.answer _ l _ _)
  · exact .answer s l _ _

theorem Keeps.heldClosed (s : State) (l : LineId) : Keeps s (s.heldClosed l) := by
  unfold State.heldClosed
  split
  · exact .originate s l
  · exact .silenceAnswer s l
  · exact .silenceAnswer s l
  · exact .refl s

theorem closedHoldExpiryStep_keeps (l : LineId) (s : State) : Keeps s (closedHoldExpiryStep l s) := by
  unfold closedHoldExpiryStep
  split
  · exact .refl s
  · exact ((Keeps.modScan s l _).trans (.heldClosed _ l)).trans (.arbitrate _)

theorem Keeps.breakReached (s : State) (l : LineId) : Keeps s (s.breakReached l) := by
  unfold State.breakReached
  split
  · exact (Keeps.leaveOriginating s l).trans (.clearLine _ l _)
  · exact .clearLine s l _
  · exact .clearLine s l _
  · exact (Keeps.abortJobs s l).trans (.beginReverting _ l)
  · exact (Keeps.modCall s l _).trans (.beginReverting _ l)
  · exact .refl s

theorem breakTimerExpiryStep_keeps (l : LineId) (s : State) : Keeps s (breakTimerExpiryStep l s) := by
  unfold breakTimerExpiryStep
  split
  · exact .refl s
  · exact ((Keeps.modScan s l _).trans (.breakReached _ l)).trans (.arbitrate _)

theorem DialRecord.takeDigit_marker (digit : Nat) (d : DialRecord) :
    (d.takeDigit digit).markerOwed = d.markerOwed ∧
      (d.takeDigit digit).originationReported = d.originationReported := by
  unfold DialRecord.takeDigit; dsimp only; split <;> exact ⟨rfl, rfl⟩

theorem Keeps.digitFormed (s : State) (l : LineId) (digit : Nat) : Keeps s (s.digitFormed l digit) := by
  obtain ⟨howed, hreported⟩ := DialRecord.takeDigit_marker digit (s.line l).dial
  have htaken : Keeps s ((s.modDial l (DialRecord.takeDigit digit)).startPermanentSignal l) :=
    Keeps.trans (.modDial (howed ▸ id) (hreported ▸ id)) (.startPermanentSignal _ l)
  unfold State.digitFormed
  dsimp only
  split
  · refine (htaken.trans ?_).trans (.markerEvent _ l)
    split
    · exact .completeBlock _ l
    · split
      · exact .modDial id id
      · exact .refl _
  · refine htaken.trans ?_
    split
    · exact .completeBlock _ l
    · split
      · exact .modDial id id
      · exact .refl _

theorem makeTimerExpiryStep_keeps (l : LineId) (s : State) : Keeps s (makeTimerExpiryStep l s) := by
  unfold makeTimerExpiryStep
  split
  · exact .refl s
  · have hstop := Keeps.modScan s l fun c => { c with makeTimer := none }
    dsimp only
    split
    · refine hstop.trans ?_
      unfold State.trainEnds
      dsimp only
      split
      · exact .refl _
      · split
        · exact .digitFormed _ l _
        · exact Keeps.trans (.modDial id id) (.markerEvent _ l)
    · exact hstop

theorem interdigitTimerExpiryStep_keeps (l : LineId) (s : State) : Keeps s (interdigitTimerExpiryStep l s) := by
  unfold interdigitTimerExpiryStep
  split
  · exact .refl s
  · exact (Keeps.completeBlock s l).trans (.markerEvent _ l)

theorem permanentSignalExpiryStep_keeps (l : LineId) (s : State) : Keeps s (permanentSignalExpiryStep l s) := by
  unfold permanentSignalExpiryStep
  split
  · exact ((((Keeps.leaveOriginating s l).trans (.emptyDigits _ l)).trans (.setCallState _ l _)).trans
      (.queueReport (by nofun))).trans (.arbitrate _)
  · exact .refl s

theorem revertHoldExpiryStep_keeps (l : LineId) (s : State) : Keeps s (revertHoldExpiryStep l s) := by
  unfold revertHoldExpiryStep
  split
  · exact (Keeps.returnToCaller s l).trans (.queueReport (by nofun))
  · exact .refl s

theorem assignmentExpiryStep_keeps (l : LineId) (s : State) : Keeps s (assignmentExpiryStep l s) := by
  unfold assignmentExpiryStep
  split
  · exact .refl s
  · exact (Keeps.expire s l).trans (.arbitrate _)

theorem testTickStep_keeps (s : State) : Keeps s (testTickStep s) :=
  (Keeps.msu (m := s.msu.tick s.params.testTickS) rfl fun _ => id).trans (.arbitrate _)

theorem originIdCompleteStep_keeps (tip ring : Reading) (s : State) : Keeps s (originIdCompleteStep tip ring s) := by
  unfold originIdCompleteStep
  split
  · exact ((Keeps.releaseHead s _).trans (.originateDue _ _ _ _)).trans (.arbitrate _)
  · exact .refl s

theorem answerSideCompleteStep_keeps (tip ring : Reading) (s : State) :
    Keeps s (answerSideCompleteStep tip ring s) := by
  unfold answerSideCompleteStep
  split
  · exact ((Keeps.releaseHead s _).trans (.decideAnswer _ _ _)).trans (.arbitrate _)
  · exact .refl s

theorem testCompleteStep_keeps (tip ring : Reading) (s : State) : Keeps s (testCompleteStep tip ring s) := by
  unfold testCompleteStep
  split
  · rename_i l _
    exact ((((Keeps.releaseHead s l).trans (.modLine (Line.tested_lineKeeps _ _ _))).trans (.queueReport (by nofun))).trans
      (.reportIfChanged l _ _)).trans (.arbitrate _)
  · rename_i l _
    exact (((Keeps.msu (m := { s.msu.insulationDone with running := none }) rfl nofun).trans
      (.modLine (Line.tested_lineKeeps _ _ _))).trans (.reportIfChanged l _ _)).trans (.arbitrate _)
  · exact .refl s

theorem sourceGoodChangeStep_keeps (bus : Bus) (good : Bool) (s : State) :
    Keeps s (sourceGoodChangeStep bus good s) := .modBus s bus _

theorem busFaultStep_keeps (bus : Bus) (s : State) : Keeps s (busFaultStep bus s) := by
  unfold busFaultStep
  split
  · exact (((Keeps.modBus s bus _).trans (.quenchBus _ bus)).trans (.displaceBus _ bus)).trans (.reportBus _ bus)
  · exact .refl s

theorem busRecoveryStep_keeps (bus : Bus) (s : State) : Keeps s (busRecoveryStep bus s) := by
  unfold busRecoveryStep
  split
  · exact (Keeps.modBus s bus _).trans (.reportBus _ bus)
  · exact .refl s

end Sys2Proof.Machine
end

section
/-! PROOFS. `Keeps` for the commands of the link, the characters of a frame and the resets, and the statements that are
its clauses (R22, R23, R72, R103, R162, R166, R178; log entry 17). -/

namespace Sys2Proof.Machine

/-! ### The commands' answers -/

/-- Parties that pass R9's checks all have codes that hold a pattern. -/
theorem checkParties_usable {s : State} {mode : Byte} {fields : List PartyField} {m : DialMode} {ps : List Party}
    (h : checkParties s mode fields = .ok (m, ps)) : ∀ p ∈ ps, s.pattern p.code ≠ [] := by
  unfold checkParties at h
  split at h
  · split at h
    · exact nomatch h
    · split at h
      · exact nomatch h
      · split at h
        · exact nomatch h
        · rename_i hany
          cases h
          simpa using hany
  · exact nomatch h

theorem writeLine_lineKeeps {s : State} {ps : List Party} (tip ring count : Nat) (mode : DialMode) (x : Line)
    (h : ∀ p ∈ ps, s.pattern p.code ≠ []) : LineKeeps s x (writeLine s.params tip ring mode count ps x) where
  health hp hx := by
    refine updateSides_healthLaw (q := s.params) hp ⟨hx.tip.baseline, hp.marginDefault⟩
      ⟨hx.ring.baseline, hp.marginDefault⟩ (hx.of_kept rfl rfl rfl hx.samples)
  parties p hp := by
    rw [writeLine, updateSides_parties] at hp
    exact .inr (h p ((mem_sortBy _ _ _).1 hp))
  owed := by rw [writeLine, updateSides_dial]; exact id
  reported := by rw [writeLine, updateSides_dial]; exact id

theorem Keeps.configureState (l : LineId) (unequip : Bool) (s : State) : Keeps s (configureState l unequip s) := by
  unfold Machine.configureState
  split
  · split
    · exact .refl s
    · dsimp only
      split
      · exact ((Keeps.modScan s l _).trans (.setCallState _ l _)).trans (.queueReport (by nofun))
      · exact (Keeps.modScan s l _).trans (.setCallState _ l _)
  · split
    · exact (((Keeps.abortJobs s l).trans (.emptyDigits _ l)).trans (.modScan _ l _)).trans (.setCallState _ l _)
    · exact .refl s
  · split
    · exact ((Keeps.emptyDigits s l).trans (.modScan _ l _)).trans (.setCallState _ l _)
    · exact .refl s
  · exact .refl s

theorem configureLineAnswer_keeps (line tip ring mode count : Byte) (fields : List PartyField) (s : State) :
    Keeps s (configureLineAnswer line tip ring mode count fields s).state := by
  unfold configureLineAnswer
  split
  · exact .refl s
  · split
    · exact .refl s
    · rename_i l _
      split
      · split
        · exact .refl s
        · rename_i hcheck
          exact (((Keeps.modLine (writeLine_lineKeeps _ _ _ _ _ (checkParties_usable hcheck))).trans
            (.configureState l _ _)).trans (.reportIfChanged l s _)).trans (.arbitrate _)
      · exact .refl s

theorem blockAnswer_keeps (line : Byte) (s : State) : Keeps s (blockAnswer line s).state := by
  unfold blockAnswer
  split
  · exact .refl s
  · rename_i l _
    split
    · exact .refl s
    · show Keeps s (blockAccepted l s)
      by_cases h : s.callState l = .blocked
      · rw [blockAccepted_of_blocked h]; exact .refl s
      · rw [blockAccepted_eq h]
        exact (((((Keeps.removeAssignment s l _).trans (.abortJobs _ l)).trans (.emptyDigits _ l)).trans
          (.modCall _ l _)).trans (.setCallState _ l _)).trans (.arbitrate _)

theorem unblockAnswer_keeps (line : Byte) (s : State) : Keeps s (unblockAnswer line s).state := by
  unfold unblockAnswer
  split
  · exact .refl s
  · rename_i l _
    split
    · show Keeps s (unblockAccepted l s)
      unfold unblockAccepted
      dsimp only
      split
      · exact ((Keeps.setCallState s l _).trans (.queueReport (by nofun))).trans (.arbitrate _)
      · exact (Keeps.setCallState s l _).trans (.arbitrate _)
    · exact .refl s

theorem readLineAnswer_keeps (line : Byte) (s : State) : Keeps s (readLineAnswer line s).state := by
  unfold readLineAnswer
  split
  · exact .refl s
  · dsimp only
    exact .modLine (.of_kept rfl rfl rfl rfl id id id)

theorem testLineAnswer_keeps (line : Byte) (s : State) : Keeps s (testLineAnswer line s).state := by
  unfold testLineAnswer
  split
  · exact .refl s
  · rename_i l _
    split
    · show Keeps s (testLineAccepted l s)
      unfold testLineAccepted
      split
      · exact .refl s
      · exact (Keeps.requestJob s l _).trans (.arbitrate _)
    · exact .refl s

/-- A pattern that passes R28's checks is valid, and no line uses the code it is stored for. -/
theorem checkPattern_eq_none_iff (s : State) (c : CodeId) (p : Pattern) :
    checkPattern s c p = none ↔ p.Valid ∧ s.codeInUse c = false := by
  rw [← Pattern.valid_iff]
  unfold checkPattern Pattern.valid
  by_cases hcount : p.length ≤ 4
  · have hcount' : ¬4 < p.length := Nat.not_lt.2 hcount
    by_cases hbursts : p.all Burst.valid = true
    · by_cases hspaced : spaced p = true
      · cases hused : s.codeInUse c <;> simp [hcount, hcount', hbursts, hspaced]
      · simp [hcount', hbursts, hspaced]
    · simp only [hcount', hbursts]; simp
  · simp [hcount, Nat.not_le.1 hcount]

@[simp] theorem mem_allLines (l : LineId) : l ∈ allLines := List.mem_ofFn.2 ⟨l, rfl⟩

theorem State.codeInUse_eq_false_iff (s : State) (c : CodeId) :
    s.codeInUse c = false ↔ ∀ l, (s.line l).usesCode c = false := by
  simp [State.codeInUse]

/-- The code table with one code's pattern replaced. -/
theorem State.pattern_set_codes (s : State) (c d : CodeId) (p : Pattern) :
    State.pattern { s with codes := s.codes.set c.val p c.isLt } d = if d = c then p else s.pattern d := by
  split
  · rename_i e; subst e; exact Vector.get_set_self _ _ _
  · rename_i e; exact Vector.get_set_ne _ _ _ _ e

theorem setCodeAnswer_keeps (code : Byte) (bursts : List BurstField) (s : State) :
    Keeps s (setCodeAnswer code bursts s).state := by
  unfold setCodeAnswer
  split
  · exact .refl s
  · rename_i c _
    dsimp only
    split
    · exact .refl s
    · rename_i hcheck
      obtain ⟨hvalid, hunused⟩ := (checkPattern_eq_none_iff s c _).1 hcheck
      rw [State.codeInUse_eq_false_iff] at hunused
      refine ⟨⟨rfl, fun h => ⟨fun d => ?_, fun l p hp => ?_⟩, fun h => ⟨h.params, h.lines⟩, id,
        (BlocksKept.refl s).numbers⟩, fun h => ⟨h.bounded, h.markers, h.owed⟩⟩
      · rw [State.pattern_set_codes]
        split
        · exact hvalid
        · exact h.valid d
      · rw [State.pattern_set_codes]
        split
        · rename_i e
          have hline := hunused l
          rw [Line.usesCode, Bool.or_eq_false_iff, List.any_eq_false] at hline
          exact absurd e (by simpa using hline.1 p hp)
        · exact h.usable l p hp

theorem setBusAnswer_keeps (bus budget : Byte) (s : State) : Keeps s (setBusAnswer bus budget s).state := by
  unfold setBusAnswer
  split
  · exact .refl s
  · exact (Keeps.modBus s _ _).trans (.shedBus _ _)

theorem readScheduleAnswer_keeps (bus : Byte) (s : State) : Keeps s (readScheduleAnswer bus s).state := by
  unfold readScheduleAnswer
  split
  · exact .refl s
  · dsimp only
    exact .modBus s _ _

theorem ringAnswer_keeps (line party cycles : Byte) (s : State) : Keeps s (ringAnswer line party cycles s).state := by
  unfold ringAnswer
  split
  · exact .refl s
  · rename_i l _
    split
    · exact .refl s
    · split
      · exact .refl s
      · split
        · exact .refl s
        · split
          · exact .refl s
          · split
            · exact ((((Keeps.abortJobs s l).trans (.modCall _ l _)).trans (.createAssignment _ l _ _ _ _)).trans
                (.setCallState _ l _)).trans (.arbitrate _)
            · exact .refl s

theorem Keeps.cancelEffect {l : LineId} {s t : State} (h : cancelEffect l s = some t) : Keeps s t := by
  unfold Machine.cancelEffect at h
  split at h
  · cases h
    exact ((Keeps.removeAssignment s l _).trans (.modCall _ l _)).trans (.setCallState _ l _)
  · cases h
    exact ((Keeps.removeAssignment s l _).trans (.clearRevert _ l)).trans (.setCallState _ l _)
  · cases h
    exact .returnToCaller s l
  · cases h
    exact ((Keeps.abortJobs s l).trans (.clearRevert _ l)).trans (.setCallState _ l _)
  · exact nomatch h

theorem cancelAnswer_keeps (line : Byte) (s : State) : Keeps s (cancelAnswer line s).state := by
  unfold cancelAnswer
  split
  · exact .refl s
  · split
    · exact .refl s
    · rename_i heffect
      exact (Keeps.cancelEffect heffect).trans (.arbitrate _)

theorem connectAnswer_keeps (line : Byte) (s : State) : Keeps s (connectAnswer line s).state := by
  unfold connectAnswer
  split
  · exact .refl s
  · rename_i l _
    split
    · exact ((Keeps.leaveOriginating s l).trans (.setCallState _ l _)).trans (.arbitrate _)
    · exact .refl s

theorem releaseAnswer_keeps (line : Byte) (s : State) : Keeps s (releaseAnswer line s).state := by
  unfold releaseAnswer
  split
  · exact .refl s
  · rename_i l _
    split
    · show Keeps s (releaseAccepted l s)
      unfold releaseAccepted
      dsimp only
      split
      · exact ((Keeps.leaveOriginating s l).trans (.setCallState _ l _)).trans (.arbitrate _)
      · exact (Keeps.setCallState s l _).trans (.arbitrate _)
    · exact .refl s

theorem revertAnswer_keeps (line called caller recallByte : Byte) (s : State) :
    Keeps s (revertAnswer line called caller recallByte s).state := by
  unfold revertAnswer
  split
  · exact .refl s
  · rename_i l _
    split
    · exact .refl s
    · split
      · split
        · exact .refl s
        · refine ((((Keeps.leaveOriginating s l).trans (.modLine ?_)).trans (.startRevertHold _ l)).trans
            (.setCallState _ l _)).trans (.arbitrate _)
          exact .of_kept rfl rfl rfl rfl id id id
      · exact .refl s

/-! ### POLL, the settings and the resets -/

theorem Keeps.serve (s : State) (r : Report) : Keeps s (s.serve r) := by
  unfold State.serve
  split
  · exact .modDial id id
  · exact .refl s

theorem Keeps.pollFill (n room : Nat) (s : State) : Keeps s (pollFill n room s).2.2 := by
  induction n generalizing room s with
  | zero => exact .refl s
  | succ n ih =>
    unfold Machine.pollFill
    split
    · exact .refl s
    · rename_i r rest hq
      split
      · have hrest : Keeps s { s with reports := { s.reports with queue := rest } } :=
          .of_sublist (by rw [hq]; exact List.sublist_cons_self r rest)
        exact (hrest.trans (.serve _ r)).trans (ih _ _)
      · exact .refl s

theorem pollAnswer_eq (s : State) :
    pollAnswer s = ⟨(pollFill 4 45 s).2.2, .ok, byteOf (pollFill 4 45 s).2.1 :: (pollFill 4 45 s).1⟩ := rfl

theorem pollAnswer_keeps (s : State) : Keeps s (pollAnswer s).state := by
  rw [pollAnswer_eq]; exact .pollFill _ _ s

theorem setReportsAnswer_keeps (enables : Byte) (s : State) : Keeps s (setReportsAnswer enables s).state :=
  .of_sublist (List.Sublist.refl _)

theorem Keeps.recompute (s : State) (l : LineId) : Keeps s (s.recompute l) :=
  (Keeps.modLine (.of_health (fun hp hx => updateSides_healthLaw hp ⟨hx.tip.baseline, hx.tip.margin⟩
    ⟨hx.ring.baseline, hx.ring.margin⟩ hx) (updateSides_parties _ _ _ _) (updateSides_dial _ _ _ _))).trans
      (.reportIfChanged l s _)

@[simp] theorem State.recompute_params (s : State) (l : LineId) : (s.recompute l).params = s.params := by
  rw [State.recompute, (reportIfChanged_scheduleKept l s _).params, State.modLine_params]

theorem State.recompute_othersKept (s : State) (l : LineId) : OthersKept l s (s.recompute l) :=
  (s.modLine_othersKept l _).trans (reportIfChanged_othersKept l s _)

/-- Both thresholds of a line computed again make it healthy under the parameters in force, whichever were in force
before. -/
theorem State.recompute_healthLaw {s : State} {l : LineId} {q : Params} (hp : ParamLaw s.params)
    (h : HealthLaw q (s.line l)) : HealthLaw s.params ((s.recompute l).line l) := by
  have hsides : HealthLaw s.params (updateSides s.params id id (s.line l)) :=
    updateSides_healthLaw hp ⟨h.tip.baseline, h.tip.margin⟩ ⟨h.ring.baseline, h.ring.margin⟩ h
  unfold State.recompute
  rcases reportIfChanged_cases l s (s.modLine l (updateSides s.params id id)) with e | e | e <;> rw [e]
  · rwa [State.modLine_line_self]
  · rwa [State.queueReport_line, State.modLine_line_self]
  · rw [State.modRecord_line_self, State.modLine_line_self]
    exact hsides.of_kept rfl rfl rfl hsides.samples

/-- The lines still to be computed are healthy under the parameters before, the others under those in force. -/
theorem foldl_recompute_healthLaw {p q : Params} (hp : ParamLaw p) (ls : List LineId) (s : State)
    (hparams : s.params = p) (hold : ∀ l, HealthLaw q (s.line l) ∨ HealthLaw p (s.line l))
    (hnew : ∀ l, l ∉ ls → HealthLaw p (s.line l)) (l : LineId) :
    HealthLaw p ((ls.foldl State.recompute s).line l) := by
  induction ls generalizing s with
  | nil => exact hnew l (by simp)
  | cons m ms ih =>
    have hm : HealthLaw p ((s.recompute m).line m) := by
      rw [← hparams] at hp ⊢
      exact (hold m).elim (State.recompute_healthLaw hp) (State.recompute_healthLaw hp)
    refine ih (s.recompute m) (by rw [State.recompute_params, hparams]) (fun k => ?_) fun k hk => ?_
    · by_cases e : k = m
      · exact .inr (e ▸ hm)
      · rw [s.recompute_othersKept m k e]; exact hold k
    · by_cases e : k = m
      · exact e ▸ hm
      · rw [s.recompute_othersKept m k e]; exact hnew k (by simp [e, hk])

/-- A line's health depends on the limits of the thresholds alone. -/
theorem HealthLaw.of_limits {p q : Params} {x : Line} (h : HealthLaw p x) (htmin : q.tmin = p.tmin)
    (htmax : q.tmax = p.tmax) : HealthLaw q x := by
  have hside (y : SideRecord) (hy : SideLaw p y) : SideLaw q y :=
    ⟨hy.baseline, hy.margin, by rw [htmin, htmax]; exact hy.threshold, by rw [htmax]; exact hy.pinned⟩
  exact ⟨hside _ h.tip, hside _ h.ring, h.tripMargin, h.normal, h.faulted, h.samples⟩

theorem setParametersAccepted_of_limits {mask : DByte} {values : Vector DByte 13} {s : State}
    (htmin : (s.params.set mask values).tmin = s.params.tmin) (htmax : (s.params.set mask values).tmax = s.params.tmax) :
    setParametersAccepted mask values s = { s with params := s.params.set mask values } :=
  if_neg (by simp [htmin, htmax])

theorem setParametersAccepted_of_moved {mask : DByte} {values : Vector DByte 13} {s : State}
    (h : (s.params.set mask values).tmin ≠ s.params.tmin ∨ (s.params.set mask values).tmax ≠ s.params.tmax) :
    setParametersAccepted mask values s =
      allLines.foldl State.recompute { s with params := s.params.set mask values } := if_pos h

theorem foldl_recompute_params (ls : List LineId) (s : State) : (ls.foldl State.recompute s).params = s.params := by
  induction ls generalizing s with
  | nil => rfl
  | cons l ls ih => rw [List.foldl_cons, ih, State.recompute_params]

theorem setParametersAccepted_healthLaws {mask : DByte} {values : Vector DByte 13} {s : State} (h : HealthLaws s) :
    HealthLaws (setParametersAccepted mask values s) := by
  have hp : ParamLaw (s.params.set mask values) := Params.set_paramLaw mask values h.params
  by_cases hmoved : (s.params.set mask values).tmin ≠ s.params.tmin ∨ (s.params.set mask values).tmax ≠ s.params.tmax
  · have hall : ∀ l, l ∈ allLines := mem_allLines
    rw [setParametersAccepted_of_moved hmoved]
    generalize allLines = ls at hall
    generalize s.params.set mask values = p at hp
    constructor
    · rw [foldl_recompute_params]; exact hp
    · rw [foldl_recompute_params]
      exact foldl_recompute_healthLaw hp ls _ rfl (fun l => .inl (h.lines l)) (fun l hl => absurd (hall l) hl)
  · simp only [ne_eq, not_or, not_not] at hmoved
    rw [setParametersAccepted_of_limits hmoved.1 hmoved.2]
    exact ⟨hp, fun l => (h.lines l).of_limits hmoved.1 hmoved.2⟩

theorem setParametersAnswer_keeps (mask : DByte) (values : Vector DByte 13) (s : State) :
    Keeps s (setParametersAnswer mask values s).state := by
  show Keeps s (setParametersAccepted mask values s)
  have hkeeps : Keeps { s with params := s.params.set mask values } (setParametersAccepted mask values s) := by
    by_cases hmoved : (s.params.set mask values).tmin ≠ s.params.tmin ∨
        (s.params.set mask values).tmax ≠ s.params.tmax
    · rw [setParametersAccepted_of_moved hmoved]; exact .foldl Keeps.recompute _ _
    · simp only [ne_eq, not_or, not_not] at hmoved
      rw [setParametersAccepted_of_limits hmoved.1 hmoved.2]; exact .refl _
  have hhealth : HealthLaws s → HealthLaws (setParametersAccepted mask values s) := setParametersAccepted_healthLaws
  generalize setParametersAccepted mask values s = u at hkeeps hhealth
  exact ⟨⟨hkeeps.pending, fun h => hkeeps.codes ⟨h.valid, h.usable⟩, hhealth, hkeeps.link, hkeeps.numbers⟩,
    fun h => hkeeps.reports ⟨h.bounded, h.markers, h.owed⟩⟩

theorem Line.restarted_lineKeeps (s : State) (x : Line) : LineKeeps s x x.restarted :=
  .of_kept rfl rfl rfl rfl (fun _ => Nat.zero_le _) (by simp [Line.restarted, DialRecord.powerOn])
    (by simp [Line.restarted, DialRecord.powerOn])

theorem restartAll_keeps (s : State) : Keeps s (restartAll s) := by
  have hring : Keeps s s.endRinging :=
    (Keeps.foldl (fun t l => .removeAssignment t l .restart) _ _).trans
      (.foldl (fun t l => .earlyQuench t l .restart) _ _)
  have hlines : Keeps s (s.endRinging.mapLines Line.restarted) :=
    hring.trans (.mapLines fun l => Line.restarted_lineKeeps _ _)
  have hparked (u : State) (l : LineId) : Keeps u (u.reportParked l) := by
    unfold State.reportParked
    split
    · exact .queueReport (by nofun)
    · exact .refl u
  unfold restartAll
  dsimp only
  generalize s.endRinging.mapLines Line.restarted = t at hlines
  have hjobs : Keeps t { t with msu := { t.msu with jobs := [], running := none } } := .msu rfl nofun
  have hempty : Keeps { t with msu := { t.msu with jobs := [], running := none } }
      { t with msu := { t.msu with jobs := [], running := none }
               reports := { t.reports with queue := [], lost := false } } :=
    .of_sublist (List.nil_sublist _)
  have hrestarted := Keeps.queueReport (s := { t with msu := { t.msu with jobs := [], running := none }
                                                      reports := { t.reports with queue := [], lost := false } })
    (r := .restarted) (by nofun)
  exact (((hlines.trans hjobs).trans hempty).trans hrestarted).trans ((Keeps.foldl hparked _ _).trans (.arbitrate _))

theorem restartStep_keeps (broadcast : Bool) (s : State) : Keeps s (restartStep broadcast s) := by
  have hall := restartAll_keeps s
  unfold restartStep
  generalize restartAll s = u at hall
  split
  · exact hall
  · exact hall.trans (.reply _ ⟨u, .ok, []⟩)

/-- Whatever command the link hands on, its block's part and its reply keep what every step keeps. -/
theorem runCommand_keeps (i : Instr) (s : State) : Keeps s (runCommand i s) := by
  cases i with
  | poll => exact (pollAnswer_keeps s).trans (.reply _ _)
  | restart b => exact restartStep_keeps b s
  | setParameters mask values => exact (setParametersAnswer_keeps mask values s).trans (.reply _ _)
  | setReports e => exact (setReportsAnswer_keeps e s).trans (.reply _ _)
  | configureLine l t r m n ps => exact (configureLineAnswer_keeps l t r m n ps s).trans (.reply _ _)
  | block l => exact (blockAnswer_keeps l s).trans (.reply _ _)
  | unblock l => exact (unblockAnswer_keeps l s).trans (.reply _ _)
  | readLine l => exact (readLineAnswer_keeps l s).trans (.reply _ _)
  | testLine l => exact (testLineAnswer_keeps l s).trans (.reply _ _)
  | setCode c bs => exact (setCodeAnswer_keeps c bs s).trans (.reply _ _)
  | setBus b n => exact (setBusAnswer_keeps b n s).trans (.reply _ _)
  | readSchedule b => exact (readScheduleAnswer_keeps b s).trans (.reply _ _)
  | ring l p n => exact (ringAnswer_keeps l p n s).trans (.reply _ _)
  | cancel l => exact (cancelAnswer_keeps l s).trans (.reply _ _)
  | connect l => exact (connectAnswer_keeps l s).trans (.reply _ _)
  | release l => exact (releaseAnswer_keeps l s).trans (.reply _ _)
  | revert l d r x => exact (revertAnswer_keeps l d r x s).trans (.reply _ _)
  | unknownKind k p => exact Keeps.reply 0xFF (refuse .unknownKind s)
  | _ => exact .refl s

/-! ### The receiver (R166, R167) -/

/-- What the link's law says of its receiver alone. -/
structure ReceiverLaw (r : Receiver) : Prop where
  hunting : r.mode = .hunt → r = .hunting
  gapTimer : r.mode = .assemble → r.gapTimer ≠ none
  length : r.length ≤ 48
  atStart : r.next = .kind ∨ r.next = .length → r.payload = []
  inPayload : r.next = .payload → r.payload.length < r.length
  atCheck : r.next = .checkLow ∨ r.next = .checkHigh → r.payload.length = r.length
  broadcast : r.mode = .assemble → (r.broadcast = true ↔ r.address = 31)

theorem LinkLaw.receiverLaw {k : Link} (h : LinkLaw k) : ReceiverLaw k.receiver :=
  ⟨h.hunting, h.gapTimer, h.length, h.atStart, h.inPayload, h.atCheck, h.broadcast⟩

theorem LinkLaw.withReceiver {k : Link} (h : LinkLaw k) {r : Receiver} (hr : ReceiverLaw r) :
    LinkLaw { k with receiver := r } :=
  ⟨h.inHand, h.turnaround, h.silent, hr.hunting, hr.gapTimer, hr.length, hr.atStart, hr.inPayload, hr.atCheck,
    hr.broadcast⟩

theorem Receiver.hunting_receiverLaw : ReceiverLaw .hunting := by
  constructor <;> simp [Receiver.hunting]

theorem Receiver.start_receiverLaw (b : Byte) : ReceiverLaw (.start b) := by
  constructor <;> simp [Receiver.start, Receiver.hunting]

theorem Keeps.setReceiver {s : State} {r : Receiver} (h : ReceiverLaw s.link.receiver → ReceiverLaw r) :
    Keeps s (s.setReceiver r) :=
  .of_link fun hs => hs.withReceiver (h hs.receiverLaw)

theorem Keeps.toHunt (s : State) : Keeps s s.toHunt := .setReceiver fun _ => Receiver.hunting_receiverLaw

theorem Keeps.latch (s : State) (f : LinkLatches → LinkLatches) : Keeps s (s.latch f) :=
  .of_link fun h => ⟨h.inHand, h.turnaround, h.silent, h.hunting, h.gapTimer, h.length, h.atStart, h.inPayload,
    h.atCheck, h.broadcast⟩

theorem huntCharacter_keeps (c : LinkChar) (s : State) : Keeps s (huntCharacter c s) := by
  unfold huntCharacter
  split
  · exact .setReceiver fun _ => Receiver.start_receiverLaw _
  · exact .refl s

theorem commandPath_keeps (kind : Byte) (payload : List Byte) (s : State) : Keeps s (commandPath kind payload s) := by
  unfold commandPath
  split
  · exact runCommand_keeps _ s
  · exact Keeps.reply _ (refuse .badLength s)
  · exact Keeps.reply _ (refuse .unknownKind s)

theorem frameComplete_keeps (r : Receiver) (b : Byte) (s : State) : Keeps s (frameComplete r b s) := by
  unfold frameComplete
  dsimp only
  split
  · exact (Keeps.toHunt s).trans (.latch _ _)
  · split
    · split
      · exact (Keeps.toHunt s).trans (restartStep_keeps true _)
      · exact .toHunt s
    · split
      · exact (Keeps.toHunt s).trans (commandPath_keeps _ _ _)
      · exact (Keeps.toHunt s).trans (.latch _ _)

/-- A data character moves the assembly on as R166's table says, from any position that the law allows. -/
theorem assembleData_keeps {b : Byte} {s : State} (hmode : s.link.receiver.mode = .assemble) :
    Keeps s (assembleData b s) := by
  unfold assembleData
  dsimp only
  split
  · rename_i hnext
    refine .setReceiver fun h => ⟨fun hm => ?_, fun _ => by simp, h.length, fun _ => h.atStart (.inl hnext), ?_, ?_,
      h.broadcast⟩
    · exact absurd (hmode.symm.trans hm) (by decide)
    · simp
    · simp
  · rename_i hnext
    split
    · rename_i hlen
      refine .setReceiver fun h => ?_
      have hempty := h.atStart (.inr hnext)
      refine ⟨fun hm => absurd (hmode.symm.trans hm) (by decide), fun _ => by simp, hlen, ?_, ?_, ?_, h.broadcast⟩
      · dsimp only; split <;> simp
      · dsimp only
        split
        · simp
        · rename_i hb
          intro _
          rw [hempty]
          exact Nat.pos_of_ne_zero fun e => hb (BitVec.eq_of_toNat_eq e)
      · dsimp only
        split
        · rename_i hb; simp [hempty, hb]
        · simp
    · exact (Keeps.latch s _).trans (.toHunt _)
  · rename_i hnext
    refine .setReceiver fun h => ?_
    have hroom := h.inPayload hnext
    refine ⟨fun hm => absurd (hmode.symm.trans hm) (by decide), fun _ => by simp, h.length, ?_, ?_, ?_, h.broadcast⟩
    · dsimp only; split <;> simp
    · dsimp only
      split
      · rename_i hmore; exact fun _ => hmore
      · simp
    · dsimp only
      split
      · simp
      · rename_i hfull
        intro _
        rw [List.length_append, List.length_singleton] at hfull ⊢
        omega
  · rename_i hnext
    refine .setReceiver fun h => ⟨fun hm => absurd (hmode.symm.trans hm) (by decide), fun _ => by simp, h.length, ?_,
      ?_, fun _ => h.atCheck (.inl hnext), h.broadcast⟩
    · simp
    · simp
  · exact frameComplete_keeps _ _ _

theorem linkCharacterStep_keeps (c : LinkChar) (s : State) : Keeps s (linkCharacterStep c s) := by
  unfold linkCharacterStep
  split
  · exact huntCharacter_keeps c s
  · rename_i hmode
    unfold assembleCharacter
    split
    · exact (Keeps.latch s _).trans (.toHunt _)
    · split
      · exact (Keeps.toHunt s).trans (huntCharacter_keeps c _)
      · exact assembleData_keeps hmode

theorem gapTimerExpiryStep_keeps (s : State) : Keeps s (gapTimerExpiryStep s) := by
  unfold gapTimerExpiryStep
  split
  · exact (Keeps.latch s _).trans (.toHunt _)
  · exact .refl s

theorem turnaroundExpiryStep_keeps (s : State) : Keeps s (turnaroundExpiryStep s) := by
  unfold turnaroundExpiryStep
  split
  · rename_i hpending
    refine .of_link fun h => { h with inHand := ?_, turnaround := by simp, silent := fun ha => ?_ }
    · have := h.inHand; rw [hpending] at this; simpa using this
    · have := h.silent ha; rw [hpending] at this; exact nomatch this
  · exact .refl s

theorem replyEndStep_keeps (s : State) : Keeps s (replyEndStep s) := by
  unfold replyEndStep
  split
  · rename_i hsending
    refine .of_link fun h => { h with inHand := by simp, turnaround := ?_, silent := fun _ => rfl }
    have := h.turnaround; rw [hsending] at this; simpa using this
  · exact .refl s

/-! ### Every command and event -/

/-- A command of the link is run as the command path runs it (R173). -/
theorem exec_eq_runCommand {i : Instr} {kp : Byte × List Byte} (h : encodeCommand i = some kp) (s : State) :
    exec i s = .next (runCommand i s) := by
  cases i with
  | powerOn | linkCharacter | gapTimerExpiry | turnaroundExpiry | replyEnd | slotBoundary | assignmentExpiry
  | armExpiry | ringEnd | quenchEnd | tripSample | verifyTimerExpiry | loopSample | closedHoldExpiry
  | breakTimerExpiry | makeTimerExpiry | interdigitTimerExpiry | permanentSignalExpiry | revertHoldExpiry | testTick
  | originIdComplete | answerSideComplete | testComplete | sourceGoodChange | busFault | busRecovery => exact nomatch h
  | _ => rfl

/-- Every command and event but POWER_ON answers a state, and keeps what every step keeps. -/
theorem exec_keeps {c : Instr} (h : ∀ address rate goodA goodB, c ≠ .powerOn address rate goodA goodB) (s : State) :
    ∃ t, exec c s = .next t ∧ Keeps s t := by
  cases he : encodeCommand c with
  | some kp => exact ⟨_, exec_eq_runCommand he s, runCommand_keeps c s⟩
  | none =>
  cases c with
  | powerOn address rate goodA goodB => exact absurd rfl (h address rate goodA goodB)
  | restart broadcast => exact ⟨_, rfl, restartStep_keeps broadcast s⟩
  | linkCharacter c => exact ⟨_, rfl, linkCharacterStep_keeps c s⟩
  | gapTimerExpiry => exact ⟨_, rfl, gapTimerExpiryStep_keeps s⟩
  | turnaroundExpiry => exact ⟨_, rfl, turnaroundExpiryStep_keeps s⟩
  | replyEnd => exact ⟨_, rfl, replyEndStep_keeps s⟩
  | slotBoundary first => exact ⟨_, rfl, slotBoundaryStep_keeps first s⟩
  | assignmentExpiry l => exact ⟨_, rfl, assignmentExpiryStep_keeps l s⟩
  | armExpiry l => exact ⟨_, rfl, armExpiryStep_keeps l s⟩
  | ringEnd l => exact ⟨_, rfl, ringEndStep_keeps l s⟩
  | quenchEnd l => exact ⟨_, rfl, quenchEndStep_keeps l s⟩
  | tripSample l current => exact ⟨_, rfl, tripSampleStep_keeps l current s⟩
  | verifyTimerExpiry l => exact ⟨_, rfl, verifyTimerExpiryStep_keeps l s⟩
  | loopSample l closed => exact ⟨_, rfl, loopSampleStep_keeps l closed s⟩
  | closedHoldExpiry l => exact ⟨_, rfl, closedHoldExpiryStep_keeps l s⟩
  | breakTimerExpiry l => exact ⟨_, rfl, breakTimerExpiryStep_keeps l s⟩
  | makeTimerExpiry l => exact ⟨_, rfl, makeTimerExpiryStep_keeps l s⟩
  | interdigitTimerExpiry l => exact ⟨_, rfl, interdigitTimerExpiryStep_keeps l s⟩
  | permanentSignalExpiry l => exact ⟨_, rfl, permanentSignalExpiryStep_keeps l s⟩
  | revertHoldExpiry l => exact ⟨_, rfl, revertHoldExpiryStep_keeps l s⟩
  | testTick => exact ⟨_, rfl, testTickStep_keeps s⟩
  | originIdComplete tip ring => exact ⟨_, rfl, originIdCompleteStep_keeps tip ring s⟩
  | answerSideComplete tip ring => exact ⟨_, rfl, answerSideCompleteStep_keeps tip ring s⟩
  | testComplete tip ring => exact ⟨_, rfl, testCompleteStep_keeps tip ring s⟩
  | sourceGoodChange bus good => exact ⟨_, rfl, sourceGoodChangeStep_keeps bus good s⟩
  | busFault bus => exact ⟨_, rfl, busFaultStep_keeps bus s⟩
  | busRecovery bus => exact ⟨_, rfl, busRecoveryStep_keeps bus s⟩
  | _ => exact nomatch he

/-- A step either idles, is a POWER_ON, or keeps what every other step keeps (of the state with its queue's rest, which
no law reads). -/
theorem step_cases {s t : State} (h : step s = .next t) :
    t = s ∨ (∃ address rate goodA goodB rest, t = { State.powerOn address rate goodA goodB with pending := rest }) ∨
      ∃ rest, Keeps { s with pending := rest } t := by
  unfold step at h
  split at h
  · exact .inl (Host.Outcome.next.inj h).symm
  · rename_i i rest hp
    by_cases hc : ∀ address rate goodA goodB, i ≠ .powerOn address rate goodA goodB
    · obtain ⟨u, hu, hkeeps⟩ := exec_keeps hc { s with pending := rest }
      exact .inr (.inr ⟨rest, Host.Outcome.next.inj (hu.symm.trans h) ▸ hkeeps⟩)
    · push Not at hc
      obtain ⟨address, rate, goodA, goodB, rfl⟩ := hc
      exact .inr (.inl ⟨address, rate, goodA, goodB, rest, (Host.Outcome.next.inj h).symm⟩)

/-! ### The statements -/

/-- Settles O1. No command or event but POWER_ON writes the queue, which is a clause of `Keeps`, and POWER_ON puts it
back. -/
theorem stepTakesFrontCommand : Obligations.StepTakesFrontCommand := by
  unfold Obligations.StepTakesFrontCommand
  refine ⟨⟨fun c s => rfl, fun s h => by rw [step, h]⟩, fun c s => ?_⟩
  by_cases h : ∀ address rate goodA goodB, c ≠ .powerOn address rate goodA goodB
  · obtain ⟨t, ht, hkeeps⟩ := exec_keeps h s
    exact ⟨t, ht, hkeeps.pending⟩
  · push Not at h
    obtain ⟨address, rate, goodA, goodB, rfl⟩ := h
    exact ⟨_, exec_powerOn address rate goodA goodB s, rfl⟩

/-- Settles O14. -/
theorem stepKeepsTheCodeLaw : Obligations.StepKeepsTheCodeLaw := by
  unfold Obligations.StepKeepsTheCodeLaw
  intro s t hs h
  rcases step_cases h with rfl | ⟨address, rate, goodA, goodB, rest, rfl⟩ | ⟨rest, hkeeps⟩
  · exact hs
  · have hon := State.powerOn_codeLaw address rate goodA goodB
    exact ⟨hon.valid, hon.usable⟩
  · exact hkeeps.codes ⟨hs.valid, hs.usable⟩

/-- Settles O15. -/
theorem stepKeepsTheHealthLaws : Obligations.StepKeepsTheHealthLaws := by
  unfold Obligations.StepKeepsTheHealthLaws
  intro s t hs h
  rcases step_cases h with rfl | ⟨address, rate, goodA, goodB, rest, rfl⟩ | ⟨rest, hkeeps⟩
  · exact hs
  · have hon := State.powerOn_healthLaws address rate goodA goodB
    exact ⟨hon.params, hon.lines⟩
  · exact hkeeps.health ⟨hs.params, hs.lines⟩

/-- Settles O16. -/
theorem stepKeepsTheReportLaw : Obligations.StepKeepsTheReportLaw := by
  unfold Obligations.StepKeepsTheReportLaw
  intro s t hs h
  rcases step_cases h with rfl | ⟨address, rate, goodA, goodB, rest, rfl⟩ | ⟨rest, hkeeps⟩
  · exact hs
  · have hon := State.powerOn_reportLaw address rate goodA goodB
    exact ⟨hon.bounded, hon.markers, hon.owed⟩
  · exact hkeeps.reports ⟨hs.bounded, hs.markers, hs.owed⟩

/-- Settles O17. -/
theorem stepKeepsTheLinkLaw : Obligations.StepKeepsTheLinkLaw := by
  unfold Obligations.StepKeepsTheLinkLaw
  intro s t hs h
  rcases step_cases h with rfl | ⟨address, rate, goodA, goodB, rest, rfl⟩ | ⟨rest, hkeeps⟩
  · exact hs
  · exact Link.powerOn_linkLaw address rate
  · exact hkeeps.link hs

/-! ### Jobs that have ended (R114, R119, R129) -/

/-- A completion that finds no job of its own kind changes nothing. -/
theorem originIdCompleteStep_of_not_found {tip ring : Reading} {s : State}
    (h : ∀ r ∈ s.msu.running, ¬(tip.job = r.number ∧ ring.job = r.number ∧ r.kind = .originId)) :
    originIdCompleteStep tip ring s = s := by
  unfold originIdCompleteStep
  split
  · rename_i hfound
    obtain ⟨r, hr, htip, hring, -, hk⟩ := (s.completing_iff tip ring _ _).1 hfound
    exact absurd ⟨htip, hring, hk⟩ (h r hr)
  · rfl

theorem answerSideCompleteStep_of_not_found {tip ring : Reading} {s : State}
    (h : ∀ r ∈ s.msu.running, ¬(tip.job = r.number ∧ ring.job = r.number ∧ r.kind = .answerSide)) :
    answerSideCompleteStep tip ring s = s := by
  unfold answerSideCompleteStep
  split
  · rename_i hfound
    obtain ⟨r, hr, htip, hring, -, hk⟩ := (s.completing_iff tip ring _ _).1 hfound
    exact absurd ⟨htip, hring, hk⟩ (h r hr)
  · rfl

theorem testCompleteStep_of_not_found {tip ring : Reading} {s : State}
    (h : ∀ r ∈ s.msu.running, ¬(tip.job = r.number ∧ ring.job = r.number ∧
      (r.kind = .hostTest ∨ r.kind = .insulation))) : testCompleteStep tip ring s = s := by
  unfold testCompleteStep
  split
  · rename_i hfound
    obtain ⟨r, hr, htip, hring, -, hk⟩ := (s.completing_iff tip ring _ _).1 hfound
    exact absurd ⟨htip, hring, .inl hk⟩ (h r hr)
  · rename_i hfound
    obtain ⟨r, hr, htip, hring, -, hk⟩ := (s.completing_iff tip ring _ _).1 hfound
    exact absurd ⟨htip, hring, .inr hk⟩ (h r hr)
  · rfl

/-- Settles O50. A job on the head after an event was there before it or has a number of its own, so the readings of a
job that has left the head name no job any more. -/
theorem endedJobsAreNotFound : Obligations.EndedJobsAreNotFound := by
  unfold Obligations.EndedJobsAreNotFound
  refine ⟨fun tip ring s => ⟨fun h => ?_, fun h => ?_, fun h => ?_⟩, fun c s t r hnumbers hc hr ht hoff => ?_⟩
  · exact congrArg Host.Outcome.next (originIdCompleteStep_of_not_found h)
  · exact congrArg Host.Outcome.next (answerSideCompleteStep_of_not_found h)
  · exact congrArg Host.Outcome.next (testCompleteStep_of_not_found h)
  · obtain ⟨u, hu, hkeeps⟩ := exec_keeps hc s
    obtain rfl : u = t := Host.Outcome.next.inj (hu.symm.trans ht)
    have hnew : ∀ q ∈ u.msu.running, r.number < q.number ∧ q.number < u.msu.startCount := by
      intro q hq
      obtain ⟨hfrom, hcount⟩ := (hkeeps.numbers hnumbers).2 q hq
      refine ⟨?_, hcount⟩
      rcases hfrom with hold | hlater
      · have hqr : r = q := Option.some.inj (hr.symm.trans hold)
        exact absurd (hqr ▸ hq) hoff
      · exact (hnumbers r hr).trans_le hlater
    refine ⟨hnew, fun tip ring htip _ => ?_⟩
    have hne (q : RunningJob) (hq : q ∈ u.msu.running) : tip.job ≠ q.number := by
      have := (hnew q hq).1
      omega
    exact ⟨congrArg Host.Outcome.next (originIdCompleteStep_of_not_found fun q hq h => hne q hq h.1),
      congrArg Host.Outcome.next (answerSideCompleteStep_of_not_found fun q hq h => hne q hq h.1),
      congrArg Host.Outcome.next (testCompleteStep_of_not_found fun q hq h => hne q hq h.1)⟩

end Sys2Proof.Machine
end

section
/-! PROOFS. Replies and their status byte, the reads, the code table's command, the source-good filter, the relay phases
and the threshold of a side (R16, R28, R31, R33, R51, R54, R58, R62, R63, R73, R171, R174). -/

namespace Sys2Proof.Machine

/-! ### Operand bytes -/

@[simp] theorem byteOf_toNat {n : Nat} (h : n < 256) : (byteOf n).toNat = n := by
  simpa [byteOf] using Nat.mod_eq_of_lt h

/-- A byte field of a reply is the byte a command carried. -/
@[simp] theorem byteOf_byte_toNat (b : Byte) : byteOf b.toNat = b := by simp [byteOf]

@[simp] theorem readNumber_numberByte (n : Fin 8) : readNumber (numberByte n) = some n := by
  have hn := n.isLt
  have hb : (numberByte n).toNat = n.val + 1 := byteOf_toNat (by omega)
  simp only [readNumber, hb]
  rw [dif_pos (by omega)]
  simp

theorem readNumber_of_out {b : Byte} (h : b.toNat < 1 ∨ 8 < b.toNat) : readNumber b = none := by
  rw [readNumber, dif_neg (by omega)]

@[simp] theorem readBus_busByte (bus : Bus) : readBus (busByte bus) = some bus := by cases bus <;> rfl

theorem readBus_of_gt {b : Byte} (h : 1 < b.toNat) : readBus b = none := by
  have h0 : b ≠ 0 := by rintro rfl; simp at h
  have h1 : b ≠ 1 := by rintro rfl; simp at h
  rw [readBus, if_neg h0, if_neg h1]

/-! ### Replies (R171, R174) -/

/-- Bit `i` of a packed byte is flag `i`. -/
theorem flagByte_getLsbD (bs : List Bool) (i : Nat) (h : i < 8) : (flagByte bs).getLsbD i = bs.getD i false := by
  induction bs generalizing i with
  | nil => simp [flagByte]
  | cons b bs ih =>
    cases i with
    | zero => cases b <;> simp [flagByte]
    | succ i =>
      have hi : i < 8 := by omega
      have hrest : (flagByte (b :: bs)).getLsbD (i + 1) = (flagByte bs).getLsbD i := by
        cases b <;> simp [flagByte, h, -BitVec.getLsbD_eq_getElem]
      rw [hrest, ih i hi, List.getD_cons_succ]

theorem reply_of_listensOnly (kind : Byte) {a : Answer} (h : a.state.listensOnly = true) : reply kind a = a.state :=
  if_pos h

theorem reply_of_answers (kind : Byte) {a : Answer} (h : a.state.listensOnly = false) :
    reply kind a = { a.state with
      link := { a.state.link with replyState := .pending, reply := some (replyFrame kind a)
                                  turnaround := some 22, latches := .clear }
      reports := { a.state.reports with lost := false } } := if_neg (by simp [h])

/-- Settles O7. The bits of the status byte are its flags. -/
theorem replyCarriesAndClearsTheLatches : Obligations.ReplyCarriesAndClearsTheLatches := by
  unfold Obligations.ReplyCarriesAndClearsTheLatches
  intro kind u result fields
  refine ⟨fun h => reply_of_listensOnly kind ((State.listensOnly_iff u).2 h), fun h0 h31 => ?_⟩
  have hanswers : u.listensOnly = false := by
    rw [← Bool.not_eq_true, State.listensOnly_iff]; exact not_or.2 ⟨h0, h31⟩
  refine ⟨u.statusByte, reply_of_answers kind (a := ⟨u, result, fields⟩) hanswers, ?_⟩
  have hbit (i : Nat) (h : i < 8) := flagByte_getLsbD [!u.reports.queue.isEmpty, u.reports.lost,
    u.link.latches.framing, u.link.latches.gap, u.link.latches.length, u.link.latches.check,
    u.link.latches.overrun] i h
  exact ⟨hbit 0 (by decide), hbit 1 (by decide), hbit 2 (by decide), hbit 3 (by decide), hbit 4 (by decide),
    hbit 5 (by decide), hbit 6 (by decide), hbit 7 (by decide)⟩

/-! ### Reads (R16, R54) -/

theorem readLineAnswer_of_ge {line : Byte} (s : State) (h : 16 ≤ line.toNat) :
    readLineAnswer line s = ⟨s, .badField, []⟩ := by
  simp [readLineAnswer, readLineId_of_ge h, refuse]

theorem readLineAnswer_eq (l : LineId) (s : State) :
    readLineAnswer (lineByte l) s =
      ⟨s.modRecord l fun r => { r with latched := .clear }, .ok, lineSnapshot s l⟩ := by
  simp [readLineAnswer]

theorem readScheduleAnswer_of_gt {b : Byte} (s : State) (h : 1 < b.toNat) :
    readScheduleAnswer b s = ⟨s, .badField, []⟩ := by
  simp [readScheduleAnswer, readBus_of_gt h, refuse]

theorem readScheduleAnswer_eq (bus : Bus) (s : State) :
    readScheduleAnswer (busByte bus) s =
      ⟨s.modBus bus fun r => { r with stateLatch := false }, .ok, scheduleSnapshot s bus⟩ := by
  simp [readScheduleAnswer]

/-- Settles O21. The snapshots are laid out as R180 by their definitions. -/
theorem readsReturnTheSnapshots : Obligations.ReadsReturnTheSnapshots := by
  unfold Obligations.ReadsReturnTheSnapshots
  refine ⟨fun l line s => ⟨fun h => ?badLine, ?snapshot⟩, fun bus b s => ⟨fun h => ?badBus, ?schedule⟩⟩
  case badLine => exact congrArg (fun a => Host.Outcome.next (reply 0x93 a)) (readLineAnswer_of_ge s h)
  case snapshot =>
    refine ⟨s.modRecord l fun r => { r with latched := .clear }, ?_, State.modRecord_line_self _ _ _,
      s.modLine_othersKept l _, rfl⟩
    have hanswer := readLineAnswer_eq l s
    have hbytes : assignmentBytes s l = match (s.line l).asg with
        | none => [0, 0xFF, 0, 0, 0]
        | some a => (match a.placement with
          | .placed bus offset _ => [1, busByte bus, byteOf offset.val]
          | .waiting => [2, 0xFF, byteOf (s.waiting.idxOf l + 1)]) ++
          [byteOf a.cyclesLeft, if a.stroke1 = none then 1 else 2] := by
      unfold assignmentBytes
      cases (s.line l).asg with
      | none => rfl
      | some a => cases hp : a.placement <;> cases hk : a.stroke1 <;> simp [hp, hk, State.waitingPosition]
    have hbus : busOrNone (if (s.line l).relay.phase = .silent then none else (s.line l).relay.bus) =
        if (s.line l).relay.phase = .silent then 0xFF else busOrNone (s.line l).relay.bus := by
      split <;> rfl
    refine congrArg (fun a => Host.Outcome.next (reply 0x93 a)) (hanswer.trans ?_)
    rw [lineSnapshot, hbytes, hbus, sideBytes, sideBytes]
    simp only [List.append_assoc]
    rfl
  case badBus => exact congrArg (fun a => Host.Outcome.next (reply 0xA2 a)) (readScheduleAnswer_of_gt s h)
  case schedule =>
    refine congrArg (fun a => Host.Outcome.next (reply 0xA2 a)) ((readScheduleAnswer_eq bus s).trans ?_)
    simp [scheduleSnapshot]

/-! ### The source-good filter (R33, R51) -/

theorem State.modBus_congr {s : State} {bus : Bus} {f g : BusRecord → BusRecord} (h : f (s.bus bus) = g (s.bus bus)) :
    s.modBus bus f = s.modBus bus g := by
  cases bus with
  | a => exact congrArg (fun r => { s with busA := r }) h
  | b => exact congrArg (fun r => { s with busB := r }) h

theorem State.modBus_id {s : State} {bus : Bus} {f : BusRecord → BusRecord} (h : f (s.bus bus) = s.bus bus) :
    s.modBus bus f = s := by
  cases bus with
  | a => exact congrArg (fun r => { s with busA := r }) h
  | b => exact congrArg (fun r => { s with busB := r }) h

theorem exec_sourceGoodChange (bus : Bus) (good : Bool) (s : State) :
    exec (.sourceGoodChange bus good) s = .next (s.modBus bus (BusRecord.inputChanged good)) := rfl

theorem exec_busRecovery {bus : Bus} {s : State} (hstatus : (s.bus bus).status = .faulted)
    (htimer : (s.bus bus).filterTimer ≠ none) : exec (.busRecovery bus) s = .next (recoveryTaken bus s) :=
  congrArg Host.Outcome.next (if_pos ⟨hstatus, htimer⟩)

theorem State.reportBus_eq (s : State) (bus : Bus) :
    s.reportBus bus = if s.reports.enables.busState = true then s.queueReport (.busState bus (s.bus bus).status)
      else s.modBus bus fun r => { r with stateLatch := true } := rfl

/-- Settles O32. -/
theorem sourceGoodFilterAndRecovery : Obligations.SourceGoodFilterAndRecovery := by
  unfold Obligations.SourceGoodFilterAndRecovery
  refine ⟨fun bus s => ?filter, fun bus s hstatus htimer => ?recovery⟩
  case filter =>
    simp only [exec_sourceGoodChange]
    refine ⟨congrArg _ (State.modBus_id (by simp [BusRecord.inputChanged])), ?_, ?_, ?_, ?_⟩ <;>
      exact fun hgood hstatus => congrArg _ (State.modBus_congr
        (by simp [BusRecord.inputChanged, hgood, hstatus, Config.dropMs, Config.returnMs]))
  case recovery =>
    refine ⟨_, exec_busRecovery hstatus htimer, ?_⟩
    have hne : otherBus bus ≠ bus := by cases bus <;> nofun
    unfold recoveryTaken State.setStatus
    rw [State.reportBus_eq]
    cases henabled : s.reports.enables.busState with
    | true =>
      simp only [State.modBus_reports, henabled, if_true, State.queueReport_bus, State.modBus_bus_self,
        State.modBus_bus_ne _ _ _ _ hne, State.queueReport_queue, true_and]
      rw [State.queueReport_eq]
      cases bus <;> rfl
    | false =>
      simp only [State.modBus_reports, henabled, Bool.false_eq_true, if_false, State.modBus_bus_self,
        State.modBus_bus_ne _ _ _ _ hne, true_and]
      cases bus <;> rfl

/-! ### Relay phases and their timers (R58, R62, R63) -/

theorem exec_armExpiry {l : LineId} {s : State} (h : (s.line l).relay.phase = .arm) :
    exec (.armExpiry l) s = .next (s.modLine l Line.beginRing) := congrArg Host.Outcome.next (if_pos h)

theorem exec_quenchEnd {l : LineId} {s : State} (h : (s.line l).relay.phase = .quench) :
    exec (.quenchEnd l) s = .next (s.modLine l Line.endQuench).arbitrate := congrArg Host.Outcome.next (if_pos h)

/-- A pending verify begins when the silent interval does, and a running one goes on. -/
theorem DetectorRecord.silentBegins_eq (d : DetectorRecord) :
    d.silentBegins = { d with verifyRunning := decide (d.mode = .verify) || d.verifyRunning } := by
  unfold DetectorRecord.silentBegins
  split <;> simp_all

theorem Line.endQuench_eq (x : Line) :
    x.endQuench = { x with
      relay := { phase := .silent, bus := none, side := none, lastSlot := none, quenchKind := none
                 quiet := x.relay.quiet, timer := none }
      scan := if x.record.parties = [] then x.scan else
        { x.scan with reacquiring := true, reacquireCount := 0, filterCount := 0 }
      det := { x.det with verifyRunning := decide (x.det.mode = .verify) || x.det.verifyRunning } } := by
  rw [Line.endQuench, DetectorRecord.silentBegins_eq]
  simp only [List.isEmpty_iff]
  rfl

/-- Settles O34. -/
theorem relayPhasesAndTheirTimers : Obligations.RelayPhasesAndTheirTimers := by
  unfold Obligations.RelayPhasesAndTheirTimers
  refine ⟨fun r => ?drives, fun l s h => ?armed, fun l s h => ?quenched⟩
  case drives =>
    cases hphase : r.phase <;>
      simp [RelayRecord.feedClosed, RelayRecord.busSelect, RelayRecord.ringingRelay, hphase]
    all_goals
      intro htip
      simp [htip]
  case armed =>
    exact ⟨_, exec_armExpiry h, State.modLine_line_self _ _ _, s.modLine_othersKept l _, rfl⟩
  case quenched =>
    refine ⟨_, exec_quenchEnd h, ?_, (s.modLine_othersKept l _).trans (State.arbitrate_othersKept _ l), ?_, ?_⟩
    · rw [State.arbitrate_line, State.modLine_line_self, Line.endQuench_eq]
    · rw [State.arbitrate_eq]; rfl
    · rw [State.arbitrate_jobs, State.modLine_msu]

/-! ### The threshold of a side (R73) -/

/-- Settles O35. -/
theorem thresholdAndTripMargin : Obligations.ThresholdAndTripMargin := by
  unfold Obligations.ThresholdAndTripMargin
  exact fun p y x => ⟨computeThreshold_of_low, computeThreshold_of_mid, computeThreshold_of_high,
    agreeTripMargin_reasons x, agreeTripMargin_condition x⟩

/-! ### SET_CODE (R28 to R30) -/

theorem exec_setCode (code : Byte) (bursts : List BurstField) (s : State) :
    exec (.setCode code bursts) s = .next (reply 0xA0 (setCodeAnswer code bursts s)) := rfl

theorem setCodeAnswer_of_out {code : Byte} (bursts : List BurstField) (s : State)
    (h : code.toNat < 1 ∨ 8 < code.toNat) : setCodeAnswer code bursts s = ⟨s, .badField, [code]⟩ := by
  simp [setCodeAnswer, readNumber_of_out h]

theorem setCodeAnswer_of_refused {c : CodeId} {bursts : List BurstField} {s : State} {r : ResultCode}
    (h : checkPattern s c (readBursts bursts) = some r) :
    setCodeAnswer (numberByte c) bursts s = ⟨s, r, codeFields s c⟩ := by
  simp [setCodeAnswer, h]

theorem setCodeAnswer_of_accepted {c : CodeId} {bursts : List BurstField} {s : State}
    (h : checkPattern s c (readBursts bursts) = none) :
    setCodeAnswer (numberByte c) bursts s =
      ⟨{ s with codes := s.codes.set c.val (readBursts bursts) c.isLt }, .ok,
        codeFields { s with codes := s.codes.set c.val (readBursts bursts) c.isLt } c⟩ := by
  simp [setCodeAnswer, h]

theorem checkPattern_of_malformed {s : State} {c : CodeId} {p : Pattern} (h : ¬p.Valid) :
    checkPattern s c p = some .badField := by
  rw [← Pattern.valid_iff] at h
  unfold checkPattern
  by_cases hcount : p.length ≤ 4
  · by_cases hbursts : p.all Burst.valid = true
    · have hspaced : ¬spaced p = true := fun hs => h (by simp [Pattern.valid, hcount, hbursts, hs])
      rw [if_neg (by omega), if_neg (by simp [hbursts]), if_pos hspaced]
    · rw [if_neg (by omega), if_pos hbursts]
  · rw [if_pos (by omega)]

theorem checkPattern_of_used {s : State} {c : CodeId} {p : Pattern} (h : p.Valid) (hused : s.codeInUse c = true) :
    checkPattern s c p = some .codeInUse := by
  have hcount : ¬4 < p.length := Nat.not_lt.2 h.count
  have hvalid := (Pattern.valid_iff p).2 h
  simp only [Pattern.valid, Bool.and_eq_true, decide_eq_true_eq] at hvalid
  simp [checkPattern, hcount, hvalid, hused]

/-- A line uses a code when a party record names it or its assignment has a stroke of it (R29). -/
theorem Line.usesCode_iff (c : CodeId) (x : Line) :
    x.usesCode c = true ↔
      (∃ p ∈ x.record.parties, p.code = c) ∨ (∃ a ∈ x.asg, a.stroke0.code = c ∨ ∃ k ∈ a.stroke1, k.code = c) := by
  cases hasg : x.asg with
  | none => simp [Line.usesCode, hasg]
  | some a => cases hk : a.stroke1 <;> simp [Line.usesCode, Assignment.uses, hasg, hk]

theorem State.codeInUse_iff (s : State) (c : CodeId) : s.codeInUse c = true ↔ ∃ l, (s.line l).usesCode c = true := by
  simp [State.codeInUse]

/-- The reply to an accepted SET_CODE carries the bursts the command brought. -/
theorem codeFields_set (s : State) (c : CodeId) (bursts : List BurstField) :
    codeFields { s with codes := s.codes.set c.val (readBursts bursts) c.isLt } c =
      numberByte c :: bursts.flatMap fun b => [b.start, b.length] := by
  rw [codeFields, State.pattern_set_codes, if_pos rfl]
  simp [readBursts, List.flatMap_map]

/-- Settles O22. -/
theorem setCodeReplacesAnUnusedCode : Obligations.SetCodeReplacesAnUnusedCode := by
  unfold Obligations.SetCodeReplacesAnUnusedCode
  intro c code bursts s
  simp only [exec_setCode]
  refine ⟨fun h => ?_, fun h => ?_, fun hvalid hused => ?_, fun hvalid hfree => ?_⟩
  · rw [setCodeAnswer_of_out bursts s h]
  · rw [setCodeAnswer_of_refused (checkPattern_of_malformed h)]; rfl
  · have hin : s.codeInUse c = true := by
      obtain ⟨l, hl⟩ := hused
      exact (s.codeInUse_iff c).2 ⟨l, (Line.usesCode_iff c _).2 hl⟩
    rw [setCodeAnswer_of_refused (checkPattern_of_used hvalid hin)]; rfl
  · have hout : s.codeInUse c = false := by
      rw [State.codeInUse_eq_false_iff]
      intro l
      rw [← Bool.not_eq_true, Line.usesCode_iff]
      obtain ⟨hparties, hasg⟩ := hfree l
      rintro (⟨p, hp, hpc⟩ | ⟨a, ha, hstroke⟩)
      · exact hparties p hp hpc
      · obtain ⟨h0, h1⟩ := hasg a ha
        rcases hstroke with hc | ⟨k, hk, hc⟩
        · exact h0 hc
        · exact h1 k hk hc
    rw [setCodeAnswer_of_accepted ((checkPattern_eq_none_iff s c _).2 ⟨hvalid, hout⟩), codeFields_set]

end Sys2Proof.Machine
end

section
/-! PROOFS. The reading of a frame's kind and payload as a command, and its inverse (R164, R173, R180). -/

namespace Sys2Proof

/-! ### Two-byte fields, party records and bursts -/

theorem dbyte_toNat (lo hi : Byte) : (dbyte lo hi).toNat = 256 * hi.toNat + lo.toNat := by
  have := lo.isLt
  have hor : (dbyte lo hi).toNat = hi.toNat <<< 8 ||| lo.toNat := BitVec.toNat_append hi lo
  rw [hor, ← Nat.shiftLeft_add_eq_or_of_lt (by omega), Nat.shiftLeft_eq]
  omega

theorem DByte.lo_toNat (w : DByte) : (DByte.lo w).toNat = w.toNat % 256 := by simp [DByte.lo]

theorem DByte.hi_toNat (w : DByte) : (DByte.hi w).toNat = w.toNat / 256 := by
  have := w.isLt
  simp [DByte.hi, Nat.shiftRight_eq_div_pow]; omega

theorem dbyte_lo_hi (w : DByte) : dbyte (DByte.lo w) (DByte.hi w) = w := by
  apply BitVec.eq_of_toNat_eq
  rw [dbyte_toNat, DByte.lo_toNat, DByte.hi_toNat]
  omega

theorem dbyteBytes_dbyte (lo hi : Byte) : dbyteBytes (dbyte lo hi) = [lo, hi] := by
  have hl := lo.isLt
  have hlo : DByte.lo (dbyte lo hi) = lo := BitVec.eq_of_toNat_eq (by rw [DByte.lo_toNat, dbyte_toNat]; omega)
  have hhi : DByte.hi (dbyte lo hi) = hi := BitVec.eq_of_toNat_eq (by rw [DByte.hi_toNat, dbyte_toNat]; omega)
  rw [dbyteBytes, hlo, hhi]

theorem readDBytes_flatMap (ws : List DByte) : readDBytes (ws.flatMap dbyteBytes) = some ws := by
  induction ws with
  | nil => rfl
  | cons w ws ih =>
    have hstep : readDBytes ((w :: ws).flatMap dbyteBytes) =
        (readDBytes (ws.flatMap dbyteBytes)).map (dbyte (DByte.lo w) (DByte.hi w) :: ·) := rfl
    rw [hstep, ih, dbyte_lo_hi]; rfl

/-- A run of bytes is read as two-byte fields exactly when it is even, and then the fields spell the run. -/
theorem readDBytes_eq_some {bs : List Byte} {ws : List DByte} (h : readDBytes bs = some ws) :
    ws.flatMap dbyteBytes = bs := by
  induction bs using readDBytes.induct generalizing ws with
  | case1 => cases h; rfl
  | case2 lo hi rest ih =>
    obtain ⟨vs, hvs, rfl⟩ := Option.map_eq_some_iff.1 (h : (readDBytes rest).map _ = some ws)
    rw [List.flatMap_cons, dbyteBytes_dbyte, ih hvs]; rfl
  | case3 b => cases h

theorem readDBytes_eq_none_iff (bs : List Byte) : readDBytes bs = none ↔ bs.length % 2 = 1 := by
  induction bs using readDBytes.induct with
  | case1 => simp [readDBytes]
  | case2 lo hi rest ih => simp only [readDBytes, Option.map_eq_none_iff, ih, List.length_cons]; omega
  | case3 b => simp [readDBytes]

theorem length_flatMap_dbyteBytes (ws : List DByte) : (ws.flatMap dbyteBytes).length = 2 * ws.length := by
  induction ws with
  | nil => rfl
  | cons w ws ih => rw [List.flatMap_cons, List.length_append, ih]; simp [dbyteBytes]; omega

/-- A party record's four bytes (R180). -/
def PartyField.bytes (p : PartyField) : List Byte := [p.number, p.side, p.code, p.cls]

/-- A burst's two bytes (R180). -/
def BurstField.bytes (b : BurstField) : List Byte := [b.start, b.length]

theorem readPartyFields_flatMap (ps : List PartyField) : readPartyFields (ps.flatMap PartyField.bytes) = some ps := by
  induction ps with
  | nil => rfl
  | cons p ps ih =>
    have hstep : readPartyFields ((p :: ps).flatMap PartyField.bytes) =
        (readPartyFields (ps.flatMap PartyField.bytes)).map (p :: ·) := rfl
    rw [hstep, ih]; rfl

theorem readPartyFields_eq_some {bs : List Byte} {ps : List PartyField} (h : readPartyFields bs = some ps) :
    ps.flatMap PartyField.bytes = bs := by
  induction bs using readPartyFields.induct generalizing ps with
  | case1 => cases h; rfl
  | case2 n s c k rest ih =>
    obtain ⟨qs, hqs, rfl⟩ := Option.map_eq_some_iff.1 (h : (readPartyFields rest).map _ = some ps)
    rw [List.flatMap_cons, ih hqs]; rfl
  | case3 bs hnil hcons =>
    rw [readPartyFields.eq_3 _ hnil hcons] at h; cases h

theorem readPartyFields_eq_none_iff (bs : List Byte) : readPartyFields bs = none ↔ bs.length % 4 ≠ 0 := by
  induction bs using readPartyFields.induct with
  | case1 => simp [readPartyFields]
  | case2 n s c k rest ih => simp only [readPartyFields, Option.map_eq_none_iff, ih, List.length_cons]; omega
  | case3 bs hnil hcons =>
    rw [readPartyFields.eq_3 _ hnil hcons]
    rcases bs with _ | ⟨a, _ | ⟨b, _ | ⟨c, _ | ⟨d, rest⟩⟩⟩⟩
    · exact absurd rfl hnil
    · simp
    · simp
    · simp
    · exact absurd rfl (hcons a b c d rest)

theorem length_flatMap_partyBytes (ps : List PartyField) : (ps.flatMap PartyField.bytes).length = 4 * ps.length := by
  induction ps with
  | nil => rfl
  | cons p ps ih => rw [List.flatMap_cons, List.length_append, ih]; simp [PartyField.bytes]; omega

theorem readBurstFields_flatMap (bs : List BurstField) : readBurstFields (bs.flatMap BurstField.bytes) = some bs := by
  induction bs with
  | nil => rfl
  | cons b bs ih =>
    have hstep : readBurstFields ((b :: bs).flatMap BurstField.bytes) =
        (readBurstFields (bs.flatMap BurstField.bytes)).map (b :: ·) := rfl
    rw [hstep, ih]; rfl

theorem readBurstFields_eq_some {bs : List Byte} {fs : List BurstField} (h : readBurstFields bs = some fs) :
    fs.flatMap BurstField.bytes = bs := by
  induction bs using readBurstFields.induct generalizing fs with
  | case1 => cases h; rfl
  | case2 s n rest ih =>
    obtain ⟨qs, hqs, rfl⟩ := Option.map_eq_some_iff.1 (h : (readBurstFields rest).map _ = some fs)
    rw [List.flatMap_cons, ih hqs]; rfl
  | case3 b => cases h

theorem readBurstFields_eq_none_iff (bs : List Byte) : readBurstFields bs = none ↔ bs.length % 2 = 1 := by
  induction bs using readBurstFields.induct with
  | case1 => simp [readBurstFields]
  | case2 s n rest ih => simp only [readBurstFields, Option.map_eq_none_iff, ih, List.length_cons]; omega
  | case3 b => simp [readBurstFields]

theorem length_flatMap_burstBytes (bs : List BurstField) : (bs.flatMap BurstField.bytes).length = 2 * bs.length := by
  induction bs with
  | nil => rfl
  | cons b bs ih => rw [List.flatMap_cons, List.length_append, ih]; simp [BurstField.bytes]; omega

/-! ### The readers of the kinds -/

open Machine

/-- What a listed kind's reader owes its kind: a command it reads is encoded as that kind and payload, it refuses exactly
the lengths that are not listed, and it never calls the kind unknown (R173, steps 1 and 2). -/
structure ReadsKind (k : Byte) (p : List Byte) (r : Except FrameError Instr) : Prop where
  ok : ∀ i, r = .ok i → encodeCommand i = some (k, p)
  badLength : r = .error .badLength ↔ ¬lengthListed k p.length
  known : r ≠ .error .unknownKind

/-- A reader that reads a command. -/
theorem ReadsKind.of_ok {k : Byte} {p : List Byte} {i : Instr} (henc : encodeCommand i = some (k, p))
    (hlen : lengthListed k p.length) : ReadsKind k p (.ok i) :=
  ⟨fun _ hj => Except.ok.inj hj ▸ henc, by simp [hlen], nofun⟩

/-- A reader that refuses a length. -/
theorem ReadsKind.of_badLength {k : Byte} {p : List Byte} (hlen : ¬lengthListed k p.length) :
    ReadsKind k p (.error .badLength) := ⟨nofun, by simp [hlen], nofun⟩

theorem noField_readsKind {k : Byte} {i : Instr} (p : List Byte) (henc : encodeCommand i = some (k, []))
    (hk : ∀ n, lengthListed k n ↔ n = 0) : ReadsKind k p (noField i p) := by
  cases p with
  | nil => exact .of_ok henc ((hk _).2 rfl)
  | cons x xs => exact .of_badLength (by simp [hk])

theorem oneField_readsKind {k : Byte} {make : Byte → Instr} (p : List Byte)
    (henc : ∀ x, encodeCommand (make x) = some (k, [x])) (hk : ∀ n, lengthListed k n ↔ n = 1) :
    ReadsKind k p (oneField make p) := by
  match p with
  | [] => exact .of_badLength (by simp [hk])
  | [x] => exact .of_ok (henc x) ((hk _).2 rfl)
  | x :: y :: rest => exact .of_badLength (by simp [hk])

theorem readSetBus_readsKind (p : List Byte) : ReadsKind 0x21 p (readSetBus p) := by
  match p with
  | [] | [_] => exact .of_badLength (by simp [lengthListed])
  | [_, _] => exact .of_ok rfl (by simp [lengthListed])
  | _ :: _ :: _ :: _ => exact .of_badLength (by simp [lengthListed])

theorem readRing_readsKind (p : List Byte) : ReadsKind 0x30 p (readRing p) := by
  match p with
  | [] | [_] | [_, _] => exact .of_badLength (by simp [lengthListed])
  | [_, _, _] => exact .of_ok rfl (by simp [lengthListed])
  | _ :: _ :: _ :: _ :: _ => exact .of_badLength (by simp [lengthListed])

theorem readRevert_readsKind (p : List Byte) : ReadsKind 0x34 p (readRevert p) := by
  match p with
  | [] | [_] | [_, _] | [_, _, _] => exact .of_badLength (by simp [lengthListed])
  | [_, _, _, _] => exact .of_ok rfl (by simp [lengthListed])
  | _ :: _ :: _ :: _ :: _ :: _ => exact .of_badLength (by simp [lengthListed])

/-- The mask and the values of SET_PARAMETERS are read back as they were. -/
theorem readParameters_bytes (mask : DByte) (values : Vector DByte 13) :
    readParameters (dbyteBytes mask ++ values.toList.flatMap dbyteBytes) = .ok (.setParameters mask values) := by
  have hlen : values.toList.length = 13 := by simp
  have hread : readDBytes (dbyteBytes mask ++ values.toList.flatMap dbyteBytes) = some (mask :: values.toList) :=
    readDBytes_flatMap (mask :: values.toList)
  have harray : values.toList.toArray = values.toArray := Array.toArray_toList
  simp [readParameters, hread, harray]

theorem readConfigureLine_bytes (l t r m n : Byte) {ps : List PartyField} (h : ps.length ≤ 8) :
    readConfigureLine ([l, t, r, m, n] ++ ps.flatMap PartyField.bytes) = .ok (.configureLine l t r m n ps) := by
  simp [readConfigureLine, readPartyFields_flatMap, h]

theorem readSetCode_bytes (c : Byte) (bs : List BurstField) :
    readSetCode (c :: bs.flatMap BurstField.bytes) = .ok (.setCode c bs) := by
  simp [readSetCode, readBurstFields_flatMap]

/-- The mask and the thirteen values are 28 bytes. -/
theorem lengthListed_parameters (n : Nat) : lengthListed 0x03 n ↔ n = 28 := by simp [lengthListed]

theorem readParameters_readsKind (p : List Byte) : ReadsKind 0x03 p (readParameters p) := by
  unfold readParameters
  cases hws : readDBytes p with
  | none =>
    have := (readDBytes_eq_none_iff p).1 hws
    exact .of_badLength (mt (lengthListed_parameters _).1 (by omega))
  | some ws =>
    obtain rfl := readDBytes_eq_some hws
    cases ws with
    | nil => exact .of_badLength (mt (lengthListed_parameters _).1 (by simp))
    | cons mask values =>
      dsimp only
      have hlen := length_flatMap_dbyteBytes (mask :: values)
      by_cases h : values.length = 13
      · rw [dif_pos h]
        exact .of_ok rfl ((lengthListed_parameters _).2 (by rw [hlen, List.length_cons, h]))
      · rw [dif_neg h]
        exact .of_badLength (mt (lengthListed_parameters _).1 (by rw [hlen, List.length_cons]; omega))

theorem lengthListed_setCode (n : Nat) : lengthListed 0x20 n ↔ n % 2 = 1 := by simp [lengthListed]

theorem readSetCode_readsKind (p : List Byte) : ReadsKind 0x20 p (readSetCode p) := by
  cases p with
  | nil => exact .of_badLength (mt (lengthListed_setCode _).1 (by simp))
  | cons code rest =>
    cases hbs : readBurstFields rest with
    | none =>
      have hread : readSetCode (code :: rest) = .error .badLength := by simp [readSetCode, hbs]
      have hodd := (readBurstFields_eq_none_iff rest).1 hbs
      rw [hread]
      exact .of_badLength (mt (lengthListed_setCode _).1 (by rw [List.length_cons]; omega))
    | some bs =>
      obtain rfl := readBurstFields_eq_some hbs
      have hlen := length_flatMap_burstBytes bs
      rw [readSetCode_bytes]
      exact .of_ok rfl ((lengthListed_setCode _).2 (by rw [List.length_cons, hlen]; omega))

/-- Five bytes and 0 to 8 records of four: the nine lengths of R173. -/
theorem lengthListed_configureLine (n : Nat) : lengthListed 0x10 n ↔ 5 ≤ n ∧ n ≤ 37 ∧ (n - 5) % 4 = 0 := by
  simp [lengthListed]; omega

theorem readConfigureLine_readsKind (p : List Byte) : ReadsKind 0x10 p (readConfigureLine p) := by
  match p with
  | [] | [_] | [_, _] | [_, _, _] | [_, _, _, _] => exact .of_badLength (mt (lengthListed_configureLine _).1 (by simp))
  | line :: tip :: ring :: mode :: count :: rest =>
    cases hps : readPartyFields rest with
    | none =>
      have hread : readConfigureLine (line :: tip :: ring :: mode :: count :: rest) = .error .badLength := by
        simp [readConfigureLine, hps]
      have hodd := (readPartyFields_eq_none_iff rest).1 hps
      rw [hread]
      exact .of_badLength (mt (lengthListed_configureLine _).1 (by simp only [List.length_cons]; omega))
    | some ps =>
      obtain rfl := readPartyFields_eq_some hps
      have hlen := length_flatMap_partyBytes ps
      by_cases h : ps.length ≤ 8
      · have hread := readConfigureLine_bytes line tip ring mode count h
        rw [List.cons_append, List.cons_append, List.cons_append, List.cons_append, List.cons_append,
          List.nil_append] at hread
        rw [hread]
        exact .of_ok rfl ((lengthListed_configureLine _).2 (by simp only [List.length_cons, hlen]; omega))
      · have hread : readConfigureLine (line :: tip :: ring :: mode :: count :: ps.flatMap PartyField.bytes) =
            .error .badLength := by simp [readConfigureLine, hps, h]
        rw [hread]
        exact .of_badLength (mt (lengthListed_configureLine _).1 (by simp only [List.length_cons, hlen]; omega))

/-- A listed kind is read by its own reader. -/
theorem decodeCommand_of_listed {k : Byte} (p : List Byte) (h : k ∈ listedKinds) :
    ReadsKind k p (decodeCommand k p) := by
  simp only [listedKinds, List.mem_cons, List.not_mem_nil, or_false] at h
  rcases h with rfl | rfl | rfl | rfl | rfl | rfl | rfl | rfl | rfl | rfl | rfl | rfl | rfl | rfl | rfl | rfl | rfl
  exacts [noField_readsKind p rfl (by simp [lengthListed]),
    noField_readsKind p rfl (by simp [lengthListed]),
    readParameters_readsKind p,
    oneField_readsKind p (fun _ => rfl) (by simp [lengthListed]),
    readConfigureLine_readsKind p,
    oneField_readsKind p (fun _ => rfl) (by simp [lengthListed]),
    oneField_readsKind p (fun _ => rfl) (by simp [lengthListed]),
    oneField_readsKind p (fun _ => rfl) (by simp [lengthListed]),
    oneField_readsKind p (fun _ => rfl) (by simp [lengthListed]),
    readSetCode_readsKind p,
    readSetBus_readsKind p,
    oneField_readsKind p (fun _ => rfl) (by simp [lengthListed]),
    readRing_readsKind p,
    oneField_readsKind p (fun _ => rfl) (by simp [lengthListed]),
    oneField_readsKind p (fun _ => rfl) (by simp [lengthListed]),
    oneField_readsKind p (fun _ => rfl) (by simp [lengthListed]),
    readRevert_readsKind p]

theorem decodeCommand_of_unlisted {k : Byte} (p : List Byte) (h : k ∉ listedKinds) :
    decodeCommand k p = .error .unknownKind := by
  simp only [listedKinds, List.mem_cons, List.not_mem_nil, or_false, not_or] at h
  simp only [decodeCommand, h, if_false]

/-! ### The statements -/

/-- Settles O3. -/
theorem Machine.framesReadAsCommands : Obligations.FramesReadAsCommands := by
  unfold Obligations.FramesReadAsCommands
  refine ⟨fun k p i h => ?_, fun k p => ?_⟩
  · by_cases hk : k ∈ listedKinds
    · exact (decodeCommand_of_listed p hk).ok i h
    · rw [decodeCommand_of_unlisted p hk] at h; cases h
  · by_cases hk : k ∈ listedKinds
    · obtain ⟨-, hbad, hknown⟩ := decodeCommand_of_listed p hk
      simp [hk, hbad, hknown]
    · simp [decodeCommand_of_unlisted p hk, hk]

/-- Settles O2. The three commands with lists in them by their readers; every other command's payload is of a fixed
length, read by evaluation. -/
theorem Machine.decodeOfEncodeIsTheCommand : Obligations.DecodeOfEncodeIsTheCommand := by
  unfold Obligations.DecodeOfEncodeIsTheCommand
  intro i hwf k p henc
  cases i with
  | setParameters mask values =>
    obtain ⟨rfl, rfl⟩ := Prod.mk.inj (Option.some.inj henc)
    have hlen : (values.toList.flatMap dbyteBytes).length = 26 := by
      rw [length_flatMap_dbyteBytes, Vector.length_toList]
    exact ⟨by rw [List.length_append, hlen]; simp [dbyteBytes], by simp, fun _ => readParameters_bytes mask values⟩
  | configureLine l t r m n ps =>
    obtain ⟨rfl, rfl⟩ := Prod.mk.inj (Option.some.inj henc)
    have hps : ps.length ≤ 8 := of_decide_eq_true hwf
    have hlen := length_flatMap_partyBytes ps
    refine ⟨?_, by simp, fun _ => readConfigureLine_bytes l t r m n hps⟩
    show (l :: t :: r :: m :: n :: ps.flatMap PartyField.bytes).length ≤ 48
    simp [hlen]; omega
  | setCode c bs =>
    obtain ⟨rfl, rfl⟩ := Prod.mk.inj (Option.some.inj henc)
    have hbs : 1 + 2 * bs.length ≤ 48 := of_decide_eq_true hwf
    have hlen := length_flatMap_burstBytes bs
    refine ⟨?_, by simp, fun _ => readSetCode_bytes c bs⟩
    show (c :: bs.flatMap BurstField.bytes).length ≤ 48
    simp [hlen]; omega
  | unknownKind k' p' =>
    obtain ⟨rfl, rfl⟩ := Prod.mk.inj (Option.some.inj henc)
    simp only [Instr.WellFormed, Instr.wellFormed, Bool.and_eq_true, decide_eq_true_eq] at hwf
    exact ⟨hwf.2, fun _ => decodeCommand_of_unlisted _ hwf.1, fun h => absurd ⟨_, _, rfl⟩ h⟩
  | restart b =>
    cases b with
    | true => cases henc
    | false =>
      obtain ⟨rfl, rfl⟩ := Prod.mk.inj (Option.some.inj henc)
      exact ⟨by simp, by simp, fun _ => rfl⟩
  | poll | setReports | block | unblock | readLine | testLine | setBus | readSchedule | ring | cancel | connect
  | release | revert =>
    obtain ⟨rfl, rfl⟩ := Prod.mk.inj (Option.some.inj henc)
    exact ⟨by simp, by simp, fun _ => rfl⟩
  | _ => cases henc

end Sys2Proof
end

section
/-! PROOFS. The bands of a corrected conductance and the results they give (R125, R126, R127). -/

namespace Sys2Proof.Machine

/-! ### The bands -/

theorem bandOf_of_noElement {g : Nat} (h : NoElement g) : bandOf g = .none := if_pos h

theorem bandOf_of_inClass {c : Fin 4} {g : Nat} (h : InClass c g) : bandOf g = .cls c := by
  unfold bandOf
  rcases h with ⟨rfl, hlow, hhigh⟩ | ⟨rfl, hlow, hhigh⟩ | ⟨rfl, hlow, hhigh⟩
  · repeat rw [if_neg (by omega)]
    rw [if_pos hhigh]
  · repeat rw [if_neg (by omega)]
    rw [if_pos hhigh]
  · repeat rw [if_neg (by omega)]
    rw [if_pos hhigh]

theorem bandOf_of_outOfBands {g : Nat} (h : OutOfBands g) : bandOf g = .out := by
  unfold bandOf
  unfold OutOfBands at h
  split_ifs <;> first | rfl | omega

/-- Every conductance is in one of the bands. -/
theorem band_cases (g : Nat) : NoElement g ∨ OutOfBands g ∨ ∃ c, InClass c g := by
  have hclasses : (300 ≤ g ∧ g ≤ 520 → InClass 1 g) ∧ (150 ≤ g ∧ g ≤ 260 → InClass 2 g) ∧
      (70 ≤ g ∧ g ≤ 130 → InClass 3 g) := by simp [InClass]
  obtain ⟨h1, h2, h3⟩ := hclasses
  by_cases hn : NoElement g
  · exact .inl hn
  by_cases ho : OutOfBands g
  · exact .inr (.inl ho)
  unfold NoElement at hn
  unfold OutOfBands at ho
  refine .inr (.inr ?_)
  rcases Nat.lt_or_ge g 131 with ha | ha
  · exact ⟨3, h3 (by omega)⟩
  · rcases Nat.lt_or_ge g 261 with hb | hb
    · exact ⟨2, h2 (by omega)⟩
    · exact ⟨1, h1 (by omega)⟩

theorem InClass.ge {c : Fin 4} {g : Nat} (h : InClass c g) : 70 ≤ g := by
  rcases h with ⟨-, h, -⟩ | ⟨-, h, -⟩ | ⟨-, h, -⟩ <;> omega

/-! ### The results -/

theorem mapParties_soughtGive (ps : List Party) : SoughtGive ps (mapParties ps) := by
  match ps with
  | [] => exact ⟨fun _ => rfl, nofun, fun h => absurd h (by decide)⟩
  | [p] => exact ⟨nofun, fun q hq => by cases hq; rfl, fun h => absurd h (by simp)⟩
  | p :: q :: rest => exact ⟨nofun, nofun, fun _ => rfl⟩

/-- The side result is the side that alone has an element of a class, whichever bands the two are in. -/
theorem sideResult_eq (gc : PerSide Nat) :
    sideResult gc = if 70 ≤ gc.tip ∧ gc.ring < 70 then some .tip
      else if gc.tip < 70 ∧ 70 ≤ gc.ring then some .ring else none := by
  unfold sideResult
  rcases band_cases gc.tip with ht | ht | ⟨c, ht⟩ <;> rcases band_cases gc.ring with hr | hr | ⟨d, hr⟩
  case inr.inr.inl =>
    have := ht.ge
    unfold NoElement at hr
    rw [bandOf_of_inClass ht, bandOf_of_noElement hr, if_pos ⟨by omega, by omega⟩]
  case inl.inr.inr =>
    have := hr.ge
    unfold NoElement at ht
    rw [bandOf_of_noElement ht, bandOf_of_inClass hr, if_neg (by omega), if_pos ⟨by omega, by omega⟩]
  case inl.inl => rw [bandOf_of_noElement ht, bandOf_of_noElement hr]
  case inl.inr.inl => rw [bandOf_of_noElement ht, bandOf_of_outOfBands hr]
  case inr.inl.inl => rw [bandOf_of_outOfBands ht, bandOf_of_noElement hr]
  case inr.inl.inr.inl => rw [bandOf_of_outOfBands ht, bandOf_of_outOfBands hr]
  case inr.inl.inr.inr => rw [bandOf_of_outOfBands ht, bandOf_of_inClass hr]
  case inr.inr.inr.inl => rw [bandOf_of_inClass ht, bandOf_of_outOfBands hr]
  case inr.inr.inr.inr => rw [bandOf_of_inClass ht, bandOf_of_inClass hr]

/-- Settles O51. Each clause is the row of the table that its two bands select. -/
theorem resultsFollowTheBands : Obligations.ResultsFollowTheBands := by
  unfold Obligations.ResultsFollowTheBands
  intro ps gc
  refine ⟨fun h => ?_, fun c d hc hd => ?_, fun c hc hn => ⟨?_, ?_⟩, fun c hn hc => ⟨?_, ?_⟩, fun hn hm => ?_,
    fun ht hr => ?_, fun ht hr => ?_, fun ht hr => ?_, fun ht hr => ?_⟩
  · unfold identify
    rcases h with h | h
    · rw [bandOf_of_outOfBands h]
    · rw [bandOf_of_outOfBands h]
      cases bandOf gc.tip <;> rfl
  · rw [identify, bandOf_of_inClass hc, bandOf_of_inClass hd]
  · rw [identify, bandOf_of_inClass hc, bandOf_of_noElement hn]
    exact mapParties_soughtGive _
  · rw [sideResult, bandOf_of_inClass hc, bandOf_of_noElement hn]
  · rw [identify, bandOf_of_noElement hn, bandOf_of_inClass hc]
    exact mapParties_soughtGive _
  · rw [sideResult, bandOf_of_noElement hn, bandOf_of_inClass hc]
  · rw [identify, bandOf_of_noElement hn, bandOf_of_noElement hm]
    exact mapParties_soughtGive _
  · rw [sideResult_eq, if_pos ⟨ht, hr⟩]
  · rw [sideResult_eq, if_neg (by omega), if_pos ⟨ht, hr⟩]
  · rw [sideResult_eq, if_neg (by omega), if_neg (by omega)]
  · rw [sideResult_eq, if_neg (by omega), if_neg (by omega)]

end Sys2Proof.Machine
end

section
/-! PROOFS. CONFIGURE_LINE, RING and REVERT refused, in the order of their checks (R9, R137, R148). -/

namespace Sys2Proof.Machine

/-! ### Operand bytes of a party record -/

theorem readSide_byte (sd : Side) : readSide sd.byte = some sd := by cases sd <;> rfl

theorem readSide_of_gt {b : Byte} (h : 1 < b.toNat) : readSide b = none := by
  have h0 : b ≠ 0 := by rintro rfl; simp at h
  have h1 : b ≠ 1 := by rintro rfl; simp at h
  rw [readSide, if_neg h0, if_neg h1]

theorem readRecall_byte (x : Bool) : readRecall (if x then 1 else 0) = some x := by cases x <;> rfl

theorem readRecall_of_gt {b : Byte} (h : 1 < b.toNat) : readRecall b = none := by
  have h0 : b ≠ 0 := by rintro rfl; simp at h
  have h1 : b ≠ 1 := by rintro rfl; simp at h
  rw [readRecall, if_neg h0, if_neg h1]

theorem readDialMode_byte (m : DialMode) : readDialMode m.byte = some m := by cases m <;> rfl

theorem readDialMode_of_gt {b : Byte} (h : 2 < b.toNat) : readDialMode b = none := by
  have h0 : b ≠ 0 := by rintro rfl; simp at h
  have h1 : b ≠ 1 := by rintro rfl; simp at h
  have h2 : b ≠ 2 := by rintro rfl; simp at h
  rw [readDialMode, if_neg h0, if_neg h1, if_neg h2]

theorem readClass_byteOf (c : Fin 4) : readClass (byteOf c.val) = some c := by
  have hc := c.isLt
  have hb : (byteOf c.val).toNat = c.val := byteOf_toNat (by omega)
  simp [readClass, hb]

theorem readClass_of_gt {b : Byte} (h : 3 < b.toNat) : readClass b = none := by
  rw [readClass, dif_neg (by omega)]

/-- A party's record is read back as it was (R180). -/
theorem readParty_field (p : Party) : readParty p.field = some p := by
  simp [readParty, Party.field, readSide_byte, readClass_byteOf]

theorem readParties_fields (ps : List Party) : readParties (ps.map Party.field) = some ps := by
  induction ps with
  | nil => rfl
  | cons p ps ih => simp [readParties, readParty_field, ih]

/-- Whether a field of a party record is out of its range (R9, check 3). -/
def FieldOutOfRange (f : PartyField) : Prop :=
  f.number.toNat < 1 ∨ 8 < f.number.toNat ∨ 1 < f.side.toNat ∨ f.code.toNat < 1 ∨ 8 < f.code.toNat ∨ 3 < f.cls.toNat

theorem readParty_of_outOfRange {f : PartyField} (h : FieldOutOfRange f) : readParty f = none := by
  unfold readParty
  rcases h with h | h | h | h | h | h
  · simp [readNumber_of_out (.inl h)]
  · simp [readNumber_of_out (.inr h)]
  · simp [readSide_of_gt h]
  · simp [readNumber_of_out (.inl h)]
  · simp [readNumber_of_out (.inr h)]
  · simp [readClass_of_gt h]

theorem readParties_of_outOfRange {fields : List PartyField} (h : ∃ f ∈ fields, FieldOutOfRange f) :
    readParties fields = none := by
  induction fields with
  | nil => simp at h
  | cons g gs ih =>
    obtain ⟨f, hf, hout⟩ := h
    rcases List.mem_cons.1 hf with rfl | hf
    · simp [readParties, readParty_of_outOfRange hout]
    · simp [readParties, ih ⟨f, hf, hout⟩]

/-! ### CONFIGURE_LINE's checks (R9) -/

theorem checkParties_of_badField {s : State} {mode : Byte} {fields : List PartyField}
    (h : 2 < mode.toNat ∨ ∃ f ∈ fields, FieldOutOfRange f) : checkParties s mode fields = .error .badField := by
  unfold checkParties
  rcases h with h | h
  · simp [readDialMode_of_gt h]
  · simp [readParties_of_outOfRange h]

/-- The checks of a command whose fields are all in range: numbers, signatures, codes. -/
theorem checkParties_of_fields (s : State) (m : DialMode) (ps : List Party) :
    checkParties s m.byte (ps.map Party.field) =
      if ¬(ps.map Party.number).Nodup then .error .badField
      else if ¬(ps.map fun p => (p.side, p.code)).Nodup then .error .duplicateSignature
      else if ps.any fun p => (s.pattern p.code).isEmpty then .error .notConfigured
      else .ok (m, ps) := by
  rw [checkParties, readDialMode_byte, readParties_fields]

theorem exec_configureLine (line tip ring mode count : Byte) (fields : List PartyField) (s : State) :
    exec (.configureLine line tip ring mode count fields) s =
      .next (reply 0x90 (configureLineAnswer line tip ring mode count fields s)) := rfl

section Configure

variable {tip ring mode count : Byte} {fields : List PartyField} {s : State}

theorem configureLineAnswer_of_ge {line : Byte} (hlen : fields.length ≤ 8) (h : 16 ≤ line.toNat) :
    configureLineAnswer line tip ring mode count fields s = ⟨s, .badField, []⟩ := by
  rw [configureLineAnswer, if_neg (Nat.not_lt.2 hlen), readLineId_of_ge h]; rfl

theorem configureLineAnswer_of_state {l : LineId} (hlen : fields.length ≤ 8)
    (h : ¬(s.callState l = .unequipped ∨ s.callState l = .idle ∨ s.callState l = .blocked)) :
    configureLineAnswer (lineByte l) tip ring mode count fields s = ⟨s, .lineState, []⟩ := by
  rw [configureLineAnswer, if_neg (Nat.not_lt.2 hlen), readLineId_lineByte]
  exact if_neg h

theorem configureLineAnswer_of_error {l : LineId} {r : ResultCode} (hlen : fields.length ≤ 8)
    (h : s.callState l = .unequipped ∨ s.callState l = .idle ∨ s.callState l = .blocked)
    (hcheck : checkParties s mode fields = .error r) :
    configureLineAnswer (lineByte l) tip ring mode count fields s = ⟨s, r, []⟩ := by
  rw [configureLineAnswer, if_neg (Nat.not_lt.2 hlen), readLineId_lineByte]
  refine (if_pos h).trans ?_
  rw [hcheck]; rfl

end Configure

/-- Settles O19. -/
theorem configureLineRefused : Obligations.ConfigureLineRefused := by
  unfold Obligations.ConfigureLineRefused
  intro l line tip ring mode count fields s hlen
  simp only [exec_configureLine]
  refine ⟨fun h => ?_, fun h => ?_, fun h => ⟨fun hbad => ?_, fun m ps hps => ⟨fun hdup => ?_, fun hnodup hdup => ?_,
    fun hnodup hsig hempty => ?_⟩⟩⟩
  · rw [configureLineAnswer_of_ge hlen h]
  · rw [configureLineAnswer_of_state hlen h]
  · rw [configureLineAnswer_of_error hlen h (checkParties_of_badField hbad)]
  · rw [configureLineAnswer_of_error (by simpa using hps) h
      ((checkParties_of_fields s m ps).trans (if_pos hdup))]
  · rw [configureLineAnswer_of_error (by simpa using hps) h
      ((checkParties_of_fields s m ps).trans ((if_neg (not_not.2 hnodup)).trans (if_pos hdup)))]
  · have hany : (ps.any fun p => (s.pattern p.code).isEmpty) = true := by simpa using hempty
    rw [configureLineAnswer_of_error (by simpa using hps) h
      ((checkParties_of_fields s m ps).trans
        ((if_neg (not_not.2 hnodup)).trans ((if_neg (not_not.2 hsig)).trans (if_pos hany))))]

/-! ### RING's checks (R137) -/

theorem exec_ring (line party cycles : Byte) (s : State) :
    exec (.ring line party cycles) s = .next (reply 0xB0 (ringAnswer line party cycles s)) := rfl

theorem Line.party_eq_none_iff (x : Line) (n : PartyNo) :
    x.party n = none ↔ ∀ p ∈ x.record.parties, p.number ≠ n := by
  simp [Line.party]

theorem State.couldCarry_iff (s : State) (load : Nat) :
    s.couldCarry load = true ↔ ∃ bus, load ≤ (s.bus bus).budget := by
  simp only [State.couldCarry, Bool.or_eq_true, decide_eq_true_eq]
  exact ⟨fun h => h.elim (fun h => ⟨.a, h⟩) fun h => ⟨.b, h⟩, fun ⟨bus, h⟩ => by
    cases bus with
    | a => exact .inl h
    | b => exact .inr h⟩

section Ring

variable {l : LineId} {party cycles : Byte} {n : PartyNo} {s : State}

theorem ringAnswer_of_ge {line : Byte} (h : 16 ≤ line.toNat) : ringAnswer line party cycles s = ⟨s, .badField, []⟩ := by
  simp [ringAnswer, readLineId_of_ge h, refuse]

theorem ringAnswer_of_state (h : s.callState l ≠ .idle) :
    ringAnswer (lineByte l) party cycles s = ⟨s, .lineState, []⟩ := by
  simp [ringAnswer, h, refuse]

theorem ringAnswer_of_party (h : s.callState l = .idle) (hparty : party.toNat < 1 ∨ 8 < party.toNat) :
    ringAnswer (lineByte l) party cycles s = ⟨s, .badField, []⟩ := by
  simp [ringAnswer, h, readNumber_of_out hparty, refuse]

theorem ringAnswer_of_faulted (h : s.callState l = .idle) (hfaulted : (s.line l).record.condition = .faulted) :
    ringAnswer (lineByte l) (numberByte n) cycles s = ⟨s, .lineFault, []⟩ := by
  simp [ringAnswer, h, hfaulted, refuse]

theorem ringAnswer_of_absent (h : s.callState l = .idle) (hgood : (s.line l).record.condition ≠ .faulted)
    (hparty : (s.line l).party n = none) :
    ringAnswer (lineByte l) (numberByte n) cycles s = ⟨s, .notConfigured, []⟩ := by
  simp [ringAnswer, h, hgood, hparty, refuse]

/-- RING past its checks on the line and the party: the impossibility check decides (R39). -/
theorem ringAnswer_of_party_found {p : Party} (h : s.callState l = .idle)
    (hgood : (s.line l).record.condition ≠ .faulted) (hparty : (s.line l).party n = some p) :
    ringAnswer (lineByte l) (numberByte n) cycles s =
      if s.couldCarry ((s.line l).record.loads.get p.side) then
        ⟨ringAccepted l p (ringCyclesOf s.params cycles) s, .ok,
          placementFields (ringAccepted l p (ringCyclesOf s.params cycles) s) l⟩
      else ⟨s, .overBudget, []⟩ := by
  simp only [ringAnswer, readLineId_lineByte, h, ne_eq, not_true_eq_false, if_false, readNumber_numberByte, hgood,
    hparty]
  rfl

end Ring

/-! ### REVERT's checks (R148) -/

theorem exec_revert (line called caller recallByte : Byte) (s : State) :
    exec (.revert line called caller recallByte) s =
      .next (reply 0xB4 (revertAnswer line called caller recallByte s)) := rfl

section Revert

variable {l : LineId} {called caller recallByte : Byte} {d c : PartyNo} {x : Bool} {s : State}

theorem revertAnswer_of_ge {line : Byte} (h : 16 ≤ line.toNat) :
    revertAnswer line called caller recallByte s = ⟨s, .badField, []⟩ := by
  simp [revertAnswer, readLineId_of_ge h, refuse]

theorem revertAnswer_of_state (h : s.callState l ≠ .originating) :
    revertAnswer (lineByte l) called caller recallByte s = ⟨s, .lineState, []⟩ := by
  simp [revertAnswer, h, refuse]

theorem revertAnswer_of_badField (h : s.callState l = .originating)
    (hbad : called.toNat < 1 ∨ 8 < called.toNat ∨ caller.toNat < 1 ∨ 8 < caller.toNat ∨ 1 < recallByte.toNat) :
    revertAnswer (lineByte l) called caller recallByte s = ⟨s, .badField, []⟩ := by
  have hnone : readNumber called = none ∨ readNumber caller = none ∨ readRecall recallByte = none := by
    rcases hbad with h | h | h | h | h
    · exact .inl (readNumber_of_out (.inl h))
    · exact .inl (readNumber_of_out (.inr h))
    · exact .inr (.inl (readNumber_of_out (.inl h)))
    · exact .inr (.inl (readNumber_of_out (.inr h)))
    · exact .inr (.inr (readRecall_of_gt h))
  rcases hnone with hnone | hnone | hnone
  · simp [revertAnswer, h, hnone, refuse]
  · simp [revertAnswer, h, hnone, refuse]
  · simp [revertAnswer, h, hnone, refuse]

/-- REVERT on a line in ORIGINATING with its fields in range: the checks of `checkRevert` decide. -/
theorem revertAnswer_of_checked (h : s.callState l = .originating) :
    revertAnswer (lineByte l) (numberByte d) (numberByte c) (if x then 1 else 0) s =
      match checkRevert s l d c x with
      | some e => ⟨s, e, []⟩
      | none => ⟨revertAccepted l d c x s, .ok, [((revertAccepted l d c x s).callState l).byte]⟩ := by
  simp only [revertAnswer, readLineId_lineByte, h, ne_eq, not_true_eq_false, if_false, readNumber_numberByte,
    readRecall_byte]
  cases checkRevert s l d c x <;> rfl

theorem checkRevert_of_same : checkRevert s l d d x = some .sameParty := if_pos rfl

theorem checkRevert_of_faulted (hne : d ≠ c) (h : (s.line l).record.condition = .faulted) :
    checkRevert s l d c x = some .lineFault := (if_neg hne).trans (if_pos h)

theorem checkRevert_of_absent (hne : d ≠ c) (hgood : (s.line l).record.condition ≠ .faulted)
    (h : (s.line l).party d = none ∨ (s.line l).party c = none) : checkRevert s l d c x = some .notConfigured := by
  unfold checkRevert
  rw [if_neg hne, if_neg hgood]
  rcases h with h | h
  · rw [h]
  · cases hd : (s.line l).party d <;> simp [h]

/-- A bus that could carry the larger stroke of a reverting call could carry each of them. -/
theorem revertLoad_le (y : Line) (p q : Party) (x : Bool) (n : Nat) :
    revertLoad y p q x ≤ n ↔ y.record.loads.get p.side ≤ n ∧ (x = true → y.record.loads.get q.side ≤ n) := by
  cases x <;> simp [revertLoad, Line.strokeOf]

theorem checkRevert_of_parties {p q : Party} (hne : d ≠ c) (hgood : (s.line l).record.condition ≠ .faulted)
    (hd : (s.line l).party d = some p) (hc : (s.line l).party c = some q) :
    checkRevert s l d c x =
      if s.couldCarry (revertLoad (s.line l) p q x) then none else some .overBudget := by
  simp [checkRevert, hne, hgood, hd, hc]

end Revert

/-- Settles O26. -/
theorem ringAndRevertRefused : Obligations.RingAndRevertRefused := by
  unfold Obligations.RingAndRevertRefused
  refine ⟨fun l n line party cycles s => ?ring, fun l d c recallOn line called caller recallByte s => ?revert⟩
  case ring =>
    simp only [exec_ring]
    refine ⟨fun h => ?_, fun h => ?_, fun h hp => ?_, fun h hf => ?_, fun h hg hp => ?_, fun h hg p hp ha hb => ?_⟩
    · rw [ringAnswer_of_ge h]
    · rw [ringAnswer_of_state h]
    · rw [ringAnswer_of_party h hp]
    · rw [ringAnswer_of_faulted h hf]
    · rw [ringAnswer_of_absent h hg ((Line.party_eq_none_iff _ _).2 hp)]
    · have hno : ¬s.couldCarry ((s.line l).record.loads.get p.side) = true := by
        simp [State.couldCarry, ha, hb]
      rw [ringAnswer_of_party_found h hg hp, if_neg hno]
  case revert =>
    simp only [exec_revert]
    refine ⟨fun h => ?_, fun h => ?_, fun h => ⟨fun hbad => ?_, ?_, fun hne hf => ?_, fun hne hg hp => ?_,
      fun hne hg p hp q hq hover => ?_⟩⟩
    · rw [revertAnswer_of_ge h]
    · rw [revertAnswer_of_state h]
    · rw [revertAnswer_of_badField h hbad]
    · rw [revertAnswer_of_checked h, checkRevert_of_same]
    · rw [revertAnswer_of_checked h, checkRevert_of_faulted hne hf]
    · rw [revertAnswer_of_checked h, checkRevert_of_absent hne hg]
      simpa only [Line.party_eq_none_iff] using hp
    · have hno : ¬s.couldCarry (revertLoad (s.line l) p q recallOn) = true := by
        rw [State.couldCarry_iff]
        rintro ⟨bus, hbus⟩
        obtain ⟨hp', hq'⟩ := (revertLoad_le _ _ _ _ _).1 hbus
        rcases hover bus with ho | ⟨hr, ho⟩
        · omega
        · have := hq' hr; omega
      rw [revertAnswer_of_checked h, checkRevert_of_parties hne hg hp hq, if_neg hno]

end Sys2Proof.Machine
end

section
/-! PROOFS. TEST_LINE and TEST_TICK (R111, R115, R116, R123). -/

namespace Sys2Proof.Machine

theorem exec_testLine (line : Byte) (s : State) :
    exec (.testLine line) s = .next (reply 0x94 (testLineAnswer line s)) := rfl

theorem exec_testTick (s : State) : exec .testTick s = .next (testTickStep s) := rfl

theorem testLineAnswer_of_ge {line : Byte} (s : State) (h : 16 ≤ line.toNat) :
    testLineAnswer line s = ⟨s, .badField, []⟩ := by
  simp [testLineAnswer, readLineId_of_ge h, refuse]

theorem testLineAnswer_of_state {l : LineId} {s : State} (h : s.callState l ≠ .idle) :
    testLineAnswer (lineByte l) s = ⟨s, .lineState, []⟩ := by
  simp [testLineAnswer, h, refuse]

theorem testLineAnswer_of_idle {l : LineId} {s : State} (h : s.callState l = .idle) :
    testLineAnswer (lineByte l) s = ⟨testLineAccepted l s, .ok, [if s.hasHostTest l then 1 else 0]⟩ := by
  simp [testLineAnswer, h]

/-- A running job is not pre-empted: a busy arbiter changes nothing. -/
theorem State.arbitrate_of_busy {s : State} (h : s.msu.running.isSome = true) : s.arbitrate = s :=
  s.arbitrate_busy (by rintro e; simp [e] at h)

@[simp] theorem State.arbitrate_arrivalCount (s : State) : s.arbitrate.msu.arrivalCount = s.msu.arrivalCount := by
  rw [State.arbitrate_eq]
@[simp] theorem State.arbitrate_backlog (s : State) : s.arbitrate.msu.backlog = s.msu.backlog := by
  rw [State.arbitrate_eq]
@[simp] theorem State.arbitrate_mustRun (s : State) : s.arbitrate.msu.mustRun = s.msu.mustRun := by
  rw [State.arbitrate_eq]
@[simp] theorem State.arbitrate_tickTimer (s : State) : s.arbitrate.msu.tickTimer = s.msu.tickTimer := by
  rw [State.arbitrate_eq]

/-- Settles O48. -/
theorem testRequestsAndTicks : Obligations.TestRequestsAndTicks := by
  unfold Obligations.TestRequestsAndTicks
  intro l line s
  simp only [exec_testLine, exec_testTick]
  refine ⟨fun h => ?_, fun h => ?_, fun h ht => ?_, fun h ht => ?_, ?_⟩
  · rw [testLineAnswer_of_ge s h]
  · rw [testLineAnswer_of_state h]
  · rw [testLineAnswer_of_idle h, testLineAccepted, if_pos ht, if_pos ht]
  · refine ⟨(s.requestJob l .hostTest).arbitrate, ?_, ?_⟩
    · rw [testLineAnswer_of_idle h, testLineAccepted, if_neg (by simp [ht]), if_neg (by simp [ht])]
    · refine ⟨by simp, by simp [State.requestJob], by simp [State.requestJob], by simp [State.requestJob],
        fun hr => ?_, ?_⟩
      · rw [State.arbitrate_of_busy (by simpa using hr), State.requestJob_running]
      · rw [State.arbitrate_eq]; rfl
  · refine ⟨_, rfl, ?_⟩
    unfold testTickStep
    refine ⟨by simp [MeasurementUnit.tick, Config.backlogMax],
      by simp [MeasurementUnit.tick, Config.backlogMax, Config.mustSetAt], by simp [MeasurementUnit.tick],
      by simp [MeasurementUnit.tick], by simp [MeasurementUnit.tick], fun hr => ?_, ?_⟩
    · rw [State.arbitrate_of_busy (by simpa [MeasurementUnit.tick] using hr)]; exact ⟨rfl, rfl⟩
    · rw [State.arbitrate_eq]

end Sys2Proof.Machine
end

section
/-! PROOFS. The events that end or begin a call: the expiry of an assignment, the closed-hold and break timers, and call
control's own timers (R45, R96, R97, R99, R131, R133, R134, R139, R150, R151, R153). -/

namespace Sys2Proof.Machine

/-! ### Removal, answer and expiry, whatever the relays and the detector stand at -/

theorem DetectorRecord.dropVerify_mode (d : DetectorRecord) : d.dropVerify.mode ≠ .verify := by
  unfold DetectorRecord.dropVerify
  split
  · simp [DetectorRecord.endVerify]
  · assumption

/-- No verify is left on a line whose assignment is removed (R87). -/
theorem State.removeAssignment_det_mode {s : State} {l : LineId} (c : CutCause) (h : (s.line l).asg ≠ none) :
    ((s.removeAssignment l c).line l).det.mode ≠ .verify := by
  obtain ⟨a, ha⟩ := Option.ne_none_iff_exists'.1 h
  cases hp : a.placement with
  | waiting => rw [State.removeAssignment_line_of_waiting c ha hp]; exact DetectorRecord.dropVerify_mode _
  | placed bus o n => rw [State.removeAssignment_line_of_placed c ha hp]; exact DetectorRecord.dropVerify_mode _

theorem State.requestJob_othersKept (s : State) (l m : LineId) (k : JobKind) : OthersKept l s (s.requestJob m k) :=
  fun n _ => s.requestJob_line m k n

theorem ScheduleKept.fixedKept {s u : State} (h : ScheduleKept s u) : FixedKept s u := h.toFixedKept

theorem State.expire_fixedKept (s : State) (l : LineId) : FixedKept s (s.expire l) := by
  cases ha : (s.line l).asg with
  | none => rw [State.expire_of_none ha]; exact ⟨rfl, rfl, rfl, rfl, rfl, rfl, rfl⟩
  | some a =>
    have hidle (r : Report) : FixedKept s (((s.removeAssignment l .removal).setCallState l .idle).queueReport r) :=
      ((s.removeAssignment_fixedKept l .removal).trans (State.setCallState_scheduleKept _ l _).fixedKept).trans
        (State.queueReport_scheduleKept _ _).fixedKept
    cases hk : a.kind with
    | plain =>
      rw [State.expire_of_plain ha hk]
      exact (hidle _).trans (State.modCall_scheduleKept _ l _).fixedKept
    | revert =>
      rw [State.expire_of_revert ha hk]
      exact (hidle _).trans (State.clearRevert_scheduleKept _ l).fixedKept

theorem State.answer_fixedKept (s : State) (l : LineId) (source : AnswerSource) (side : Option Side) :
    FixedKept s (s.answer l source side) := by
  by_cases hringing : s.callState l = .ringing
  · rw [State.answer_of_ringing source side hringing]
    exact (((s.removeAssignment_fixedKept l .removal).trans (State.setCallState_scheduleKept _ l _).fixedKept).trans
      (State.queueReport_scheduleKept _ _).fixedKept).trans (State.modCall_scheduleKept _ l _).fixedKept
  by_cases hrevert : s.callState l = .revertRinging
  · rw [State.answer_of_revertRinging source side hrevert]
    exact ((s.removeAssignment_fixedKept l .removal).trans (State.setCallState_scheduleKept _ l _).fixedKept).trans
      (State.requestJob_scheduleKept _ l _).fixedKept
  · rw [State.answer_of_not_rung source side hringing hrevert]
    exact ⟨rfl, rfl, rfl, rfl, rfl, rfl, rfl⟩

/-- The line of an answered PLAIN ring: what the removal leaves of it, CONNECTED (R139). -/
theorem State.answer_line_connected {s : State} {l : LineId} (source : AnswerSource) (side : Option Side)
    (h : s.callState l = .ringing) :
    (s.answer l source side).line l = { (s.removeAssignment l .removal).line l with
      record := { (s.line l).record with callState := .connected }
      call := { (s.line l).call with ringingParty := none } } := by
  rw [State.answer_of_ringing source side h, State.modCall_line_self, State.queueReport_line,
    State.setCallState_line_self, Line.enter_plain .connected _ nofun nofun nofun, State.removeAssignment_line_eq]

/-- The line of an answered reverting ring: what the removal leaves of it, in REVERT_CHECK (R153). -/
theorem State.answer_line_revertCheck {s : State} {l : LineId} (source : AnswerSource) (side : Option Side)
    (h : s.callState l = .revertRinging) :
    (s.answer l source side).line l = { (s.removeAssignment l .removal).line l with
      record := { (s.line l).record with callState := .revertCheck } } := by
  rw [State.answer_of_revertRinging source side h, State.requestJob_line, State.setCallState_line_self,
    Line.enter_plain .revertCheck _ nofun nofun nofun, State.removeAssignment_line_eq]

theorem State.answer_queue_of_ringing {s : State} {l : LineId} (source : AnswerSource) (side : Option Side)
    (h : s.callState l = .ringing) : (s.answer l source side).reports.queue =
      queueWith s.reports.queue (.answer l side source (s.line l).call.ringingParty) := by
  simp [State.answer_of_ringing source side h]

theorem State.answer_msu_of_ringing {s : State} {l : LineId} (source : AnswerSource) (side : Option Side)
    (h : s.callState l = .ringing) : (s.answer l source side).msu = s.msu := by
  simp [State.answer_of_ringing source side h]

theorem State.answer_reports_of_revertRinging {s : State} {l : LineId} (source : AnswerSource) (side : Option Side)
    (h : s.callState l = .revertRinging) : (s.answer l source side).reports = s.reports := by
  simp [State.answer_of_revertRinging source side h]

theorem State.answer_jobs_of_revertRinging {s : State} {l : LineId} (source : AnswerSource) (side : Option Side)
    (h : s.callState l = .revertRinging) :
    (s.answer l source side).msu.jobs = s.msu.jobs ++ [⟨l, .answerSide, s.msu.arrivalCount⟩] := by
  simp [State.answer_of_revertRinging source side h]

/-! ### The expiry of an assignment (R45) -/

theorem exec_assignmentExpiry {l : LineId} {s : State} {a : Assignment} (h : (s.line l).asg = some a) :
    exec (.assignmentExpiry l) s = .next (s.expire l).arbitrate := by
  show Host.Outcome.next (assignmentExpiryStep l s) = _
  rw [assignmentExpiryStep, h]

/-- Settles O30. -/
theorem assignmentExpiryEndsTheRing : Obligations.AssignmentExpiryEndsTheRing := by
  unfold Obligations.AssignmentExpiryEndsTheRing
  intro l s a ha
  have hne : (s.line l).asg ≠ none := by simp [ha]
  have hremoved := s.removeAssignment_line_eq l .removal
  refine ⟨_, exec_assignmentExpiry ha, ?_⟩
  rw [State.arbitrate_line, State.arbitrate_reports, State.expire_line ha, State.expire_queue ha]
  refine ⟨?_, ?_, fun hb hd => ?_, fun hu => ?_, ?_, ?_, ?_, fun hk => ?_, fun hk => ?_, ?_, ?_⟩
  · rw [Line.enter_asg, hremoved]
  · rw [Line.enter_record, hremoved]
  · rw [Line.enter_relay]; exact State.removeAssignment_relay_of_driven .removal hb hd
  · rw [Line.enter_relay]; exact State.removeAssignment_relay_of_undriven .removal hu
  · rw [Line.enter_det]; exact State.removeAssignment_det_mode .removal hne
  · rw [Line.enter_sides, hremoved]
  · rw [Line.enter_dial, hremoved]
  · rw [hk]; exact ⟨rfl, rfl⟩
  · rw [hk]; exact ⟨rfl, rfl⟩
  · exact (s.expire_othersKept l).trans (State.arbitrate_othersKept _ l)
  · rw [← State.arbitrate_reports (s.expire l)]
    exact ((s.expire_fixedKept l).trans (State.arbitrate_fixedKept _)).eq

/-! ### The closed-hold timer on an IDLE line (R96, R99, R131) -/

/-- The line with its closed-hold timer taken. -/
def State.holdTaken (s : State) (l : LineId) : State := s.modScan l fun c => { c with closedHold := none }

theorem State.holdTaken_line (s : State) (l : LineId) :
    (s.holdTaken l).line l = { s.line l with scan := { (s.line l).scan with closedHold := none } } :=
  State.modScan_line_self _ _ _

theorem State.holdTaken_othersKept (s : State) (l : LineId) : OthersKept l s (s.holdTaken l) :=
  s.modLine_othersKept l _

theorem State.holdTaken_scheduleKept (s : State) (l : LineId) : ScheduleKept s (s.holdTaken l) := by
  unfold State.holdTaken State.modScan
  exact s.modLine_scheduleKept l _

theorem State.holdTaken_callState (s : State) (l : LineId) : (s.holdTaken l).callState l = s.callState l := by
  rw [State.callState, State.holdTaken_line]; rfl

theorem exec_closedHoldExpiry {l : LineId} {s : State} (h : (s.line l).scan.closedHold ≠ none) :
    exec (.closedHoldExpiry l) s = .next ((s.holdTaken l).heldClosed l).arbitrate :=
  congrArg Host.Outcome.next (if_neg h)

/-- An origination before its identification: the line's jobs aborted, ORIGINATING, the collection open and the
permanent-signal timer running (R99, R130). -/
def State.originationOpened (s : State) (l : LineId) : State :=
  (((s.abortJobs l).setCallState l .originating).openCollection l).startPermanentSignal l

theorem State.originationOpened_line (s : State) (l : LineId) :
    (s.originationOpened l).line l = { s.line l with
      record := { (s.line l).record with callState := .originating }
      dial := { collection := .opened, pulseCount := 0, received := 0, interdigit := none, digits := []
                errors := ⟨false, false, false⟩, complete := false, originationReported := false
                markerOwed := false }
      scan := { (s.line l).scan with makeTimer := none }
      call := { (s.line l).call with permanentSignal := some (s.params.permanentSignalS * 1000) } } := by
  rw [State.originationOpened, State.startPermanentSignal_line, State.openCollection_line,
    State.setCallState_line_self, State.abortJobs_line, Line.enter_plain .originating _ nofun nofun nofun,
    (State.openCollection_scheduleKept _ l).params, State.setCallState_params, (s.abortJobs_scheduleKept l).params]

theorem State.originationOpened_othersKept (s : State) (l : LineId) : OthersKept l s (s.originationOpened l) := by
  unfold State.originationOpened
  exact (((s.abortJobs_othersKept l).trans (State.setCallState_othersKept _ l _)).trans
    (State.openCollection_othersKept _ l)).trans (State.startPermanentSignal_othersKept _ l)

theorem State.originationOpened_scheduleKept (s : State) (l : LineId) : ScheduleKept s (s.originationOpened l) := by
  unfold State.originationOpened
  exact (((s.abortJobs_scheduleKept l).trans (State.setCallState_scheduleKept _ l _)).trans
    (State.openCollection_scheduleKept _ l)).trans (State.startPermanentSignal_scheduleKept _ l)

@[simp] theorem State.originationOpened_msu (s : State) (l : LineId) :
    (s.originationOpened l).msu = s.msu.dropJobs l := by
  rw [State.originationOpened, State.startPermanentSignal, State.modCall_msu, State.openCollection_msu,
    State.setCallState_msu, State.abortJobs_msu]

theorem State.originationOpened_queue (s : State) (l : LineId) :
    (s.originationOpened l).reports.queue =
      (if s.hasHostTest l then queueWith s.reports.queue (.testResult l none) else s.reports.queue).filter
        (· ≠ .digits l) := by
  rw [State.originationOpened, State.startPermanentSignal, State.modCall_reports, State.openCollection_queue,
    State.setCallState_reports, State.abortJobs_queue]

theorem State.originate_of_faulted {s : State} {l : LineId} (h : (s.line l).record.condition = .faulted) :
    s.originate l = (s.originationOpened l).originateDue l (.unidentified .lineFault) none := by
  have hc : ((s.originationOpened l).line l).record.condition = .faulted := by
    rw [State.originationOpened_line]; exact h
  exact if_pos hc

theorem State.originate_of_good {s : State} {l : LineId} (h : (s.line l).record.condition ≠ .faulted) :
    s.originate l =
      ((s.originationOpened l).modCall l fun c => { c with originationPending := true }).requestJob l .originId := by
  have hc : ((s.originationOpened l).line l).record.condition ≠ .faulted := by
    rw [State.originationOpened_line]; exact h
  exact if_neg hc

theorem State.originate_othersKept (s : State) (l : LineId) : OthersKept l s (s.originate l) := by
  by_cases h : (s.line l).record.condition = .faulted
  · rw [State.originate_of_faulted h]
    exact (s.originationOpened_othersKept l).trans (State.originateDue_othersKept _ l _ _)
  · rw [State.originate_of_good h]
    exact (s.originationOpened_othersKept l).trans ((State.modCall_othersKept _ l _).trans (State.requestJob_othersKept _ l l _))

theorem State.originate_scheduleKept (s : State) (l : LineId) : ScheduleKept s (s.originate l) := by
  by_cases h : (s.line l).record.condition = .faulted
  · rw [State.originate_of_faulted h]
    exact (s.originationOpened_scheduleKept l).trans (State.originateDue_scheduleKept _ l _ _)
  · rw [State.originate_of_good h]
    exact ((s.originationOpened_scheduleKept l).trans (State.modCall_scheduleKept _ l _)).trans
      (State.requestJob_scheduleKept _ l _)

/-- The line of a recognised origination: reported at once on a FAULTED line, pending on any other (R131). -/
theorem State.originate_line (s : State) (l : LineId) :
    (s.originate l).line l = { s.line l with
      record := { (s.line l).record with callState := .originating }
      dial := { collection := .opened, pulseCount := 0, received := 0, interdigit := none, digits := []
                errors := ⟨false, false, false⟩, complete := false
                originationReported := decide ((s.line l).record.condition = .faulted), markerOwed := false }
      scan := { (s.line l).scan with makeTimer := none }
      call := { (s.line l).call with
        originationPending := decide ((s.line l).record.condition ≠ .faulted)
        permanentSignal := some (s.params.permanentSignalS * 1000) } } := by
  by_cases h : (s.line l).record.condition = .faulted
  · rw [State.originate_of_faulted h, State.originateDue_line, State.originationOpened_line]
    simp [h]
  · rw [State.originate_of_good h, State.requestJob_line, State.modCall_line_self, State.originationOpened_line]
    simp [h]

theorem State.originate_queue_of_faulted {s : State} {l : LineId} (h : (s.line l).record.condition = .faulted) :
    (s.originate l).reports.queue = queueWith ((if s.hasHostTest l then
      queueWith s.reports.queue (.testResult l none) else s.reports.queue).filter (· ≠ .digits l))
        (.originate l (.unidentified .lineFault) none) := by
  have howed : ((s.originationOpened l).line l).dial.markerOwed = false := by rw [State.originationOpened_line]
  rw [State.originate_of_faulted h, State.originateDue_queue, if_neg (by simp [howed]), State.originationOpened_queue]

theorem State.originate_queue_of_good {s : State} {l : LineId} (h : (s.line l).record.condition ≠ .faulted) :
    (s.originate l).reports.queue = (if s.hasHostTest l then
      queueWith s.reports.queue (.testResult l none) else s.reports.queue).filter (· ≠ .digits l) := by
  rw [State.originate_of_good h, State.requestJob_reports, State.modCall_reports, State.originationOpened_queue]

theorem State.originate_jobs_of_faulted {s : State} {l : LineId} (h : (s.line l).record.condition = .faulted) :
    (s.originate l).msu.jobs = s.msu.jobs.filter fun j => j.line ≠ l := by
  rw [State.originate_of_faulted h, State.originateDue_msu, State.originationOpened_msu]; rfl

theorem State.originate_jobs_of_good {s : State} {l : LineId} (h : (s.line l).record.condition ≠ .faulted) :
    (s.originate l).msu.jobs = (s.msu.jobs.filter fun j => j.line ≠ l) ++ [⟨l, .originId, s.msu.arrivalCount⟩] := by
  rw [State.originate_of_good h, State.requestJob_jobs, State.modCall_msu, State.originationOpened_msu]; rfl

/-- No marker of the line is left in the queue when its collection has been opened. -/
theorem State.originate_markerPending (s : State) (l : LineId) : (s.originate l).markerPending l = false := by
  rw [← Bool.not_eq_true, State.markerPending_iff]
  by_cases h : (s.line l).record.condition = .faulted
  · rw [State.originate_queue_of_faulted h]
    intro hm
    rcases mem_queueWith hm with hm | hm
    · simp at hm
    · cases hm
  · rw [State.originate_queue_of_good h]
    simp

/-- Settles O44. -/
theorem closedLoopOnAnIdleLineIsAnOrigination : Obligations.ClosedLoopOnAnIdleLineIsAnOrigination := by
  unfold Obligations.ClosedLoopOnAnIdleLineIsAnOrigination
  intro l s hhold hidle
  have hstate : (s.holdTaken l).callState l = .idle := (s.holdTaken_callState l).trans hidle
  have hheld : (s.holdTaken l).heldClosed l = (s.holdTaken l).originate l := by simp [State.heldClosed, hstate]
  have hcond : ((s.holdTaken l).line l).record = (s.line l).record := by rw [State.holdTaken_line]
  have hline := (s.holdTaken l).originate_line l
  refine ⟨_, exec_closedHoldExpiry hhold, ?_⟩
  rw [hheld, State.arbitrate_line, State.arbitrate_reports, State.arbitrate_jobs, hline, hcond, State.holdTaken_line]
  have hmarker := (s.holdTaken l).originate_markerPending l
  refine ⟨rfl, rfl, rfl, rfl, ?_, fun h => ⟨?_, ?_, ?_⟩, fun h => ⟨?_, ?_, ?_⟩, rfl, rfl, rfl, rfl, rfl, ?_, ?_⟩
  · rw [State.markerPending, State.arbitrate_reports]; exact hmarker
  · exact decide_eq_true h
  · exact State.originate_jobs_of_good (s := s.holdTaken l) (by rwa [hcond])
  · exact State.originate_queue_of_good (s := s.holdTaken l) (by rwa [hcond])
  · exact decide_eq_false (not_not.2 h)
  · exact State.originate_jobs_of_faulted (s := s.holdTaken l) (by rwa [hcond])
  · exact State.originate_queue_of_faulted (s := s.holdTaken l) (by rwa [hcond])
  · exact ((s.holdTaken_othersKept l).trans (State.originate_othersKept _ l)).trans (State.arbitrate_othersKept _ l)
  · rw [← State.arbitrate_reports ((s.holdTaken l).originate l)]
    exact (((s.holdTaken_scheduleKept l).trans (State.originate_scheduleKept _ l)).trans
      (State.arbitrate_scheduleKept _)).eq

/-! ### The closed-hold timer on a ringing line (R85, R96, R139, R153) -/

theorem State.heldClosed_of_rung {s : State} {l : LineId} (h : s.callState l = .ringing ∨ s.callState l = .revertRinging) :
    s.heldClosed l = s.silenceAnswer l := by
  rcases h with h | h <;> simp [State.heldClosed, h]

theorem State.heldClosed_of_other {s : State} {l : LineId} (hidle : s.callState l ≠ .idle)
    (hringing : s.callState l ≠ .ringing) (hrevert : s.callState l ≠ .revertRinging) : s.heldClosed l = s := by
  unfold State.heldClosed
  split
  · exact absurd ‹_› hidle
  · exact absurd ‹_› hringing
  · exact absurd ‹_› hrevert
  · rfl

/-- The line as an answer in silence finds it: a running verify has ended (R85). -/
def State.verifyEnded (s : State) (l : LineId) : State :=
  if (s.line l).det.mode = .verify ∧ (s.line l).det.verifyRunning = true then s.modDet l DetectorRecord.endVerify
  else s

/-- An answer in silence is of source TRIP with the burst's side while a verify runs, and of source SILENCE with the
stroke's side otherwise (R85, R139). -/
theorem State.silenceAnswer_eq (s : State) (l : LineId) :
    s.silenceAnswer l =
      if (s.line l).det.mode = .verify ∧ (s.line l).det.verifyRunning = true then
        (s.verifyEnded l).answer l .trip (s.line l).det.side
      else (s.verifyEnded l).answer l .silence ((s.line l).asg.map fun a => a.stroke0.side) := by
  unfold State.silenceAnswer State.verifyEnded
  dsimp only
  split <;> rfl

theorem State.silenceAnswer_answer (s : State) (l : LineId) :
    ∃ source side, s.silenceAnswer l = (s.verifyEnded l).answer l source side := by
  rw [State.silenceAnswer_eq]
  split
  · exact ⟨_, _, rfl⟩
  · exact ⟨_, _, rfl⟩

theorem State.verifyEnded_line (s : State) (l : LineId) :
    (s.verifyEnded l).line l = { s.line l with det := ((s.verifyEnded l).line l).det } := by
  unfold State.verifyEnded
  split
  · rw [State.modDet_line_self]
  · rfl

theorem State.verifyEnded_othersKept (s : State) (l : LineId) : OthersKept l s (s.verifyEnded l) := by
  unfold State.verifyEnded
  split
  · exact s.modLine_othersKept l _
  · exact .refl l s

theorem State.verifyEnded_scheduleKept (s : State) (l : LineId) : ScheduleKept s (s.verifyEnded l) := by
  unfold State.verifyEnded
  split
  · exact s.modLine_scheduleKept l _
  · exact ⟨⟨rfl, rfl, rfl, rfl, rfl, rfl, rfl⟩, rfl, rfl, rfl⟩

@[simp] theorem State.verifyEnded_msu (s : State) (l : LineId) : (s.verifyEnded l).msu = s.msu := by
  unfold State.verifyEnded; split <;> rfl

@[simp] theorem State.verifyEnded_reports (s : State) (l : LineId) : (s.verifyEnded l).reports = s.reports := by
  unfold State.verifyEnded; split <;> rfl

/-- The state in which an answer in silence is taken: the closed-hold timer and a running verify have ended. -/
def State.silence (s : State) (l : LineId) : State := (s.holdTaken l).verifyEnded l

theorem State.silence_line (s : State) (l : LineId) :
    (s.silence l).line l = { s.line l with
      det := ((s.silence l).line l).det, scan := { (s.line l).scan with closedHold := none } } := by
  unfold State.silence
  rw [State.verifyEnded_line, State.holdTaken_line]

theorem State.silence_callState (s : State) (l : LineId) : (s.silence l).callState l = s.callState l := by
  rw [State.callState, State.silence_line]; rfl

theorem State.silence_othersKept (s : State) (l : LineId) : OthersKept l s (s.silence l) :=
  (s.holdTaken_othersKept l).trans (State.verifyEnded_othersKept _ l)

theorem State.silence_fixedKept (s : State) (l : LineId) : FixedKept s (s.silence l) :=
  ((s.holdTaken_scheduleKept l).trans (State.verifyEnded_scheduleKept _ l)).fixedKept

/-- Settles O45. -/
theorem closedLoopOnARingingLineIsAnAnswer : Obligations.ClosedLoopOnARingingLineIsAnAnswer := by
  unfold Obligations.ClosedLoopOnARingingLineIsAnAnswer
  intro l s hhold
  have hholdLine := s.holdTaken_line l
  have hdet : ((s.holdTaken l).line l).det = (s.line l).det := by rw [hholdLine]
  have hasg : ((s.holdTaken l).line l).asg = (s.line l).asg := by rw [hholdLine]
  have hcall : ((s.silence l).line l).call = (s.line l).call := by rw [State.silence_line]
  have hreports : (s.silence l).reports = s.reports := State.verifyEnded_reports _ l
  have hmsu : (s.silence l).msu = s.msu := State.verifyEnded_msu _ l
  have hasg' : ((s.silence l).line l).asg = (s.line l).asg := by rw [State.silence_line]
  simp only [exec_closedHoldExpiry hhold]
  refine ⟨fun hringing a ha => ?ringing, fun hrevert ha => ?revert, fun hi hr hv => ?other⟩
  case ringing =>
    have hstate : (s.silence l).callState l = .ringing := (s.silence_callState l).trans hringing
    have hheld := State.heldClosed_of_rung (.inl ((s.holdTaken_callState l).trans hringing))
    have hsilence := (s.holdTaken l).silenceAnswer_eq l
    rw [hdet, hasg, ha] at hsilence
    obtain ⟨source, side, hanswer⟩ := (s.holdTaken l).silenceAnswer_answer l
    have hne : ((s.silence l).line l).asg ≠ none := by rw [hasg', ha]; nofun
    have hline := State.answer_line_connected source side hstate
    have hremoved := (s.silence l).removeAssignment_line_eq l .removal
    refine ⟨_, rfl, ?_⟩
    simp only [State.arbitrate_callState, State.arbitrate_line, State.arbitrate_reports, State.arbitrate_jobs]
    refine ⟨?_, ?_, ?_, fun hv => ?_, fun hv => ?_, ?_, ?_, ?_, ?_, ?_, ?_⟩
    · rw [hheld, hanswer, State.callState]; exact congrArg (·.record.callState) hline
    · rw [hheld, hanswer]; exact (congrArg Line.asg hline).trans (congrArg Line.asg hremoved)
    · rw [hheld, hanswer]
      have := State.removeAssignment_det_mode (s := s.silence l) .removal hne
      exact fun e => this ((congrArg (·.det.mode) hline).symm.trans e)
    · rw [hheld, hsilence, if_pos hv]
      exact (State.answer_queue_of_ringing _ _ hstate).trans (by rw [hreports, hcall])
    · rw [hheld, hsilence, if_neg hv]
      exact (State.answer_queue_of_ringing _ _ hstate).trans (by rw [hreports, hcall]; rfl)
    · rw [hheld, hanswer]; exact (congrArg Line.call hline).trans (by rw [hcall])
    · rw [hheld, hanswer]
      exact (congrArg Line.dial hline).trans ((congrArg Line.dial hremoved).trans (by rw [State.silence_line]))
    · rw [hheld, hanswer]
      exact (congrArg Line.sides hline).trans ((congrArg Line.sides hremoved).trans (by rw [State.silence_line]))
    · rw [hheld, hanswer]; exact congrArg MeasurementUnit.jobs ((State.answer_msu_of_ringing _ _ hstate).trans hmsu)
    · rw [hheld, hanswer]
      exact ((s.silence_othersKept l).trans (State.answer_othersKept _ l _ _)).trans (State.arbitrate_othersKept _ l)
    · rw [hheld, hanswer]
      rw [← State.arbitrate_reports (State.answer _ l source side)]
      exact (((s.silence_fixedKept l).trans (State.answer_fixedKept _ l _ _)).trans (State.arbitrate_fixedKept _)).eq
  case revert =>
    have hstate : (s.silence l).callState l = .revertRinging := (s.silence_callState l).trans hrevert
    have hheld := State.heldClosed_of_rung (.inr ((s.holdTaken_callState l).trans hrevert))
    obtain ⟨source, side, hanswer⟩ := (s.holdTaken l).silenceAnswer_answer l
    have hne : ((s.silence l).line l).asg ≠ none := by rw [hasg']; exact ha
    have hline := State.answer_line_revertCheck source side hstate
    have hremoved := (s.silence l).removeAssignment_line_eq l .removal
    rw [hheld, hanswer]
    have hreports' : ((s.silence l).answer l source side).arbitrate.reports = s.reports := by
      rw [State.arbitrate_reports, State.answer_reports_of_revertRinging source side hstate, hreports]
    refine ⟨_, rfl, ?_⟩
    simp only [State.arbitrate_callState, State.arbitrate_line, State.arbitrate_jobs]
    refine ⟨?_, ?_, ?_, ?_, ?_, ?_, ?_, ?_, ?_⟩
    · rw [State.callState]; exact congrArg (·.record.callState) hline
    · exact (congrArg Line.asg hline).trans (congrArg Line.asg hremoved)
    · have := State.removeAssignment_det_mode (s := s.silence l) .removal hne
      exact fun e => this ((congrArg (·.det.mode) hline).symm.trans e)
    · exact (State.answer_jobs_of_revertRinging source side hstate).trans (by rw [hmsu])
    · exact (congrArg Line.call hline).trans ((congrArg Line.call hremoved).trans hcall)
    · exact (congrArg Line.dial hline).trans ((congrArg Line.dial hremoved).trans (by rw [State.silence_line]))
    · exact (congrArg Line.sides hline).trans ((congrArg Line.sides hremoved).trans (by rw [State.silence_line]))
    · exact ((s.silence_othersKept l).trans (State.answer_othersKept _ l _ _)).trans (State.arbitrate_othersKept _ l)
    · have hfixed := (((s.silence_fixedKept l).trans (State.answer_fixedKept _ l source side)).trans
        (State.arbitrate_fixedKept _)).eq
      rw [hreports'] at hfixed
      exact hfixed
  case other =>
    have hstate := s.holdTaken_callState l
    have hheld : (s.holdTaken l).heldClosed l = s.holdTaken l :=
      State.heldClosed_of_other (by rwa [hstate]) (by rwa [hstate]) (by rwa [hstate])
    refine ⟨_, rfl, ?_⟩
    rw [hheld]
    refine ⟨?_, (s.holdTaken_othersKept l).trans (State.arbitrate_othersKept _ l), ?_, ?_⟩
    · rw [State.arbitrate_line, hholdLine]
    · rw [State.arbitrate_jobs]; rfl
    · rw [State.arbitrate_eq]; rfl

/-! ### Call control's timers (R134, R151) -/

theorem exec_permanentSignalExpiry {l : LineId} {s : State} (hstate : s.callState l = .originating)
    (htimer : (s.line l).call.permanentSignal ≠ none) :
    exec (.permanentSignalExpiry l) s = .next (permanentSignalTaken l s) :=
  congrArg Host.Outcome.next (if_pos ⟨hstate, htimer⟩)

theorem exec_revertHoldExpiry {l : LineId} {s : State} (hstate : s.callState l = .revertHold)
    (htimer : (s.line l).call.revertHold ≠ none) :
    exec (.revertHoldExpiry l) s = .next (revertHoldTaken l s) :=
  congrArg Host.Outcome.next (if_pos ⟨hstate, htimer⟩)

/-- The line that the permanent signal has parked, before the arbiter is asked (R134). -/
def State.signalParked (s : State) (l : LineId) : State :=
  (((s.leaveOriginating l).emptyDigits l).setCallState l .parked).queueReport (.parked l)

theorem permanentSignalTaken_eq (l : LineId) (s : State) :
    permanentSignalTaken l s = (s.signalParked l).arbitrate := rfl

theorem State.signalParked_line (s : State) (l : LineId) :
    (s.signalParked l).line l = { s.line l with
      record := { (s.line l).record with callState := .parked }
      dial := { (s.line l).dial with
        collection := .off, pulseCount := 0, interdigit := none, digits := [], errors := ⟨false, false, false⟩
        complete := false, markerOwed := false
        originationReported := (s.line l).dial.originationReported || (s.line l).call.originationPending }
      scan := { (s.line l).scan with makeTimer := none }
      call := { (s.line l).call with originationPending := false, permanentSignal := none } } := by
  rw [State.signalParked, State.queueReport_line, State.setCallState_line_self,
    Line.enter_plain .parked _ nofun nofun nofun, State.emptyDigits_line, State.leaveOriginating_line]

@[simp] theorem State.signalParked_msu (s : State) (l : LineId) : (s.signalParked l).msu = s.msu.dropJobs l := by
  rw [State.signalParked, State.queueReport_msu, State.setCallState_msu, State.emptyDigits_msu,
    State.leaveOriginating_msu]

theorem State.signalParked_queue (s : State) (l : LineId) :
    (s.signalParked l).reports.queue = queueWith ((leavingQueue l s).filter (· ≠ .digits l)) (.parked l) := by
  rw [State.signalParked, State.queueReport_queue, State.setCallState_reports, State.emptyDigits_queue,
    State.leaveOriginating_queue]

theorem State.signalParked_othersKept (s : State) (l : LineId) : OthersKept l s (s.signalParked l) :=
  (((s.leaveOriginating_othersKept l).trans (State.emptyDigits_othersKept _ l)).trans
    (State.setCallState_othersKept _ l _)).trans (State.queueReport_othersKept _ l _)

theorem State.signalParked_scheduleKept (s : State) (l : LineId) : ScheduleKept s (s.signalParked l) :=
  (((s.leaveOriginating_scheduleKept l).trans (State.emptyDigits_scheduleKept _ l)).trans
    (State.setCallState_scheduleKept _ l _)).trans (State.queueReport_scheduleKept _ _)

/-- A line whose jobs are dropped and that is not IDLE gets no job from the arbiter, so its jobs are off the unit
(R113). -/
theorem jobsDropped_of_dropped {s u : State} {l : LineId} (hmsu : u.msu = s.msu.dropJobs l)
    (hstate : u.callState l ≠ .idle) : JobsDropped l s u.arbitrate := by
  have hjobs : u.msu.jobs = s.msu.jobs.filter fun j => j.line ≠ l := by rw [hmsu]; rfl
  refine ⟨by rw [State.arbitrate_jobs, hjobs], State.arbitrate_head_ne ?_ ?_ hstate, ?_⟩
  · rw [hmsu]; exact MeasurementUnit.dropJobs_head
  · rw [hjobs]; intro j hj; simpa using (List.mem_filter.1 hj).2
  · rw [State.arbitrate_backlog, State.arbitrate_mustRun, hmsu]; exact ⟨rfl, rfl⟩

/-- Settles O47. -/
theorem callTimersParkOrGiveBack : Obligations.CallTimersParkOrGiveBack := by
  unfold Obligations.CallTimersParkOrGiveBack
  refine fun l s => ⟨fun hstate htimer => ?parks, fun hstate htimer => ?givesBack⟩
  case parks =>
    have hline := s.signalParked_line l
    have hparked : (s.signalParked l).callState l = .parked := congrArg (·.record.callState) hline
    refine ⟨_, exec_permanentSignalExpiry hstate htimer, ?_⟩
    rw [permanentSignalTaken_eq, State.arbitrate_callState, State.arbitrate_line, State.arbitrate_reports, hline]
    refine ⟨hparked, jobsDropped_of_dropped (s.signalParked_msu l) (by simp [hparked]), s.signalParked_queue l, rfl,
      rfl, rfl, rfl, rfl, rfl, rfl, rfl, rfl, rfl, ?_, ?_⟩
    · exact (s.signalParked_othersKept l).trans (State.arbitrate_othersKept _ l)
    · rw [← State.arbitrate_reports (s.signalParked l)]
      exact ((s.signalParked_scheduleKept l).trans (State.arbitrate_scheduleKept _)).eq
  case givesBack =>
    have hline := s.returnToCaller_line l
    refine ⟨_, exec_revertHoldExpiry hstate htimer, ?_⟩
    unfold revertHoldTaken
    rw [State.queueReport_callState, State.queueReport_line, State.queueReport_queue, State.returnToCaller_reports,
      State.callState, hline]
    refine ⟨rfl, rfl, rfl, rfl, rfl, rfl, rfl, rfl, ?_, ?_⟩
    · exact (s.returnToCaller_othersKept l).trans (State.queueReport_othersKept _ l _)
    · have hmsu : ((s.returnToCaller l).queueReport (.revertAbandon l .holdTimeout)).msu = s.msu := by simp
      have hkept := ((s.returnToCaller_scheduleKept l).trans
        (State.queueReport_scheduleKept _ (.revertAbandon l .holdTimeout))).eq
      rw [hmsu] at hkept
      exact hkept

end Sys2Proof.Machine
end

section
/-! PROOFS. The search of a placement read from another state, and the assignment a creation leaves (R36, R39). -/

namespace Sys2Proof.Machine

theorem ScheduleKept.search {s u : State} (h : ScheduleKept s u) (a : Assignment) : u.search a = s.search a := by
  rw [h.eq]; rfl

theorem State.place_bus_ne (s : State) (l : LineId) (a : Assignment) (bus v : Bus) (o : Slot) (h : v ≠ bus) :
    (s.place l a bus o).bus v = s.bus v := by
  have e : (s.place l a bus o).bus v = (s.addLoads a bus o).bus v := by cases v <;> rfl
  rw [e, State.addLoads, State.modBus_bus_ne _ _ _ _ h]

section Create

variable {s : State} {l : LineId} {kind : AssignmentKind} {k0 : Stroke} {k1 : Option Stroke} {n : Nat}

/-- A creation whose attempt succeeds places the new assignment there. -/
theorem State.createAssignment_of_found {o : Slot} {bus : Bus}
    (h : s.search (newAssignment kind k0 k1 n s.createdCount) = some (o, bus)) :
    s.createAssignment l kind k0 k1 n =
      State.place { s with createdCount := s.createdCount + 1 } l (newAssignment kind k0 k1 n s.createdCount) bus o := by
  rcases s.createAssignment_cases l kind k0 k1 n with ⟨o', bus', hs, e⟩ | ⟨hs, -⟩
  · obtain ⟨rfl, rfl⟩ := Prod.mk.inj (Option.some.inj (hs.symm.trans h))
    exact e
  · exact nomatch hs.symm.trans h

/-- A creation whose attempt fails puts the new assignment on the waiting list. -/
theorem State.createAssignment_of_not_found (h : s.search (newAssignment kind k0 k1 n s.createdCount) = none) :
    s.createAssignment l kind k0 k1 n =
      State.joinWaiting { s with createdCount := s.createdCount + 1 } l
        (newAssignment kind k0 k1 n s.createdCount) := by
  rcases s.createAssignment_cases l kind k0 k1 n with ⟨o', bus', hs, -⟩ | ⟨-, e⟩
  · exact nomatch h.symm.trans hs
  · exact e

theorem State.createAssignment_asg_of_found {o : Slot} {bus : Bus}
    (h : s.search (newAssignment kind k0 k1 n s.createdCount) = some (o, bus)) :
    ((s.createAssignment l kind k0 k1 n).line l).asg =
      some { newAssignment kind k0 k1 n s.createdCount with placement := .placed bus o s.placedCount } := by
  obtain ⟨hline, -⟩ := State.place_spec { s with createdCount := s.createdCount + 1 } l
    (newAssignment kind k0 k1 n s.createdCount) bus o
  rw [State.createAssignment_of_found h, hline]

theorem State.createAssignment_asg_of_not_found (h : s.search (newAssignment kind k0 k1 n s.createdCount) = none) :
    ((s.createAssignment l kind k0 k1 n).line l).asg = some (newAssignment kind k0 k1 n s.createdCount) := by
  obtain ⟨hline, -⟩ := State.joinWaiting_spec { s with createdCount := s.createdCount + 1 } l
    (newAssignment kind k0 k1 n s.createdCount)
  rw [State.createAssignment_of_not_found h, hline]; rfl

theorem State.joinWaiting_mem (s : State) (l : LineId) (a : Assignment) : l ∈ (s.joinWaiting l a).waiting :=
  (mem_insertBy _ _ _ _).2 (.inl rfl)

theorem State.createAssignment_mem_waiting (h : s.search (newAssignment kind k0 k1 n s.createdCount) = none) :
    l ∈ (s.createAssignment l kind k0 k1 n).waiting := by
  rw [State.createAssignment_of_not_found h]; exact State.joinWaiting_mem _ _ _

end Create

/-- A line whose assignment is removed is off the waiting list (R47). -/
theorem State.removeAssignment_not_mem_waiting {s : State} (h : WaitingLaw s) (l : LineId) (c : CutCause) :
    l ∉ (s.removeAssignment l c).waiting := by
  have hout (hw : (s.line l).waits = false) : l ∉ s.waiting := by rw [h.members, hw]; nofun
  cases ha : (s.line l).asg with
  | none =>
    rw [State.removeAssignment_of_none c ha]
    exact hout (by simp [Line.waits, ha])
  | some a =>
    cases hp : a.placement with
    | waiting => rw [State.removeAssignment_of_waiting c ha hp]; simp
    | placed bus o n =>
      have hwaiting : (s.removeAssignment l c).waiting = s.waiting := by
        rw [State.removeAssignment_of_placed c ha hp]; simp [State.subtractLoads]
      rw [hwaiting]
      exact hout (by simp [Line.waits, ha, hp])

/-! ### The job the arbiter gives a line without entries -/

/-- A chosen job is of an entry's line, or an insulation job. -/
theorem State.chooseJob_kind {s : State} {p : LineId × JobKind} (h : s.chooseJob = some p) :
    (∃ j ∈ s.msu.jobs, j.line = p.1) ∨ p.2 = .insulation := by
  have hins {u : Urgency} (h : s.insulationChoice u = some p) : p.2 = .insulation := by
    unfold State.insulationChoice at h
    split at h
    · obtain ⟨l, -, rfl⟩ := Option.map_eq_some_iff.1 h
      rfl
    · cases h
  simp only [State.chooseJob, Option.or_eq_some_iff] at h
  rcases h with h | ⟨-, h | ⟨-, h | ⟨-, h | ⟨-, h | ⟨-, h⟩⟩⟩⟩⟩
  · exact .inl (State.entryChoice_line h)
  · exact .inr (hins h)
  · exact .inl (State.entryChoice_line h)
  · exact .inr (hins h)
  · exact .inl (State.entryChoice_line h)
  · exact .inr (hins h)

/-- On a line with no entry in the list and no job on the head, the arbiter can only start an insulation test. -/
theorem State.arbitrate_head_insulation {s : State} {l : LineId} (hhead : ∀ r ∈ s.msu.running, r.line ≠ l)
    (hjobs : ∀ j ∈ s.msu.jobs, j.line ≠ l) : ∀ r ∈ s.arbitrate.msu.running, r.line = l → r.kind = .insulation := by
  rcases s.arbitrate_cases with e | ⟨m, k, -, hc, e⟩
  · rw [e]; exact fun r hr hl => absurd hl (hhead r hr)
  · rw [e]
    rintro r hr rfl
    have hr' : (⟨m, k, jobMs k, s.msu.startCount⟩ : RunningJob) = r := Option.some.inj hr
    obtain rfl : m = r.line := congrArg RunningJob.line hr'
    obtain rfl : k = r.kind := congrArg RunningJob.kind hr'
    rcases State.chooseJob_kind hc with ⟨j, hj, hm⟩ | hk
    · exact absurd hm (hjobs j hj)
    · exact hk

theorem arbitrate_head_of_dropped {s u : State} {l : LineId} (hmsu : u.msu = s.msu.dropJobs l) :
    ∀ r ∈ u.arbitrate.msu.running, r.line = l → r.kind = .insulation := by
  refine State.arbitrate_head_insulation ?_ ?_
  · rw [hmsu]; exact MeasurementUnit.dropJobs_head
  · rw [hmsu]; intro j hj; simpa using (List.mem_filter.1 hj).2

end Sys2Proof.Machine
end

section
/-! PROOFS. The break timer (R97, R133, R142, R143, R150, R157). -/

namespace Sys2Proof.Machine

/-- What no recognition of a break of 1050 ms writes of its line. -/
structure BreakKept (x y : Line) : Prop where
  sides : y.sides = x.sides
  det : y.det = x.det
  relay : y.relay = x.relay
  leaks : y.leaks = x.leaks
  parties : y.record.parties = x.record.parties
  closed : y.scan.closed = x.scan.closed
  breakTimer : y.scan.breakTimer = x.scan.breakTimer

theorem BreakKept.trans {x y z : Line} (h : BreakKept x y) (k : BreakKept y z) : BreakKept x z :=
  ⟨k.sides.trans h.sides, k.det.trans h.det, k.relay.trans h.relay, k.leaks.trans h.leaks, k.parties.trans h.parties,
    k.closed.trans h.closed, k.breakTimer.trans h.breakTimer⟩

theorem Line.enter_breakKept (x : Line) (st : CallState) : BreakKept x (x.enter st) :=
  ⟨x.enter_sides st, x.enter_det st, x.enter_relay st, x.enter_leaks st, by rw [x.enter_record st],
    x.enter_closed st, x.enter_breakTimer st⟩

theorem BreakKept.enter {x y : Line} (h : BreakKept x y) (st : CallState) : BreakKept x (y.enter st) :=
  h.trans (y.enter_breakKept st)

/-- The line with its break timer taken. -/
def State.breakTaken (s : State) (l : LineId) : State := s.modScan l fun c => { c with breakTimer := none }

theorem State.breakTaken_line (s : State) (l : LineId) :
    (s.breakTaken l).line l = { s.line l with scan := { (s.line l).scan with breakTimer := none } } :=
  State.modScan_line_self _ _ _

theorem State.breakTaken_othersKept (s : State) (l : LineId) : OthersKept l s (s.breakTaken l) :=
  s.modLine_othersKept l _

theorem State.breakTaken_scheduleKept (s : State) (l : LineId) : ScheduleKept s (s.breakTaken l) := by
  unfold State.breakTaken State.modScan
  exact s.modLine_scheduleKept l _

theorem State.breakTaken_callState (s : State) (l : LineId) : (s.breakTaken l).callState l = s.callState l := by
  rw [State.callState, State.breakTaken_line]; rfl

theorem exec_breakTimerExpiry {l : LineId} {s : State} (h : (s.line l).scan.breakTimer ≠ none) :
    exec (.breakTimerExpiry l) s = .next ((s.breakTaken l).breakReached l).arbitrate :=
  congrArg Host.Outcome.next (if_neg h)

section BreakReached

variable {s : State} {l : LineId}

theorem State.breakReached_of_originating (h : s.callState l = .originating) :
    s.breakReached l = (s.leaveOriginating l).clearLine l .originating := by simp [State.breakReached, h]

theorem State.breakReached_of_clear (h : s.callState l = .connected ∨ s.callState l = .parked) :
    s.breakReached l = s.clearLine l (s.callState l) := by
  rcases h with h | h <;> simp [State.breakReached, h]

theorem State.breakReached_of_revertCheck (h : s.callState l = .revertCheck) :
    s.breakReached l = (s.abortJobs l).beginReverting l := by simp [State.breakReached, h]

theorem State.breakReached_of_revertHold (h : s.callState l = .revertHold) :
    s.breakReached l = (s.modCall l fun c => { c with revertHold := none }).beginReverting l := by
  simp [State.breakReached, h]

theorem State.breakReached_of_other (h : s.callState l ∈ [.unequipped, .blocked, .idle, .ringing, .revertRinging]) :
    s.breakReached l = s := by
  simp only [List.mem_cons, List.not_mem_nil, or_false] at h
  rcases h with h | h | h | h | h <;> simp [State.breakReached, h]

/-- Every call state is one of the rows of the table. -/
theorem CallState.breakRow (c : CallState) : c = .originating ∨ (c = .connected ∨ c = .parked) ∨
    (c = .revertHold ∨ c = .revertCheck) ∨ c ∈ [.unequipped, .blocked, .idle, .ringing, .revertRinging] := by
  cases c <;> decide

end BreakReached

theorem State.beginReverting_breakKept (s : State) (l : LineId) :
    BreakKept (s.line l) ((s.beginReverting l).line l) := by
  cases h : (s.line l).revertStrokes with
  | none => rw [State.beginReverting_of_none h]; exact ⟨rfl, rfl, rfl, rfl, rfl, rfl, rfl⟩
  | some p =>
    rw [State.beginReverting_of_strokes h, State.setCallState_line_self, State.createAssignment_line]
    refine BreakKept.enter ?_ _
    exact ⟨rfl, rfl, rfl, rfl, rfl, rfl, rfl⟩

theorem State.breakReached_breakKept (s : State) (l : LineId) : BreakKept (s.line l) ((s.breakReached l).line l) := by
  rcases (s.callState l).breakRow with h | h | h | h
  · rw [State.breakReached_of_originating h, State.clearLine_line, State.leaveOriginating_line]
    refine BreakKept.enter ?_ _
    exact ⟨rfl, rfl, rfl, rfl, rfl, rfl, rfl⟩
  · rw [State.breakReached_of_clear h, State.clearLine_line]
    exact Line.enter_breakKept _ _
  · rcases h with h | h
    · rw [State.breakReached_of_revertHold h]
      have hk := State.beginReverting_breakKept (s.modCall l fun c => { c with revertHold := none }) l
      rw [State.modCall_line_self] at hk
      exact ⟨hk.sides, hk.det, hk.relay, hk.leaks, hk.parties, hk.closed, hk.breakTimer⟩
    · rw [State.breakReached_of_revertCheck h, ← State.abortJobs_line s l l]
      exact State.beginReverting_breakKept _ l
  · rw [State.breakReached_of_other h]; exact ⟨rfl, rfl, rfl, rfl, rfl, rfl, rfl⟩

theorem State.breakReached_othersKept (s : State) (l : LineId) : OthersKept l s (s.breakReached l) := by
  rcases (s.callState l).breakRow with h | h | h | h
  · rw [State.breakReached_of_originating h]
    exact (s.leaveOriginating_othersKept l).trans (State.clearLine_othersKept _ l _)
  · rw [State.breakReached_of_clear h]; exact s.clearLine_othersKept l _
  · rcases h with h | h
    · rw [State.breakReached_of_revertHold h]
      exact (s.modCall_othersKept l _).trans (State.beginReverting_othersKept _ l)
    · rw [State.breakReached_of_revertCheck h]
      exact (s.abortJobs_othersKept l).trans (State.beginReverting_othersKept _ l)
  · rw [State.breakReached_of_other h]; exact .refl l s

/-- The items that not even a ring writes: the code table, the parameters, the link and the slot counter. -/
structure ConfigKept (s u : State) : Prop where
  codes : u.codes = s.codes
  params : u.params = s.params
  link : u.link = s.link
  slot : u.slot = s.slot

theorem ConfigKept.trans {s t u : State} (h : ConfigKept s t) (k : ConfigKept t u) : ConfigKept s u :=
  ⟨k.codes.trans h.codes, k.params.trans h.params, k.link.trans h.link, k.slot.trans h.slot⟩

theorem FixedKept.configKept {s u : State} (h : FixedKept s u) : ConfigKept s u := ⟨h.codes, h.params, h.link, h.slot⟩

theorem State.createAssignment_configKept (s : State) (l : LineId) (kind : AssignmentKind) (k0 : Stroke)
    (k1 : Option Stroke) (n : Nat) : ConfigKept s (s.createAssignment l kind k0 k1 n) := by
  rw [State.createAssignment_eq]; exact ⟨rfl, rfl, rfl, rfl⟩

theorem State.beginReverting_configKept (s : State) (l : LineId) : ConfigKept s (s.beginReverting l) := by
  cases h : (s.line l).revertStrokes with
  | none => rw [State.beginReverting_of_none h]; exact ⟨rfl, rfl, rfl, rfl⟩
  | some p =>
    rw [State.beginReverting_of_strokes h]
    exact (s.createAssignment_configKept l _ _ _ _).trans (State.setCallState_scheduleKept _ l _).fixedKept.configKept

theorem State.breakReached_configKept (s : State) (l : LineId) : ConfigKept s (s.breakReached l) := by
  rcases (s.callState l).breakRow with h | h | h | h
  · rw [State.breakReached_of_originating h]
    exact ((s.leaveOriginating_scheduleKept l).trans (State.clearLine_scheduleKept _ l _)).fixedKept.configKept
  · rw [State.breakReached_of_clear h]; exact (s.clearLine_scheduleKept l _).fixedKept.configKept
  · rcases h with h | h
    · rw [State.breakReached_of_revertHold h]
      exact (s.modCall_scheduleKept l _).fixedKept.configKept.trans (State.beginReverting_configKept _ l)
    · rw [State.breakReached_of_revertCheck h]
      exact (s.abortJobs_scheduleKept l).fixedKept.configKept.trans (State.beginReverting_configKept _ l)
  · rw [State.breakReached_of_other h]; exact ⟨rfl, rfl, rfl, rfl⟩

/-! ### A reverting call begins to ring (R150, R152, R157) -/

/-- The strokes of a reverting call whose two parties are configured: the called party's, and with recall the
caller's. -/
theorem Line.revertStrokes_of_parties {x : Line} {d r : Party} (hd : x.call.called.bind x.party = some d)
    (hr : x.call.caller.bind x.party = some r) :
    x.revertStrokes = some (x.strokeOf d, if x.call.recallOn then some (x.strokeOf r) else none) := by
  unfold Line.revertStrokes
  rw [hd, hr]
  cases x.call.recallOn <;> rfl

/-- What the ringing of a reverting call sets up on a state with the schedule of `s`: a REVERT assignment of the given
strokes, placed by its attempt or waiting. -/
structure RevertBegun (s : State) (l : LineId) (k : Assignment) (t : State) : Prop where
  state : t.callState l = .revertRinging
  same : ∃ a ∈ (t.line l).asg, Assignment.SameRing k a
  found : ∀ o bus, s.search k = some (o, bus) →
    (t.line l).asg = some { k with placement := .placed bus o s.placedCount }
  missed : s.search k = none → (t.line l).asg = some k ∧ l ∈ t.waiting

theorem State.beginReverting_begun {s u : State} {l : LineId} {k0 : Stroke} {k1 : Option Stroke}
    (hkept : ScheduleKept s u) (h : (u.line l).revertStrokes = some (k0, k1)) :
    RevertBegun s l (newAssignment .revert k0 k1 s.params.ringCycles s.createdCount) (u.beginReverting l) := by
  rw [State.beginReverting_of_strokes h, ← hkept.params, ← hkept.createdCount]
  have hasg (x : Option Assignment)
      (hx : ((u.createAssignment l .revert k0 k1 u.params.ringCycles).line l).asg = x) :
      (((u.createAssignment l .revert k0 k1 u.params.ringCycles).setCallState l .revertRinging).line l).asg = x := by
    rw [State.setCallState_line_self, Line.enter_asg, hx]
  have hfound (o : Slot) (bus : Bus) (hs : u.search (newAssignment .revert k0 k1 u.params.ringCycles u.createdCount) =
      some (o, bus)) := hasg _ (State.createAssignment_asg_of_found (l := l) hs)
  have hmissed (hs : u.search (newAssignment .revert k0 k1 u.params.ringCycles u.createdCount) = none) :=
    hasg _ (State.createAssignment_asg_of_not_found (l := l) hs)
  refine ⟨State.setCallState_callState _ _ _, ?_, fun o bus hs => ?_, fun hs => ?_⟩
  · cases hs : u.search (newAssignment .revert k0 k1 u.params.ringCycles u.createdCount) with
    | none => exact ⟨_, hmissed hs, rfl, rfl, rfl, rfl, rfl, rfl⟩
    | some p => exact ⟨_, hfound p.1 p.2 hs, rfl, rfl, rfl, rfl, rfl, rfl⟩
  · rw [← hkept.search] at hs
    rw [← hkept.placedCount]
    exact hfound o bus hs
  · rw [← hkept.search] at hs
    exact ⟨hmissed hs, State.createAssignment_mem_waiting hs⟩

theorem State.beginReverting_line {s : State} {l : LineId} :
    ((s.beginReverting l).line l).dial = (s.line l).dial ∧ ((s.beginReverting l).line l).call = (s.line l).call := by
  cases h : (s.line l).revertStrokes with
  | none => rw [State.beginReverting_of_none h]; exact ⟨rfl, rfl⟩
  | some p =>
    rw [State.beginReverting_of_strokes h, State.setCallState_line_self, State.createAssignment_line]
    exact ⟨Line.enter_dial _ _, Line.enter_call _ _⟩

@[simp] theorem State.beginReverting_msu (s : State) (l : LineId) : (s.beginReverting l).msu = s.msu := by
  cases h : (s.line l).revertStrokes with
  | none => rw [State.beginReverting_of_none h]
  | some p => rw [State.beginReverting_of_strokes h, State.setCallState_msu, State.createAssignment_msu]

/-- Settles O46. -/
theorem breakOf1050msClearsOrRings : Obligations.BreakOf1050msClearsOrRings := by
  unfold Obligations.BreakOf1050msClearsOrRings
  intro l s htimer
  have hline := s.breakTaken_line l
  have hstate := s.breakTaken_callState l
  obtain ⟨hsides, hdet, hrelay, hleaks, hparties, hclosed, hbreak⟩ := (s.breakTaken l).breakReached_breakKept l
  have hconfig := ((s.breakTaken_scheduleKept l).fixedKept.configKept.trans
    (State.breakReached_configKept _ l)).trans (State.arbitrate_scheduleKept _).fixedKept.configKept
  have hothers := ((s.breakTaken_othersKept l).trans (State.breakReached_othersKept _ l)).trans
    (State.arbitrate_othersKept _ l)
  have hmsu : (s.breakTaken l).msu = s.msu := rfl
  have hreports : (s.breakTaken l).reports = s.reports := rfl
  rw [hline] at hsides hdet hrelay hleaks hparties hclosed hbreak
  refine ⟨_, exec_breakTimerExpiry htimer, ?_⟩
  rw [State.arbitrate_line, State.arbitrate_callState, State.arbitrate_reports, State.arbitrate_jobs,
    (State.arbitrate_scheduleKept _).waiting]
  refine ⟨hbreak, hclosed, fun h => ?originating, fun h => ?clear, fun h d hd r hr => ?revert, fun h => ?other,
    hsides, hdet, hrelay, hleaks, hparties, hothers, hconfig.codes, hconfig.params, hconfig.link, hconfig.slot⟩
  case originating =>
    have hreached := State.breakReached_of_originating (hstate.trans h)
    have hleft := (s.breakTaken l).leaveOriginating_line l
    rw [hline] at hleft
    have hdropped : ((s.breakTaken l).breakReached l).msu = s.msu.dropJobs l := by
      rw [hreached, State.clearLine_msu, State.leaveOriginating_msu, hmsu]
    have hqueue : leavingQueue l (s.breakTaken l) = leavingQueue l s := by
      unfold leavingQueue State.hasHostTest
      rw [hline, hmsu, hreports]
    refine ⟨?_, by rw [hdropped]; rfl, arbitrate_head_of_dropped hdropped, ?_, ?_⟩
    · rw [hreached, State.callState, State.clearLine_line, Line.enter_callState]
    · rw [hreached, State.clearLine_queue, State.leaveOriginating_queue, hqueue]
    · rw [hreached, State.clearLine_line, Line.enter_call, Line.enter_dial, Line.enter_makeTimer, hleft]
      exact ⟨rfl, rfl, rfl, rfl, rfl, rfl⟩
  case clear =>
    have hreached := State.breakReached_of_clear (s := s.breakTaken l) (l := l) (by rwa [hstate])
    rw [hreached, hstate, State.callState, State.clearLine_line, Line.enter_callState, Line.enter_call,
      Line.enter_dial, State.clearLine_queue, State.clearLine_msu, hline]
    exact ⟨rfl, rfl, rfl, rfl, rfl⟩
  case revert =>
    have hstrokes := Line.revertStrokes_of_parties hd hr
    rcases h with h | h
    · have hreached := State.breakReached_of_revertHold (hstate.trans h)
      have hcalled : (((s.breakTaken l).modCall l fun c => { c with revertHold := none }).line l) = { s.line l with
          scan := { (s.line l).scan with breakTimer := none }
          call := { (s.line l).call with revertHold := none } } := by rw [State.modCall_line_self, hline]
      have hbegun := State.beginReverting_begun (l := l)
        ((s.breakTaken_scheduleKept l).trans (State.modCall_scheduleKept _ l fun c => { c with revertHold := none }))
        (by rw [hcalled]; exact hstrokes)
      obtain ⟨hdial, hcall⟩ := State.beginReverting_line
        (s := (s.breakTaken l).modCall l fun c => { c with revertHold := none }) (l := l)
      rw [hcalled] at hdial hcall
      rw [hreached]
      refine ⟨hbegun.state, hdial, ?_, fun _ => ⟨hcall, ?_⟩, fun h' => absurd (h.symm.trans h') nofun⟩
      · rintro k rfl; exact ⟨hbegun.same, hbegun.found, hbegun.missed⟩
      · rw [State.beginReverting_msu, State.modCall_msu, hmsu]
    · have hreached := State.breakReached_of_revertCheck (hstate.trans h)
      have haborted : ((s.breakTaken l).abortJobs l).line l =
          { s.line l with scan := { (s.line l).scan with breakTimer := none } } := by rw [State.abortJobs_line, hline]
      have hbegun := State.beginReverting_begun (l := l)
        ((s.breakTaken_scheduleKept l).trans (State.abortJobs_scheduleKept _ l)) (by rw [haborted]; exact hstrokes)
      obtain ⟨hdial, hcall⟩ := State.beginReverting_line (s := (s.breakTaken l).abortJobs l) (l := l)
      rw [haborted] at hdial hcall
      rw [hreached]
      refine ⟨hbegun.state, hdial, ?_, fun h' => absurd (h.symm.trans h') nofun, fun _ => ⟨hcall, ?_⟩⟩
      · rintro k rfl; exact ⟨hbegun.same, hbegun.found, hbegun.missed⟩
      · rw [State.beginReverting_msu, State.abortJobs_msu, hmsu]; rfl
  case other =>
    have hreached := State.breakReached_of_other (s := s.breakTaken l) (l := l) (by rwa [hstate])
    rw [hreached]
    refine ⟨hline, rfl, ?_⟩
    rw [State.arbitrate_eq]; rfl

end Sys2Proof.Machine
end

section
/-! PROOFS. Call control's commands accepted: CANCEL, CONNECT, RELEASE, REVERT and RING (R135, R136, R138, R141, R149,
R154, R158). -/

namespace Sys2Proof.Machine

/-! ### CANCEL (R141, R154, R158) -/

theorem exec_cancel (line : Byte) (s : State) : exec (.cancel line) s = .next (reply 0xB1 (cancelAnswer line s)) := rfl

theorem cancelAnswer_of_ge {line : Byte} (s : State) (h : 16 ≤ line.toNat) :
    cancelAnswer line s = ⟨s, .badField, []⟩ := by
  simp [cancelAnswer, readLineId_of_ge h, refuse]

section Cancel

variable {l : LineId} {s : State}

theorem cancelEffect_of_ringing (h : s.callState l = .ringing) :
    cancelEffect l s =
      some (((s.removeAssignment l .removal).modCall l fun c => { c with ringingParty := none }).setCallState l .idle) := by
  simp [cancelEffect, h]

theorem cancelEffect_of_revertRinging (h : s.callState l = .revertRinging) :
    cancelEffect l s = some (((s.removeAssignment l .removal).clearRevert l).setCallState l .idle) := by
  simp [cancelEffect, h]

theorem cancelEffect_of_revertHold (h : s.callState l = .revertHold) :
    cancelEffect l s = some (s.returnToCaller l) := by simp [cancelEffect, h]

theorem cancelEffect_of_revertCheck (h : s.callState l = .revertCheck) :
    cancelEffect l s = some (((s.abortJobs l).clearRevert l).setCallState l .parked) := by simp [cancelEffect, h]

theorem cancelEffect_of_other (h : s.callState l ∉ [.ringing, .revertHold, .revertRinging, .revertCheck]) :
    cancelEffect l s = none := by
  cases hs : s.callState l <;> simp [hs] at h <;> simp [cancelEffect, hs]

theorem cancelAnswer_of_refused (h : cancelEffect l s = none) : cancelAnswer (lineByte l) s = ⟨s, .lineState, []⟩ := by
  simp [cancelAnswer, h, refuse]

theorem cancelAnswer_of_effect {t : State} (h : cancelEffect l s = some t) :
    cancelAnswer (lineByte l) s = ⟨t.arbitrate, .ok, [(t.arbitrate.callState l).byte]⟩ := by
  simp [cancelAnswer, h]

/-- A removal followed by changes of the line and of no list leaves the waiting list as the removal left it. -/
theorem State.ringCancelled_othersKept (f : CallRecord → CallRecord) (st : CallState) :
    OthersKept l s (((s.removeAssignment l .removal).modCall l f).setCallState l st).arbitrate :=
  (((s.removeAssignment_othersKept l .removal).trans (State.modCall_othersKept _ l f)).trans
    (State.setCallState_othersKept _ l st)).trans (State.arbitrate_othersKept _ l)

theorem State.ringCancelled_fixedKept (f : CallRecord → CallRecord) (st : CallState) :
    FixedKept s (((s.removeAssignment l .removal).modCall l f).setCallState l st).arbitrate :=
  (((s.removeAssignment_fixedKept l .removal).trans (State.modCall_scheduleKept _ l f).fixedKept).trans
    (State.setCallState_scheduleKept _ l st).fixedKept).trans (State.arbitrate_fixedKept _)

/-- The line of a cancelled ring: what the removal leaves of it, its call record changed, IDLE. -/
theorem State.ringCancelled_line (f : CallRecord → CallRecord) :
    (((s.removeAssignment l .removal).modCall l f).setCallState l .idle).line l =
      Line.enter .idle { s.line l with
        asg := none
        relay := ((s.removeAssignment l .removal).line l).relay
        det := ((s.removeAssignment l .removal).line l).det
        call := f (s.line l).call } := by
  rw [State.setCallState_line_self, State.modCall_line_self, State.removeAssignment_line_eq]

end Cancel

/-- What a cancelled ring leaves, whichever call record it is (R141, R154). -/
structure RingCancelled (s : State) (l : LineId) (f : CallRecord → CallRecord) (u : State) : Prop where
  state : u.callState l = .idle
  asg : (u.line l).asg = none
  waiting : WaitingLaw s → l ∉ u.waiting
  call : (u.line l).call = f (s.line l).call
  jobs : u.msu.jobs = s.msu.jobs
  relay : (s.line l).placedBus.isSome = true → (s.line l).relay.phase = .arm ∨ (s.line l).relay.phase = .ring →
    (u.line l).relay = { (s.line l).relay with phase := .quench, quenchKind := some .early, timer := some 30 }
  dial : (u.line l).dial = (s.line l).dial
  reports : u.reports = s.reports
  sides : (u.line l).sides = (s.line l).sides
  leaks : (u.line l).leaks = (s.line l).leaks
  others : OthersKept l s u
  fixed : FixedKept s u

theorem State.ringCancelled (s : State) (l : LineId) (f : CallRecord → CallRecord) :
    RingCancelled s l f (((s.removeAssignment l .removal).modCall l f).setCallState l .idle).arbitrate := by
  have hline := State.ringCancelled_line (s := s) (l := l) f
  refine ⟨?_, ?_, fun hw => ?_, ?_, ?_, fun hb hd => ?_, ?_, ?_, ?_, ?_, State.ringCancelled_othersKept f _,
    State.ringCancelled_fixedKept f _⟩
  · rw [State.arbitrate_callState, State.setCallState_callState]
  · rw [State.arbitrate_line, hline, Line.enter_asg]
  · rw [(State.arbitrate_scheduleKept _).waiting]
    exact State.removeAssignment_not_mem_waiting hw l .removal
  · rw [State.arbitrate_line, hline, Line.enter_call]
  · rw [State.arbitrate_jobs, State.setCallState_msu, State.modCall_msu, State.removeAssignment_msu]
  · rw [State.arbitrate_line, hline, Line.enter_relay]
    exact State.removeAssignment_relay_of_driven .removal hb hd
  · rw [State.arbitrate_line, hline, Line.enter_dial]
  · rw [State.arbitrate_reports, State.setCallState_reports, State.modCall_reports, State.removeAssignment_reports]
  · rw [State.arbitrate_line, hline, Line.enter_sides]
  · rw [State.arbitrate_line, hline, Line.enter_leaks]

theorem State.abortJobs_reports_of_none {s : State} {l : LineId} (h : s.hasHostTest l = false) :
    (s.abortJobs l).reports = s.reports := by
  rw [State.abortJobs_eq]; simp [h]

/-- Settles O55. -/
theorem cancelEndsTheRing : Obligations.CancelEndsTheRing := by
  unfold Obligations.CancelEndsTheRing
  refine fun l line s => ⟨fun h => ?badLine, fun h => ?refused, fun h => ?accepted⟩
  case badLine => rw [exec_cancel, cancelAnswer_of_ge s h]
  case refused => rw [exec_cancel, cancelAnswer_of_refused (cancelEffect_of_other h)]
  case accepted =>
    rw [exec_cancel]
    simp only [List.mem_cons, List.not_mem_nil, or_false] at h
    rcases h with h | h | h | h
    · have hc := s.ringCancelled l fun c => { c with ringingParty := none }
      refine ⟨_, by rw [cancelAnswer_of_effect (cancelEffect_of_ringing h)], ?_⟩
      rw [h]
      exact ⟨fun _ => ⟨hc.state, hc.asg, hc.waiting, hc.call, hc.jobs⟩, nofun, fun _ => hc.relay, nofun, nofun,
        fun _ => hc.dial, fun _ => hc.reports, hc.sides, hc.leaks, hc.others, hc.fixed.eq⟩
    · have hline := s.returnToCaller_line l
      have hreports : (s.returnToCaller l).arbitrate.reports = s.reports := by
        rw [State.arbitrate_reports, State.returnToCaller_reports]
      refine ⟨_, by rw [cancelAnswer_of_effect (cancelEffect_of_revertHold h)], ?_⟩
      rw [h, State.arbitrate_line, State.arbitrate_callState, State.callState, hline]
      refine ⟨nofun, nofun, fun h => absurd h (by decide), fun _ => ⟨rfl, rfl, rfl⟩, nofun,
        fun h => absurd rfl h, fun _ => hreports, rfl, rfl,
        (s.returnToCaller_othersKept l).trans (State.arbitrate_othersKept _ l),
        ((s.returnToCaller_scheduleKept l).trans (State.arbitrate_scheduleKept _)).fixedKept.eq⟩
    · have hc := s.ringCancelled l fun c => { c with called := none, caller := none, recallOn := false }
      refine ⟨_, by rw [cancelAnswer_of_effect (cancelEffect_of_revertRinging h)], ?_⟩
      rw [h]
      exact ⟨nofun, fun _ => ⟨hc.state, hc.asg, hc.waiting, hc.call, hc.jobs⟩, fun _ => hc.relay, nofun, nofun,
        fun _ => hc.dial, fun _ => hc.reports, hc.sides, hc.leaks, hc.others, hc.fixed.eq⟩
    · have hline : (((s.abortJobs l).clearRevert l).setCallState l .parked).line l = { s.line l with
          record := { (s.line l).record with callState := .parked }
          call := { (s.line l).call with called := none, caller := none, recallOn := false } } := by
        rw [State.setCallState_line_self, State.clearRevert_line, State.abortJobs_line,
          Line.enter_plain .parked _ nofun nofun nofun]
      have hmsu : (((s.abortJobs l).clearRevert l).setCallState l .parked).msu = s.msu.dropJobs l := by
        rw [State.setCallState_msu, State.clearRevert, State.modCall_msu, State.abortJobs_msu]
      have hreports (ht : s.hasHostTest l = false) :
          (((s.abortJobs l).clearRevert l).setCallState l .parked).arbitrate.reports = s.reports := by
        rw [State.arbitrate_reports, State.setCallState_reports, State.clearRevert, State.modCall_reports,
          State.abortJobs_reports_of_none ht]
      refine ⟨_, by rw [cancelAnswer_of_effect (cancelEffect_of_revertCheck h)], ?_⟩
      rw [h, State.arbitrate_line, State.arbitrate_callState, State.arbitrate_jobs, State.callState, hline, hmsu]
      exact ⟨nofun, nofun, fun h => absurd h (by decide), nofun, fun _ => ⟨rfl, rfl, rfl⟩, fun _ => rfl,
        fun h => hreports (h.resolve_left (not_not.2 rfl)), rfl, rfl,
        (((s.abortJobs_othersKept l).trans (State.clearRevert_othersKept _ l)).trans
          (State.setCallState_othersKept _ l _)).trans (State.arbitrate_othersKept _ l),
        (((s.abortJobs_scheduleKept l).trans (State.clearRevert_scheduleKept _ l)).trans
          ((State.setCallState_scheduleKept _ l _).trans (State.arbitrate_scheduleKept _))).fixedKept.eq⟩

/-! ### CONNECT and RELEASE (R135, R136) -/

theorem exec_connect (line : Byte) (s : State) :
    exec (.connect line) s = .next (reply 0xB2 (connectAnswer line s)) := rfl

theorem exec_release (line : Byte) (s : State) :
    exec (.release line) s = .next (reply 0xB3 (releaseAnswer line s)) := rfl

section Connect

variable {l : LineId} {s : State}

theorem connectAnswer_of_ge {line : Byte} (h : 16 ≤ line.toNat) : connectAnswer line s = ⟨s, .badField, []⟩ := by
  simp [connectAnswer, readLineId_of_ge h, refuse]

theorem connectAnswer_of_state (h : s.callState l ≠ .originating) :
    connectAnswer (lineByte l) s = ⟨s, .lineState, []⟩ := by simp [connectAnswer, h, refuse]

theorem connectAnswer_of_originating (h : s.callState l = .originating) :
    connectAnswer (lineByte l) s = ⟨connectAccepted l s, .ok, [((connectAccepted l s).callState l).byte]⟩ := by
  simp [connectAnswer, h]

theorem releaseAnswer_of_ge {line : Byte} (h : 16 ≤ line.toNat) : releaseAnswer line s = ⟨s, .badField, []⟩ := by
  simp [releaseAnswer, readLineId_of_ge h, refuse]

theorem releaseAnswer_of_state (h : s.callState l ≠ .originating) (h' : s.callState l ≠ .connected) :
    releaseAnswer (lineByte l) s = ⟨s, .lineState, []⟩ := by simp [releaseAnswer, h, h', refuse]

theorem releaseAnswer_of_accepted (h : s.callState l = .originating ∨ s.callState l = .connected) :
    releaseAnswer (lineByte l) s = ⟨releaseAccepted l s, .ok, [((releaseAccepted l s).callState l).byte]⟩ := by
  simp [releaseAnswer, h]

theorem connectAccepted_line :
    (connectAccepted l s).line l = { (s.leaveOriginating l).line l with
      record := { (s.line l).record with callState := .connected } } := by
  rw [connectAccepted, State.arbitrate_line, State.setCallState_line_self, Line.enter_plain .connected _ nofun nofun nofun,
    State.leaveOriginating_line]

theorem connectAccepted_queue : (connectAccepted l s).reports.queue = leavingQueue l s := by
  rw [connectAccepted, State.arbitrate_reports, State.setCallState_reports, State.leaveOriginating_queue]

theorem connectAccepted_jobsDropped : JobsDropped l s (connectAccepted l s) := by
  refine jobsDropped_of_dropped ?_ ?_
  · rw [State.setCallState_msu, State.leaveOriginating_msu]
  · rw [State.setCallState_callState]; nofun

theorem connectAccepted_othersKept : OthersKept l s (connectAccepted l s) :=
  ((s.leaveOriginating_othersKept l).trans (State.setCallState_othersKept _ l _)).trans (State.arbitrate_othersKept _ l)

theorem connectAccepted_scheduleKept : ScheduleKept s (connectAccepted l s) :=
  ((s.leaveOriginating_scheduleKept l).trans (State.setCallState_scheduleKept _ l _)).trans
    (State.arbitrate_scheduleKept _)

/-- A line put IDLE or PARKED by its loop (R11, R136). -/
def State.putDown (s : State) (l : LineId) : State := s.setCallState l (idleOrParked (s.line l))

theorem State.putDown_callState : (s.putDown l).callState l = if (s.line l).scan.closed = true then .parked else .idle :=
  State.setCallState_callState _ _ _

theorem releaseAccepted_of_originating (h : s.callState l = .originating) :
    releaseAccepted l s = ((s.leaveOriginating l).putDown l).arbitrate := by
  simp [releaseAccepted, h, State.putDown]

theorem releaseAccepted_of_connected (h : s.callState l = .connected) :
    releaseAccepted l s = (s.putDown l).arbitrate := by
  simp [releaseAccepted, h, State.putDown]

end Connect

/-- Settles O56. -/
theorem connectAndReleaseLeaveOriginating : Obligations.ConnectAndReleaseLeaveOriginating := by
  unfold Obligations.ConnectAndReleaseLeaveOriginating
  intro l line s
  simp only [exec_connect, exec_release]
  refine ⟨fun h => ?badLine, fun h => ?notOriginating, fun h h' => ?notReleased, fun h => ?connects,
    fun h => ?releases⟩
  case badLine => rw [connectAnswer_of_ge h, releaseAnswer_of_ge h]; exact ⟨rfl, rfl⟩
  case notOriginating => rw [connectAnswer_of_state h]
  case notReleased => rw [releaseAnswer_of_state h h']
  case connects =>
    have hline := connectAccepted_line (l := l) (s := s)
    rw [State.leaveOriginating_line] at hline
    refine ⟨connectAccepted l s, ?_, ?_⟩
    · rw [connectAnswer_of_originating h, State.callState, hline]; rfl
    · rw [State.callState, hline]
      exact ⟨rfl, connectAccepted_queue, connectAccepted_jobsDropped, rfl, rfl, rfl, rfl, rfl, rfl, rfl, rfl,
        connectAccepted_othersKept, connectAccepted_scheduleKept.eq⟩
  case releases =>
    refine ⟨releaseAccepted l s, by rw [releaseAnswer_of_accepted h], ?_⟩
    rcases h with h | h
    · have hleft := s.leaveOriginating_line l
      have hmsu : ((s.leaveOriginating l).putDown l).msu = s.msu.dropJobs l := by
        rw [State.putDown, State.setCallState_msu, State.leaveOriginating_msu]
      have hline : ((s.leaveOriginating l).putDown l).line l = _ := State.setCallState_line_self _ _ _
      have hothers := ((s.leaveOriginating_othersKept l).trans (State.setCallState_othersKept _ l
        (idleOrParked ((s.leaveOriginating l).line l)))).trans (State.arbitrate_othersKept _ l)
      have hkept := ((s.leaveOriginating_scheduleKept l).trans (State.setCallState_scheduleKept _ l
        (idleOrParked ((s.leaveOriginating l).line l)))).trans (State.arbitrate_scheduleKept _)
      rw [releaseAccepted_of_originating h, h, State.arbitrate_callState, State.putDown_callState, State.arbitrate_line,
        State.arbitrate_jobs]
      refine ⟨?_, fun _ => ⟨?_, ?_, arbitrate_head_of_dropped hmsu, ?_⟩, nofun, ?_⟩
      · rw [hleft]
      · rw [State.arbitrate_reports, State.putDown, State.setCallState_reports, State.leaveOriginating_queue]
      · rw [hmsu]; rfl
      · rw [hline, Line.enter_call, Line.enter_dial, Line.enter_makeTimer, hleft]
        exact ⟨rfl, rfl, rfl, rfl, rfl⟩
      · rw [hline, Line.enter_asg, Line.enter_sides, Line.enter_relay, Line.enter_closed, hleft]
        exact ⟨rfl, rfl, rfl, rfl, hothers, hkept.eq⟩
    · have hline : (s.putDown l).line l = _ := State.setCallState_line_self _ _ _
      have hothers := (s.setCallState_othersKept l (idleOrParked (s.line l))).trans (State.arbitrate_othersKept _ l)
      have hkept := (s.setCallState_scheduleKept l (idleOrParked (s.line l))).trans (State.arbitrate_scheduleKept _)
      rw [releaseAccepted_of_connected h, h, State.arbitrate_callState, State.putDown_callState, State.arbitrate_line,
        State.arbitrate_jobs]
      refine ⟨rfl, nofun, fun _ => ⟨?_, ?_, ?_, rfl, ?_⟩, ?_⟩
      · rw [State.arbitrate_reports]; rfl
      · rw [hline, Line.enter_call]
      · rw [hline, Line.enter_dial]
      · rw [State.arbitrate_backlog]; rfl
      · rw [hline, Line.enter_asg, Line.enter_sides, Line.enter_relay, Line.enter_closed]
        exact ⟨rfl, rfl, rfl, rfl, hothers, hkept.eq⟩

/-! ### REVERT (R149) -/

/-- The line as REVERT sets its parties, the recall setting and the early pickups. -/
def State.revertSet (s : State) (l : LineId) (called caller : PartyNo) (recallOn : Bool) : State :=
  s.modLine l fun x =>
    { x with call := { x.call with called := some called, caller := some caller, recallOn := recallOn }
             record := { x.record with earlyPickups := 0 } }

/-- The line held for its caller, before the arbiter is asked (R149). -/
def State.revertHeld (s : State) (l : LineId) (called caller : PartyNo) (recallOn : Bool) : State :=
  (((s.leaveOriginating l).revertSet l called caller recallOn).startRevertHold l).setCallState l .revertHold

section RevertAccepted

variable (l : LineId) (d c : PartyNo) (recallOn : Bool) (s : State)

theorem revertAccepted_eq : revertAccepted l d c recallOn s = (s.revertHeld l d c recallOn).arbitrate := rfl

theorem State.revertHeld_line :
    (s.revertHeld l d c recallOn).line l = { s.line l with
      record := { (s.line l).record with callState := .revertHold, earlyPickups := 0 }
      dial := { (s.line l).dial with
        collection := .off, pulseCount := 0, interdigit := none
        originationReported := (s.line l).dial.originationReported || (s.line l).call.originationPending
        markerOwed := (s.line l).dial.markerOwed && !(s.line l).call.originationPending }
      scan := { (s.line l).scan with makeTimer := none }
      call := { (s.line l).call with
        originationPending := false, permanentSignal := none, called := some d, caller := some c
        recallOn := recallOn, revertHold := some (s.params.revertHoldS * 1000) } } := by
  rw [State.revertHeld, State.setCallState_line_self, Line.enter_plain .revertHold _ nofun nofun nofun,
    State.startRevertHold_line, State.revertSet, State.modLine_line_self, State.leaveOriginating_line,
    State.modLine_params, (s.leaveOriginating_scheduleKept l).params]

theorem State.revertHeld_othersKept : OthersKept l s (s.revertHeld l d c recallOn) := by
  unfold State.revertHeld State.revertSet
  exact (((s.leaveOriginating_othersKept l).trans (State.modLine_othersKept _ l _)).trans
    (State.startRevertHold_othersKept _ l)).trans (State.setCallState_othersKept _ l _)

theorem State.revertHeld_scheduleKept : ScheduleKept s (s.revertHeld l d c recallOn) := by
  unfold State.revertHeld State.revertSet
  exact (((s.leaveOriginating_scheduleKept l).trans (State.modLine_scheduleKept _ l _)).trans
    (State.startRevertHold_scheduleKept _ l)).trans (State.setCallState_scheduleKept _ l _)

theorem State.revertHeld_msu : (s.revertHeld l d c recallOn).msu = s.msu.dropJobs l := by
  rw [State.revertHeld, State.setCallState_msu, State.startRevertHold, State.modCall_msu, State.revertSet,
    State.modLine_msu, State.leaveOriginating_msu]

theorem State.revertHeld_queue : (s.revertHeld l d c recallOn).reports.queue = leavingQueue l s := by
  rw [State.revertHeld, State.setCallState_reports, State.startRevertHold, State.modCall_reports, State.revertSet,
    State.modLine_reports, State.leaveOriginating_queue]

end RevertAccepted

/-- Settles O57. -/
theorem revertHoldsTheLine : Obligations.RevertHoldsTheLine := by
  unfold Obligations.RevertHoldsTheLine
  intro l d c recallOn s hstate hne hgood p hp q hq ⟨bus, hbudget⟩
  have hcarry : s.couldCarry (revertLoad (s.line l) p q recallOn) = true :=
    (s.couldCarry_iff _).2 ⟨bus, (revertLoad_le _ _ _ _ _).2 hbudget⟩
  have hcheck : checkRevert s l d c recallOn = none :=
    (checkRevert_of_parties hne hgood hp hq).trans (if_pos hcarry)
  have hline := s.revertHeld_line l d c recallOn
  have hheld : (s.revertHeld l d c recallOn).callState l = .revertHold := congrArg (·.record.callState) hline
  refine ⟨(s.revertHeld l d c recallOn).arbitrate, ?_, ?_⟩
  · rw [exec_revert, revertAnswer_of_checked hstate, hcheck]
    dsimp only
    rw [revertAccepted_eq, State.arbitrate_callState, hheld]
    rfl
  · rw [State.arbitrate_line, hline]
    refine ⟨rfl, rfl, ?_, jobsDropped_of_dropped (s.revertHeld_msu l d c recallOn) (by simp [hheld]), rfl, rfl, rfl, rfl,
      rfl, rfl, rfl, (s.revertHeld_othersKept l d c recallOn).trans (State.arbitrate_othersKept _ l),
      ((s.revertHeld_scheduleKept l d c recallOn).trans (State.arbitrate_scheduleKept _)).eq⟩
    rw [State.arbitrate_reports, State.revertHeld_queue]

/-! ### RING (R39, R138) -/

/-- The state RING creates the assignment in: the line's jobs aborted, the ringing party named. -/
def State.ringOpened (s : State) (l : LineId) (p : Party) : State :=
  (s.abortJobs l).modCall l fun c => { c with ringingParty := some p.number }

section RingAccepted

variable (l : LineId) (p : Party) (n : Nat) (s : State)

theorem State.ringOpened_line : (s.ringOpened l p).line l =
    { s.line l with call := { (s.line l).call with ringingParty := some p.number } } := by
  rw [State.ringOpened, State.modCall_line_self, State.abortJobs_line]

theorem State.ringOpened_scheduleKept : ScheduleKept s (s.ringOpened l p) :=
  (s.abortJobs_scheduleKept l).trans (State.modCall_scheduleKept _ l _)

theorem State.ringOpened_othersKept : OthersKept l s (s.ringOpened l p) :=
  (s.abortJobs_othersKept l).trans (State.modCall_othersKept _ l _)

/-- The line ringing, before the arbiter is asked (R138). -/
def State.rung (s : State) (l : LineId) (p : Party) (n : Nat) : State :=
  ((s.ringOpened l p).createAssignment l .plain ((s.line l).strokeOf p) none n).setCallState l .ringing

theorem ringAccepted_eq : ringAccepted l p n s = (s.rung l p n).arbitrate := by
  have hstroke : ((s.ringOpened l p).line l).strokeOf p = (s.line l).strokeOf p := by rw [State.ringOpened_line]; rfl
  rw [State.rung, ← hstroke]; rfl

theorem State.rung_line :
    (s.rung l p n).line l = Line.enter .ringing { s.line l with
      call := { (s.line l).call with ringingParty := some p.number }
      asg := (((s.ringOpened l p).createAssignment l .plain ((s.line l).strokeOf p) none n).line l).asg } := by
  rw [State.rung, State.setCallState_line_self, State.createAssignment_line, State.ringOpened_line]

theorem State.rung_othersKept : OthersKept l s (s.rung l p n) :=
  ((s.ringOpened_othersKept l p).trans (State.createAssignment_othersKept _ l _ _ _ _)).trans
    (State.setCallState_othersKept _ l _)

theorem State.rung_msu : (s.rung l p n).msu = s.msu.dropJobs l := by
  rw [State.rung, State.setCallState_msu, State.createAssignment_msu, State.ringOpened, State.modCall_msu,
    State.abortJobs_msu]

theorem State.rung_queue : (s.rung l p n).reports.queue =
    if s.hasHostTest l then queueWith s.reports.queue (.testResult l none) else s.reports.queue := by
  rw [State.rung, State.setCallState_reports, State.createAssignment_reports, State.ringOpened, State.modCall_reports,
    State.abortJobs_queue]

/-- A ring writes the lines, the schedule, the jobs and the queue, and nothing else. -/
theorem State.rung_eq :
    s.rung l p n = { s with
      lines := (s.rung l p n).lines, busA := (s.rung l p n).busA, busB := (s.rung l p n).busB
      waiting := (s.rung l p n).waiting, createdCount := s.createdCount + 1
      placedCount := (s.rung l p n).placedCount, msu := (s.rung l p n).msu, reports := (s.rung l p n).reports } := by
  have hopened := s.ringOpened_scheduleKept l p
  have hcreated := State.createAssignment_eq (s.ringOpened l p) l .plain ((s.line l).strokeOf p) none n
  have hcodes : (s.rung l p n).codes = s.codes := by
    rw [State.rung, State.setCallState_codes, hcreated]; exact hopened.codes
  have hslot : (s.rung l p n).slot = s.slot := by
    rw [State.rung, State.setCallState_slot, hcreated]; exact hopened.slot
  have hcount : (s.rung l p n).createdCount = s.createdCount + 1 := by
    rw [State.rung, State.setCallState_createdCount, hcreated]; exact congrArg (· + 1) hopened.createdCount
  have hparams : (s.rung l p n).params = s.params := by
    rw [State.rung, State.setCallState_params, hcreated]; exact hopened.params
  have hlink : (s.rung l p n).link = s.link := by
    rw [State.rung, State.setCallState_link, hcreated]; exact hopened.link
  have hpending : (s.rung l p n).pending = s.pending := by
    rw [State.rung, State.setCallState_pending, hcreated]; exact hopened.pending
  rw [← hcodes, ← hslot, ← hcount, ← hparams, ← hlink, ← hpending]

end RingAccepted

/-- The load a one-stroke assignment brings to a slot: its stroke's, where its pattern rings in the first half (R26). -/
theorem loadAt_newAssignment (codes : CodeId → Pattern) (kind : AssignmentKind) (k : Stroke) (n order : Nat)
    (o g : Slot) :
    loadAt codes (newAssignment kind k none n order) o g =
      if ringsAt (codes k.code) (placeOf o g) = true ∧ placeOf o g < 12 then k.load else 0 := by
  by_cases h : placeOf o g < 12
  · by_cases hr : ringsAt (codes k.code) (placeOf o g) = true <;>
      simp [loadAt, strokeAt, strokeOver, newAssignment, h, hr]
  · simp [loadAt, strokeAt, strokeOver, newAssignment, h]

theorem placementFields_of_placed {s : State} {l : LineId} {a : Assignment} {bus : Bus} {o : Slot} {n : Nat}
    (h : (s.line l).asg = some a) (hp : a.placement = .placed bus o n) :
    placementFields s l = [0, busByte bus, byteOf o.val] := by simp [placementFields, h, hp]

theorem placementFields_of_waiting {s : State} {l : LineId} {a : Assignment} (h : (s.line l).asg = some a)
    (hp : a.placement = .waiting) : placementFields s l = [1, 0xFF, byteOf (s.waiting.idxOf l + 1)] := by
  simp [placementFields, h, hp]

section RungOutcome

variable {l : LineId} {p : Party} {n : Nat} {s : State}

theorem State.rung_of_found {o : Slot} {bus : Bus}
    (h : s.search (newAssignment .plain ((s.line l).strokeOf p) none n s.createdCount) = some (o, bus)) :
    ((s.rung l p n).line l).asg =
        some { newAssignment .plain ((s.line l).strokeOf p) none n s.createdCount with
          placement := .placed bus o s.placedCount } ∧
      (∀ g, ((s.rung l p n).bus bus).loads.get g = (s.bus bus).loads.get g +
        loadAt s.pattern (newAssignment .plain ((s.line l).strokeOf p) none n s.createdCount) o g) ∧
      (s.rung l p n).bus (otherBus bus) = s.bus (otherBus bus) ∧
      (s.rung l p n).placedCount = s.placedCount + 1 := by
  have hopened := s.ringOpened_scheduleKept l p
  have hfound := h
  rw [← hopened.search, ← hopened.createdCount] at hfound
  obtain ⟨-, -, hloads, hcount, -⟩ := State.place_spec
    { s.ringOpened l p with createdCount := (s.ringOpened l p).createdCount + 1 } l
    (newAssignment .plain ((s.line l).strokeOf p) none n (s.ringOpened l p).createdCount) bus o
  have hne : otherBus bus ≠ bus := by cases bus <;> nofun
  refine ⟨?_, fun g => ?_, ?_, ?_⟩
  · rw [State.rung_line, Line.enter_asg]
    dsimp only
    rw [State.createAssignment_asg_of_found hfound, hopened.createdCount, hopened.placedCount]
  · rw [State.rung, State.setCallState_bus, State.createAssignment_of_found hfound, hloads, hopened.createdCount]
    have hbus : State.bus { s.ringOpened l p with createdCount := s.createdCount + 1 } bus = (s.ringOpened l p).bus bus := by
      cases bus <;> rfl
    have hpat : State.pattern { s.ringOpened l p with createdCount := s.createdCount + 1 } = (s.ringOpened l p).pattern :=
      rfl
    rw [hbus, hpat, hopened.bus, hopened.pattern]
  · rw [State.rung, State.setCallState_bus, State.createAssignment_of_found hfound, State.place_bus_ne _ _ _ _ _ _ hne]
    have hbus : State.bus { s.ringOpened l p with createdCount := (s.ringOpened l p).createdCount + 1 } (otherBus bus) =
        (s.ringOpened l p).bus (otherBus bus) := by cases bus <;> rfl
    rw [hbus, hopened.bus]
  · rw [State.rung, State.setCallState_placedCount, State.createAssignment_of_found hfound, hcount]
    exact congrArg (· + 1) hopened.placedCount

theorem State.rung_of_not_found
    (h : s.search (newAssignment .plain ((s.line l).strokeOf p) none n s.createdCount) = none) :
    ((s.rung l p n).line l).asg = some (newAssignment .plain ((s.line l).strokeOf p) none n s.createdCount) ∧
      l ∈ (s.rung l p n).waiting ∧ (s.rung l p n).busA = s.busA ∧ (s.rung l p n).busB = s.busB := by
  have hopened := s.ringOpened_scheduleKept l p
  have hmissed := h
  rw [← hopened.search, ← hopened.createdCount] at hmissed
  refine ⟨?_, ?_, ?_, ?_⟩
  · rw [State.rung_line, Line.enter_asg]
    dsimp only
    rw [State.createAssignment_asg_of_not_found hmissed, hopened.createdCount]
  · rw [State.rung, State.setCallState_waiting]; exact State.createAssignment_mem_waiting hmissed
  · rw [State.rung, State.setCallState_busA, State.createAssignment_of_not_found hmissed]; exact hopened.busA
  · rw [State.rung, State.setCallState_busB, State.createAssignment_of_not_found hmissed]; exact hopened.busB

end RungOutcome

theorem placementFields_arbitrate (s : State) (l : LineId) : placementFields s.arbitrate l = placementFields s l := by
  unfold placementFields
  rw [State.arbitrate_line, (State.arbitrate_scheduleKept _).waiting]

theorem Line.party_number {x : Line} {n : PartyNo} {p : Party} (h : x.party n = some p) : p.number = n := by
  simpa using List.find?_some h

/-- Settles O25. -/
theorem ringCreatesAnAssignment : Obligations.RingCreatesAnAssignment := by
  unfold Obligations.RingCreatesAnAssignment
  intro l n cycles s hidle hgood p hp hcarry
  have hcarry' : s.couldCarry ((s.line l).record.loads.get p.side) = true := by simpa [State.couldCarry] using hcarry
  have hanswer := ringAnswer_of_party_found (cycles := cycles) hidle hgood hp
  rw [if_pos hcarry', ringAccepted_eq] at hanswer
  generalize hn : ringCyclesOf s.params cycles = m at hanswer
  have hn' : (if cycles = 0 then s.params.ringCycles else min 60 cycles.toNat) = m := hn
  have hline := s.rung_line l p m
  have hringing : (s.rung l p m).callState l = .ringing := State.setCallState_callState _ _ _
  have hkept := State.arbitrate_scheduleKept (s.rung l p m)
  rw [hn']
  refine ⟨(s.rung l p m).arbitrate, by rw [exec_ring, hanswer], ?_⟩
  rw [State.arbitrate_line, State.arbitrate_callState, hkept.createdCount, placementFields_arbitrate, hkept.placedCount]
  simp only [hkept.bus]
  refine ⟨hringing, ?_, fun o bus hs => ?_, fun hs => ?_, ?_, ?_, ?_, ?_, ?_, ?_,
    jobsDropped_of_dropped (s.rung_msu l p m) (by simp [hringing]),
    (s.rung_othersKept l p m).trans (State.arbitrate_othersKept _ l), ?_, ?_⟩
  · rw [hline, Line.enter_call, ← Line.party_number hp]
  · obtain ⟨hasg, hloads, hother, hcount⟩ := State.rung_of_found hs
    refine ⟨hasg, placementFields_of_placed hasg rfl, fun g => ?_, hother, hcount⟩
    rw [hloads, loadAt_newAssignment]; rfl
  · obtain ⟨hasg, hmem, hA, hB⟩ := State.rung_of_not_found hs
    rw [hkept.waiting]
    exact ⟨hasg, placementFields_of_waiting hasg rfl, hmem, hkept.busA.trans hA, hkept.busB.trans hB⟩
  · rw [hline, Line.enter_relay]
  · rw [hline, Line.enter_sides]
  · rw [hline, Line.enter_det]
  · rw [hline, Line.enter_dial]
  · rw [hline, Line.enter_closed]
  · rw [State.rung_eq]
  · rw [State.arbitrate_reports, State.rung_queue]
  · rw [State.arbitrate_eq, State.rung_eq]

end Sys2Proof.Machine
end

section
/-! PROOFS. The change of a line's condition, reported or latched, and TRIP_MARGIN behind it (R6, R7, R73). -/

namespace Sys2Proof.Machine

/-! ### The report of a changed condition (R7) -/

/-- Whether a line's condition or reasons are not what they were. -/
abbrev ConditionChanged (l : LineId) (b s : State) : Prop :=
  (s.line l).record.condition ≠ (b.line l).record.condition ∨ (s.line l).record.reasons ≠ (b.line l).record.reasons

/-- Whether a change of a line's condition is reported and not latched. -/
abbrev ConditionReported (l : LineId) (s : State) : Prop :=
  (s.line l).record.callState ≠ .unequipped ∧ s.reports.enables.lineCondition = true

section ReportIfChanged

variable {l : LineId} {b s : State}

theorem reportIfChanged_of_same (h : ¬ConditionChanged l b s) : reportIfChanged l b s = s := if_neg h

theorem reportIfChanged_of_reported (h : ConditionChanged l b s) (hr : ConditionReported l s) :
    reportIfChanged l b s =
      s.queueReport (.lineCondition l (s.line l).record.condition (s.line l).record.reasons (s.line l).leaks) :=
  (if_pos h).trans (if_pos hr)

theorem reportIfChanged_of_latched (h : ConditionChanged l b s) (hr : ¬ConditionReported l s) :
    reportIfChanged l b s = s.modRecord l fun r => { r with latched := { r.latched with lineCondition := true } } :=
  (if_pos h).trans (if_neg hr)

/-- A report or a latch changes nothing of its line but the latch. -/
theorem reportIfChanged_line : (reportIfChanged l b s).line l = { s.line l with
    record := { (s.line l).record with latched := { (s.line l).record.latched with
      lineCondition := (s.line l).record.latched.lineCondition ||
        decide (ConditionChanged l b s ∧ ¬ConditionReported l s) } } } := by
  by_cases h : ConditionChanged l b s
  · by_cases hr : ConditionReported l s
    · have hno : ¬(ConditionChanged l b s ∧ ¬ConditionReported l s) := fun h => h.2 hr
      rw [reportIfChanged_of_reported h hr, State.queueReport_line, decide_eq_false hno, Bool.or_false]
    · rw [reportIfChanged_of_latched h hr, State.modRecord_line_self, decide_eq_true ⟨h, hr⟩, Bool.or_true]
  · have hno : ¬(ConditionChanged l b s ∧ ¬ConditionReported l s) := fun h' => h h'.1
    rw [reportIfChanged_of_same h, decide_eq_false hno, Bool.or_false]

@[simp] theorem reportIfChanged_asg : ((reportIfChanged l b s).line l).asg = (s.line l).asg := by
  rw [reportIfChanged_line]

@[simp] theorem reportIfChanged_relay : ((reportIfChanged l b s).line l).relay = (s.line l).relay := by
  rw [reportIfChanged_line]

@[simp] theorem reportIfChanged_sides : ((reportIfChanged l b s).line l).sides = (s.line l).sides := by
  rw [reportIfChanged_line]

@[simp] theorem reportIfChanged_det : ((reportIfChanged l b s).line l).det = (s.line l).det := by
  rw [reportIfChanged_line]

@[simp] theorem reportIfChanged_scan : ((reportIfChanged l b s).line l).scan = (s.line l).scan := by
  rw [reportIfChanged_line]

@[simp] theorem reportIfChanged_dial : ((reportIfChanged l b s).line l).dial = (s.line l).dial := by
  rw [reportIfChanged_line]

@[simp] theorem reportIfChanged_call : ((reportIfChanged l b s).line l).call = (s.line l).call := by
  rw [reportIfChanged_line]

@[simp] theorem reportIfChanged_leaks : ((reportIfChanged l b s).line l).leaks = (s.line l).leaks := by
  rw [reportIfChanged_line]

theorem reportIfChanged_queue : (reportIfChanged l b s).reports.queue =
    if ConditionChanged l b s ∧ ConditionReported l s then
      queueWith s.reports.queue
        (.lineCondition l (s.line l).record.condition (s.line l).record.reasons (s.line l).leaks)
    else s.reports.queue := by
  by_cases h : ConditionChanged l b s
  · by_cases hr : ConditionReported l s
    · rw [reportIfChanged_of_reported h hr, if_pos ⟨h, hr⟩, State.queueReport_queue]
    · rw [reportIfChanged_of_latched h hr, if_neg fun h => hr h.2, State.modRecord_reports]
  · rw [reportIfChanged_of_same h, if_neg fun h' => h h'.1]

@[simp] theorem reportIfChanged_msu : (reportIfChanged l b s).msu = s.msu := by
  rcases reportIfChanged_cases l b s with e | e | e <;> rw [e]
  · rw [State.queueReport_msu]
  · rw [State.modRecord_msu]

@[simp] theorem reportIfChanged_callState (m : LineId) : (reportIfChanged l b s).callState m = s.callState m := by
  by_cases hm : m = l
  · subst hm; rw [State.callState, reportIfChanged_line]; rfl
  · rw [State.callState, reportIfChanged_othersKept l b s m hm]; rfl

end ReportIfChanged

/-! ### TRIP_MARGIN behind the sides (R6, R73) -/

/-- One report falls due as `pushReports` has it. -/
theorem State.queueReport_reports (s : State) (r : Report) : (s.queueReport r).reports = pushReports s.reports [r] := by
  by_cases h : s.reports.queue.length < 32
  · rw [State.queueReport, if_pos (by exact h), pushReports, List.foldl_cons, if_pos h]
    rfl
  · rw [State.queueReport, if_neg (by exact h), pushReports, List.foldl_cons, if_neg h]
    rfl

/-- The record of a line whose reasons and condition have followed its pinned sides, before the report is due. -/
structure RecordFollows (x y : Line) : Prop where
  reasons : y.record.reasons = { x.record.reasons with tripMargin := y.pinned }
  condition : y.record.condition =
    if y.pinned = x.record.reasons.tripMargin then x.record.condition
    else if y.pinned = true then (if x.record.condition = .normal then .degraded else x.record.condition)
    else if x.record.condition = .degraded ∧ x.record.reasons.leak = false then .normal
    else x.record.condition
  kept : y.record = { x.record with reasons := y.record.reasons, condition := y.record.condition }
  leaks : y.leaks = x.leaks

theorem agreeTripMargin_follows {x y : Line} (hrecord : y.record = x.record) (hleaks : y.leaks = x.leaks) :
    RecordFollows x (agreeTripMargin y) := by
  have hpinned : (agreeTripMargin y).pinned = y.pinned := by unfold Line.pinned; rw [agreeTripMargin_eq]
  refine ⟨?_, ?_, ?_, ?_⟩
  · rw [agreeTripMargin_reasons, hpinned, hrecord]
  · rw [agreeTripMargin_condition, hpinned, hrecord]
  · rw [agreeTripMargin_eq, ← hrecord]
  · rw [agreeTripMargin_eq, hleaks]

theorem updateSide_follows (p : Params) (sd : Side) (f : SideRecord → SideRecord) (x : Line) :
    RecordFollows x (updateSide p sd f x) := agreeTripMargin_follows rfl rfl

theorem updateSides_follows (p : Params) (f g : SideRecord → SideRecord) (x : Line) :
    RecordFollows x (updateSides p f g x) := agreeTripMargin_follows rfl rfl

theorem LineRecord.latched_kept {r r' : LineRecord} {v : Latches}
    (h : r' = { r with reasons := r'.reasons, condition := r'.condition }) :
    { r' with latched := v } = { r with reasons := r'.reasons, condition := r'.condition, latched := v } :=
  congrArg (fun q : LineRecord => { q with latched := v }) h

/-- The report due is the one `conditionReport` names, and TRIP_MARGIN has followed, once a line's record has. -/
theorem reportIfChanged_follows {l : LineId} {s y : State} (h : RecordFollows (s.line l) (y.line l))
    (henables : y.reports.enables = s.reports.enables) :
    TripMarginFollows l s (reportIfChanged l s y) ∧
      (reportIfChanged l s y).reports =
        pushReports y.reports (conditionReport l s (reportIfChanged l s y)).toList := by
  obtain ⟨hreasons, hcondition, hkept, hleaks⟩ := h
  have hstate : (y.line l).record.callState = s.callState l := by rw [hkept]; rfl
  have hlatched : (y.line l).record.latched = (s.line l).record.latched := by rw [hkept]
  have hline := reportIfChanged_line (l := l) (b := s) (s := y)
  have hreported : ConditionReported l y ↔ s.callState l ≠ .unequipped ∧ s.reports.enables.lineCondition = true := by
    rw [ConditionReported, hstate, henables]
  have hreport : conditionReport l s (reportIfChanged l s y) =
      if ConditionChanged l s y ∧ ConditionReported l y then
        some (.lineCondition l (y.line l).record.condition (y.line l).record.reasons (y.line l).leaks)
      else none := by
    unfold conditionReport
    rw [hline, hleaks]
    exact if_congr (and_congr_right fun _ => hreported.symm) rfl rfl
  have hnone : (conditionReport l s (reportIfChanged l s y)).isNone = true ↔
      ¬(ConditionChanged l s y ∧ ConditionReported l y) := by
    rw [hreport]
    by_cases h : ConditionChanged l s y ∧ ConditionReported l y
    · rw [if_pos h]; exact ⟨nofun, fun h' => absurd h h'⟩
    · rw [if_neg h]; exact ⟨fun _ => h, fun _ => rfl⟩
  constructor
  · constructor
    · rw [hline]; exact hreasons
    · rw [hline]; exact hcondition
    · by_cases hc : ConditionChanged l s y ∧ ¬ConditionReported l y
      · have hif : ((reportIfChanged l s y).line l).record.condition ≠ (s.line l).record.condition ∨
            ((reportIfChanged l s y).line l).record.reasons ≠ (s.line l).record.reasons := by rw [hline]; exact hc.1
        rw [if_pos ⟨hif, hnone.2 fun h => hc.2 h.2⟩, hline, ← hlatched, decide_eq_true hc, Bool.or_true]
      · have hif : ¬((((reportIfChanged l s y).line l).record.condition ≠ (s.line l).record.condition ∨
            ((reportIfChanged l s y).line l).record.reasons ≠ (s.line l).record.reasons) ∧
            (conditionReport l s (reportIfChanged l s y)).isNone = true) := by
          rw [hline, hnone]
          exact fun h => hc ⟨h.1, fun hr => h.2 ⟨h.1, hr⟩⟩
        rw [if_neg hif, hline, decide_eq_false hc, Bool.or_false, hlatched]
    · rw [hline]
      exact LineRecord.latched_kept hkept
  · rw [hreport]
    by_cases h : ConditionChanged l s y
    · by_cases hr : ConditionReported l y
      · rw [if_pos ⟨h, hr⟩, reportIfChanged_of_reported h hr, State.queueReport_reports]; rfl
      · rw [if_neg fun h => hr h.2, reportIfChanged_of_latched h hr]; rfl
    · rw [if_neg fun h' => h h'.1, reportIfChanged_of_same h]; rfl

end Sys2Proof.Machine
end

section
/-! PROOFS. The normal end of RING and the end of a verify (R83, R85, R86, R88). -/

namespace Sys2Proof.Machine

/-! ### RING_END (R62, R83, R88) -/

theorem exec_ringEnd {l : LineId} {s : State} (h : (s.line l).relay.phase = .ring)
    (hlast : (s.line l).relay.lastSlot = some s.slot) : exec (.ringEnd l) s = .next (ringEnds l s) :=
  congrArg Host.Outcome.next (if_pos ⟨h, hlast⟩)

theorem updateSide_eq (p : Params) (sd : Side) (f : SideRecord → SideRecord) (x : Line) :
    updateSide p sd f x = { x with
      sides := x.sides.modify (fun y => computeThreshold p (f y)) sd
      record := { x.record with
        reasons := (updateSide p sd f x).record.reasons, condition := (updateSide p sd f x).record.condition } } := by
  unfold updateSide
  rw [agreeTripMargin_eq]

/-- A side with its baseline moved as a quiet burst of the detector moves it (R88). -/
def DetectorRecord.moveBaseline (d : DetectorRecord) (y : SideRecord) : SideRecord :=
  { y with baseline := baselineUpdate d.sampleSum d.sampleCount y.baseline }

section RingEnded

variable {p : Params} {x : Line}

theorem Line.ringEnded_of_quiet {sd : Side} (hm : x.det.mode = .watch) (hsd : x.det.side = some sd)
    (hn : 1 ≤ x.det.sampleCount) :
    x.ringEnded p = { updateSide p sd x.det.moveBaseline x with
      det := { x.det with mode := .idle } } := by
  have hne : x.det.sampleCount ≠ 0 := by omega
  have hdet : ∀ f, (updateSide p sd f x).det = x.det := fun f => by rw [updateSide_eq]
  simp only [Line.ringEnded, hm, hsd, hne, if_false, hdet]
  rfl

theorem Line.ringEnded_of_unsampled (hm : x.det.mode = .watch) (hn : x.det.sampleCount = 0) :
    x.ringEnded p = { x with det := { x.det with mode := .idle } } := by
  cases hsd : x.det.side <;> simp [Line.ringEnded, hm, hn, hsd]

theorem Line.ringEnded_of_window (hm : x.det.mode = .window) :
    x.ringEnded p = { x with det := { x.det with
      mode := .verify, verifyCause := some .openAtEnd, verifyRunning := false, sampleSum := 0, sampleCount := 0 } } := by
  simp only [Line.ringEnded, hm]

/-- The end of a RING writes the sides, the reasons, the condition and the detector of its line. -/
theorem Line.ringEnded_eq (p : Params) (x : Line) :
    x.ringEnded p = { x with
      sides := (x.ringEnded p).sides, det := (x.ringEnded p).det
      record := { x.record with
        reasons := (x.ringEnded p).record.reasons, condition := (x.ringEnded p).record.condition } } := by
  cases hm : x.det.mode with
  | watch =>
    by_cases hn : x.det.sampleCount = 0
    · rw [Line.ringEnded_of_unsampled hm hn]
    · cases hsd : x.det.side with
      | none => simp [Line.ringEnded, hm, hsd]
      | some sd =>
        rw [Line.ringEnded_of_quiet hm hsd (by omega), updateSide_eq]
  | window => rw [Line.ringEnded_of_window hm]
  | idle | verify => simp [Line.ringEnded, hm]

end RingEnded

/-- The line at the normal end of its RING, before a change of its condition is reported. -/
def State.burstEnded (s : State) (l : LineId) : State :=
  s.modLine l fun x => Line.ringEnded s.params { x with relay := x.relay.quench .normal }

theorem ringEnds_eq (l : LineId) (s : State) : ringEnds l s = reportIfChanged l s (s.burstEnded l) := rfl

theorem State.burstEnded_line (s : State) (l : LineId) :
    (s.burstEnded l).line l = Line.ringEnded s.params { s.line l with relay := (s.line l).relay.quench .normal } :=
  State.modLine_line_self _ _ _

/-- With the condition and the reasons as they were nothing is reported and nothing latched. -/
theorem ringEnds_of_same {l : LineId} {s : State}
    (h : ((s.burstEnded l).line l).record = (s.line l).record) : ringEnds l s = s.burstEnded l := by
  rw [ringEnds_eq]
  exact reportIfChanged_of_same (by rw [ConditionChanged, h]; exact fun h => h.elim (absurd rfl) (absurd rfl))

/-- One eighth of the way toward the mean, rounded toward zero, never goes below 0 from a baseline above it. -/
theorem baselineUpdate_int {sum count baseline : Nat} (h : 1 ≤ count) :
    ((baselineUpdate sum count baseline : Nat) : Int) =
      baseline + Int.tdiv (10 * (sum / count : Nat) - baseline) 8 := by
  have hne : count ≠ 0 := by omega
  rw [baselineUpdate, if_neg hne]
  push_cast
  rw [Int.toNat_of_nonneg]
  have hcases : 0 ≤ 10 * ((sum : Int) / count) := by positivity
  generalize 10 * ((sum : Int) / (count : Int)) = m at hcases
  rcases lt_or_ge (m - (baseline : Int)) 0 with hneg | hpos
  · have : -(m - (baseline : Int)) / 8 ≤ -(m - baseline) := by omega
    rw [← Int.neg_neg (m - (baseline : Int)), Int.neg_tdiv, Int.tdiv_eq_ediv_of_nonneg (by omega)]
    omega
  · rw [Int.tdiv_eq_ediv_of_nonneg hpos]
    omega

/-- Settles O36. -/
theorem ringEndUpdatesTheBaseline : Obligations.RingEndUpdatesTheBaseline := by
  unfold Obligations.RingEndUpdatesTheBaseline
  intro l s hphase hlast
  have hended := s.burstEnded_line l
  have heq := Line.ringEnded_eq s.params { s.line l with relay := (s.line l).relay.quench .normal }
  refine ⟨_, exec_ringEnd hphase hlast, ?relay, fun sd hsd hmode hn => ?quiet, fun hmode hn => ?unsampled,
    fun hmode => ?window, ?state, ?asg, ?scan, ?dial, ?call, ?leaks, ?others, ?frame⟩
  case relay => rw [ringEnds_eq, reportIfChanged_relay, hended, heq]; rfl
  case quiet =>
    have hquiet := Line.ringEnded_of_quiet (p := s.params)
      (x := { s.line l with relay := (s.line l).relay.quench .normal }) hmode hsd hn
    have hsides : ((s.burstEnded l).line l).sides = (s.line l).sides.modify
        (fun y => computeThreshold s.params ((s.line l).det.moveBaseline y)) sd := by
      rw [hended, hquiet]; exact updateSide_sides _ _ _ _
    have hsides' : ((ringEnds l s).line l).sides = _ := reportIfChanged_sides.trans hsides
    have hfollows : RecordFollows (s.line l) ((s.burstEnded l).line l) := by
      rw [hended, hquiet]
      have hf := updateSide_follows s.params sd (s.line l).det.moveBaseline
        { s.line l with relay := (s.line l).relay.quench .normal }
      exact ⟨hf.reasons, hf.condition, hf.kept, hf.leaks⟩
    obtain ⟨htrip, hreports⟩ := reportIfChanged_follows (y := s.burstEnded l) hfollows rfl
    have hbase : (((ringEnds l s).line l).sides.get sd).baseline =
        baselineUpdate (s.line l).det.sampleSum (s.line l).det.sampleCount ((s.line l).sides.get sd).baseline := by
      rw [hsides', PerSide.get_modify_self, computeThreshold_baseline]
      rfl
    refine ⟨?_, ?_, ?_, fun e he => ?_, htrip, hreports⟩
    · rw [ringEnds_eq, reportIfChanged_det, hended, hquiet]
    · rw [hbase, baselineUpdate_int hn]
    · rw [hbase, hsides', PerSide.get_modify_self]
      rfl
    · rw [hsides', PerSide.get_modify_ne _ _ _ _ he]
  case unsampled =>
    have hunsampled := hended.trans (Line.ringEnded_of_unsampled (p := s.params)
      (x := { s.line l with relay := (s.line l).relay.quench .normal }) hmode hn)
    rw [ringEnds_of_same (by rw [hunsampled]), hunsampled]
    exact ⟨rfl, rfl, rfl, rfl⟩
  case window =>
    have hwindow := hended.trans (Line.ringEnded_of_window (p := s.params)
      (x := { s.line l with relay := (s.line l).relay.quench .normal }) hmode)
    rw [ringEnds_of_same (by rw [hwindow]), hwindow]
    exact ⟨rfl, rfl, rfl, rfl⟩
  case state => rw [ringEnds_eq, reportIfChanged_callState, State.callState, hended, heq]; rfl
  case asg => rw [ringEnds_eq, reportIfChanged_asg, hended, heq]
  case scan => rw [ringEnds_eq, reportIfChanged_scan, hended, heq]
  case dial => rw [ringEnds_eq, reportIfChanged_dial, hended, heq]
  case call => rw [ringEnds_eq, reportIfChanged_call, hended, heq]
  case leaks => rw [ringEnds_eq, reportIfChanged_leaks, hended, heq]
  case others => exact (s.modLine_othersKept l _).trans (reportIfChanged_othersKept l s _)
  case frame =>
    have hkept := ((s.modLine_scheduleKept l _).trans (reportIfChanged_scheduleKept l s (s.burstEnded l))).eq
    have hmsu : (reportIfChanged l s (s.burstEnded l)).msu = s.msu := reportIfChanged_msu
    rw [hmsu] at hkept
    exact hkept

/-! ### VERIFY_TIMER_EXPIRY (R85, R86) -/

theorem exec_verifyTimerExpiry {l : LineId} {s : State} (h : (s.line l).det.mode = .verify)
    (hr : (s.line l).det.verifyRunning = true) : exec (.verifyTimerExpiry l) s = .next (verifyExpires l s) :=
  congrArg Host.Outcome.next (if_pos ⟨h, hr⟩)

theorem verifyExpires_of_unresolved {l : LineId} {s : State} {sd : Side}
    (hc : (s.line l).det.verifyCause = some .unresolved) (hsd : (s.line l).det.side = some sd) :
    verifyExpires l s = (s.modDet l DetectorRecord.endVerify).raiseMargin l sd := by
  simp only [verifyExpires, hc, hsd]

theorem verifyExpires_of_other {l : LineId} {s : State}
    (h : ¬((s.line l).det.verifyCause = some .unresolved ∧ (s.line l).det.side.isSome = true)) :
    verifyExpires l s = s.modDet l DetectorRecord.endVerify := by
  simp only [verifyExpires]
  split
  · rename_i hc hsd; exact absurd ⟨hc, by simp [hsd]⟩ h
  · rfl

/-- TRIP_NOISE is reported, or latched on its side; nothing else of the line changes (R8, R86). -/
theorem State.reportNoise_line (s : State) (l : LineId) (sd : Side) :
    (s.reportNoise l sd).line l = { s.line l with record := { (s.line l).record with
      latched := { (s.line l).record.latched with noise :=
        if s.reports.enables.tripNoise then (s.line l).record.latched.noise
        else (s.line l).record.latched.noise.modify (fun _ => true) sd } } } := by
  unfold State.reportNoise
  split
  · rw [State.queueReport_line]
  · rw [State.modRecord_line_self]

theorem State.reportNoise_othersKept (s : State) (l : LineId) (sd : Side) : OthersKept l s (s.reportNoise l sd) := by
  unfold State.reportNoise
  split
  · exact s.queueReport_othersKept l _
  · exact s.modLine_othersKept l _

theorem State.reportNoise_scheduleKept (s : State) (l : LineId) (sd : Side) : ScheduleKept s (s.reportNoise l sd) := by
  unfold State.reportNoise
  split
  · exact s.queueReport_scheduleKept _
  · exact s.modLine_scheduleKept l _

@[simp] theorem State.reportNoise_msu (s : State) (l : LineId) (sd : Side) : (s.reportNoise l sd).msu = s.msu := by
  unfold State.reportNoise
  split
  · rw [State.queueReport_msu]
  · rfl

theorem State.reportNoise_queue_of_enabled {s : State} {l : LineId} {sd : Side}
    (h : s.reports.enables.tripNoise = true) :
    (s.reportNoise l sd).reports.queue = queueWith s.reports.queue
      (.tripNoise l sd ((s.line l).sides.get sd).margin ((s.line l).sides.get sd).threshold) := by
  rw [State.reportNoise, if_pos h, State.queueReport_queue]

theorem isPrefixOf_queueWith (q : List Report) (r : Report) : q.isPrefixOf (queueWith q r) = true := by
  unfold queueWith
  split <;> simp

/-- The margin raised and TRIP_NOISE told, before a change of the condition is reported (R86). -/
def State.noiseTold (s : State) (l : LineId) (sd : Side) : State :=
  (s.modLine l (updateSide s.params sd SideRecord.raiseMargin)).reportNoise l sd

theorem State.raiseMargin_eq (s : State) (l : LineId) (sd : Side) :
    s.raiseMargin l sd = reportIfChanged l s (s.noiseTold l sd) := rfl

theorem State.noiseTold_line (s : State) (l : LineId) (sd : Side) :
    (s.noiseTold l sd).line l = { s.line l with
      sides := (s.line l).sides.modify (fun y => computeThreshold s.params y.raiseMargin) sd
      record := ((s.noiseTold l sd).line l).record } := by
  unfold State.noiseTold
  rw [State.reportNoise_line, State.modLine_line_self, updateSide_eq]

theorem State.noiseTold_record (s : State) (l : LineId) (sd : Side) :
    ((s.noiseTold l sd).line l).record.callState = (s.line l).record.callState ∧
      ((s.noiseTold l sd).line l).record.latched.noise =
        if s.reports.enables.tripNoise then (s.line l).record.latched.noise
        else (s.line l).record.latched.noise.modify (fun _ => true) sd := by
  unfold State.noiseTold
  rw [State.reportNoise_line, State.modLine_line_self, updateSide_eq]
  exact ⟨rfl, rfl⟩

theorem State.noiseTold_queue {s : State} {l : LineId} {sd : Side} (h : s.reports.enables.tripNoise = true) :
    (s.noiseTold l sd).reports.queue = queueWith s.reports.queue (.tripNoise l sd
      (((s.noiseTold l sd).line l).sides.get sd).margin (((s.noiseTold l sd).line l).sides.get sd).threshold) := by
  have hsides : ((s.noiseTold l sd).line l).sides = (updateSide s.params sd SideRecord.raiseMargin (s.line l)).sides := by
    rw [State.noiseTold_line, updateSide_sides]
  rw [State.noiseTold, State.reportNoise_queue_of_enabled (by exact h), ← State.noiseTold, hsides,
    State.modLine_line_self]
  rfl

/-- Settles O39. -/
theorem verifyExpiryRaisesTheMargin : Obligations.VerifyExpiryRaisesTheMargin := by
  unfold Obligations.VerifyExpiryRaisesTheMargin
  intro l s hmode hrunning
  refine ⟨_, exec_verifyTimerExpiry hmode hrunning, ?_⟩
  have hdet := State.modDet_line_self s l DetectorRecord.endVerify
  by_cases hc : (s.line l).det.verifyCause = some .unresolved ∧ (s.line l).det.side.isSome = true
  · obtain ⟨hcause, hside⟩ := hc
    obtain ⟨sd, hsd⟩ := Option.isSome_iff_exists.1 hside
    have hfix (e : Side) (he : some e = some sd) : e = sd := Option.some.inj he
    have htold := (s.modDet l DetectorRecord.endVerify).noiseTold_line l sd
    obtain ⟨hstate, hnoise⟩ := (s.modDet l DetectorRecord.endVerify).noiseTold_record l sd
    have hexp : verifyExpires l s = reportIfChanged l (s.modDet l DetectorRecord.endVerify)
        ((s.modDet l DetectorRecord.endVerify).noiseTold l sd) := verifyExpires_of_unresolved hcause hsd
    have hsides : ((verifyExpires l s).line l).sides =
        (s.line l).sides.modify (fun y => computeThreshold s.params y.raiseMargin) sd := by
      rw [hexp, reportIfChanged_sides, htold, hdet]; rfl
    have hlatch : ((verifyExpires l s).line l).record.latched.noise =
        (((s.modDet l DetectorRecord.endVerify).noiseTold l sd).line l).record.latched.noise := by
      rw [hexp, reportIfChanged_line]
    refine ⟨?_, fun e he _ => ?_, fun h => absurd (h.symm.trans hcause) nofun, ?_, ?_, ?_, ?_, ?_, ?_⟩
    · rw [hexp, reportIfChanged_det, htold, hdet]; rfl
    · obtain rfl := hfix e (he.symm.trans hsd)
      refine ⟨?_, fun e' he' => ?_, fun hen => ⟨?_, ?_⟩, fun hen => ?_⟩
      · rw [hsides, PerSide.get_modify_self]; rfl
      · rw [hsides, PerSide.get_modify_ne _ _ _ _ he']
      · rw [hlatch, hnoise, if_pos (by exact hen), hdet]
      · have hq := State.noiseTold_queue (s := s.modDet l DetectorRecord.endVerify) (l := l) (sd := e) hen
        rw [hexp, reportIfChanged_sides, reportIfChanged_queue, State.modDet_reports] at *
        rw [← hq]
        split
        · exact isPrefixOf_queueWith _ _
        · exact List.isPrefixOf_iff_prefix.2 (List.prefix_refl _)
      · rw [hlatch, hnoise, if_neg (by rw [State.modDet_reports, hen]; exact Bool.false_ne_true), PerSide.get_modify_self]
    · rw [hexp, reportIfChanged_callState]
      exact hstate.trans (congrArg (·.record.callState) hdet)
    · rw [hexp, reportIfChanged_asg, htold, hdet]
    · rw [hexp, reportIfChanged_relay, htold, hdet]
    · rw [hexp, reportIfChanged_leaks, htold, hdet]
    · rw [verifyExpires_of_unresolved hcause hsd]
      exact ((s.modLine_othersKept l _).trans ((State.modLine_othersKept _ l _).trans
        (State.reportNoise_othersKept _ l sd))).trans (reportIfChanged_othersKept l _ _)
    · rw [verifyExpires_of_unresolved hcause hsd, State.raiseMargin_eq]
      have hkept := (((s.modLine_scheduleKept l _).trans ((State.modLine_scheduleKept _ l _).trans
        (State.reportNoise_scheduleKept _ l sd))).trans (reportIfChanged_scheduleKept l
          (s.modDet l DetectorRecord.endVerify) ((s.modDet l DetectorRecord.endVerify).noiseTold l sd))).eq
      have hmsu : (reportIfChanged l (s.modDet l DetectorRecord.endVerify)
          ((s.modDet l DetectorRecord.endVerify).noiseTold l sd)).msu = s.msu := by
        rw [reportIfChanged_msu, State.noiseTold, State.reportNoise_msu]; rfl
      rw [hmsu] at hkept
      exact hkept
  · rw [verifyExpires_of_other hc, State.callState, hdet]
    refine ⟨rfl, fun sd hsd hcause => absurd ⟨hcause, by simp [hsd]⟩ hc, fun _ => ⟨rfl, rfl, rfl⟩, rfl, rfl, rfl, rfl,
      s.modLine_othersKept l _, rfl⟩

end Sys2Proof.Machine
end

section
/-! PROOFS. The completions of the measuring head's jobs (07): ORIGIN_ID, ANSWER_SIDE and the tests. -/

namespace Sys2Proof.Machine

section Completion

variable {s : State} {r : RunningJob} {tip ring : Nat}

/-- The readings that the running job made find it. -/
theorem State.completing_of_running (h : s.msu.running = some r) :
    s.completing ⟨r.number, tip⟩ ⟨r.number, ring⟩ = some (r.line, r.kind) :=
  (s.completing_iff _ _ _ _).2 ⟨r, h, rfl, rfl, rfl, rfl⟩

theorem exec_originIdComplete (h : s.msu.running = some r) (hk : r.kind = .originId) :
    exec (.originIdComplete ⟨r.number, tip⟩ ⟨r.number, ring⟩) s = .next (originIdDone r.line (recorded tip ring) s) := by
  have hfound := s.completing_of_running (tip := tip) (ring := ring) h
  rw [hk] at hfound
  exact congrArg Host.Outcome.next (by simp only [originIdCompleteStep, hfound])

theorem exec_answerSideComplete (h : s.msu.running = some r) (hk : r.kind = .answerSide) :
    exec (.answerSideComplete ⟨r.number, tip⟩ ⟨r.number, ring⟩) s =
      .next (answerSideDone r.line (recorded tip ring) s) := by
  have hfound := s.completing_of_running (tip := tip) (ring := ring) h
  rw [hk] at hfound
  exact congrArg Host.Outcome.next (by simp only [answerSideCompleteStep, hfound])

theorem exec_testComplete_hostTest (h : s.msu.running = some r) (hk : r.kind = .hostTest) :
    exec (.testComplete ⟨r.number, tip⟩ ⟨r.number, ring⟩) s = .next (hostTestDone r.line (recorded tip ring) s) := by
  have hfound := s.completing_of_running (tip := tip) (ring := ring) h
  rw [hk] at hfound
  exact congrArg Host.Outcome.next (by simp only [testCompleteStep, hfound])

theorem exec_testComplete_insulation (h : s.msu.running = some r) (hk : r.kind = .insulation) :
    exec (.testComplete ⟨r.number, tip⟩ ⟨r.number, ring⟩) s =
      .next (insulationTestDone r.line (recorded tip ring) s) := by
  have hfound := s.completing_of_running (tip := tip) (ring := ring) h
  rw [hk] at hfound
  exact congrArg Host.Outcome.next (by simp only [testCompleteStep, hfound])

end Completion

theorem State.releaseHead_othersKept (s : State) (l : LineId) : OthersKept l s (s.releaseHead l) := fun _ _ => rfl

@[simp] theorem State.releaseHead_backlog (s : State) (l : LineId) :
    (s.releaseHead l).msu.backlog = s.msu.backlog := rfl

@[simp] theorem State.releaseHead_mustRun (s : State) (l : LineId) :
    (s.releaseHead l).msu.mustRun = s.msu.mustRun := rfl

/-! ### ORIGIN_ID (R125, R126, R132) -/

theorem originIdDone_eq (l : LineId) (m : PerSide Nat) (s : State) :
    originIdDone l m s = ((s.releaseHead l).originateDue l
      (identify (s.line l).record.parties (corrected m (s.line l).leaks))
        (some (corrected m (s.line l).leaks))).arbitrate := rfl

theorem originIdDone_scheduleKept (l : LineId) (m : PerSide Nat) (s : State) :
    ScheduleKept s (originIdDone l m s) := by
  rw [originIdDone_eq]
  refine .trans (.trans (s.releaseHead_scheduleKept l) ?_) (State.arbitrate_scheduleKept _)
  exact State.originateDue_scheduleKept _ l _ _

/-- Settles O52. -/
theorem originIdReportsTheOrigination : Obligations.OriginIdReportsTheOrigination := by
  unfold Obligations.OriginIdReportsTheOrigination
  intro tip ring s r hrun hkind
  refine ⟨_, exec_originIdComplete hrun hkind, ?queue, ?line, ?jobs, ?backlog, ?others,
    (originIdDone_scheduleKept _ _ s).eq⟩ <;> rw [originIdDone_eq]
  case queue =>
    rintro gc rfl
    rw [State.arbitrate_reports, State.originateDue_queue]
    rfl
  case line => rw [State.arbitrate_line, State.originateDue_line]; rfl
  case jobs => rw [State.arbitrate_jobs, State.originateDue_msu, State.releaseHead_jobs]
  case backlog => rw [State.arbitrate_backlog, State.originateDue_msu, State.releaseHead_backlog]
  case others =>
    exact ((s.releaseHead_othersKept r.line).trans (State.originateDue_othersKept (s.releaseHead r.line) r.line _ _)).trans
      (State.arbitrate_othersKept _ _)

/-! ### ANSWER_SIDE (R127, R155, R156) -/

section WhoAnswered

variable (s : State) (l : LineId)

/-- A reverting call answered: CONNECTED, with nothing left of the reverting call but its early pickups (R155). -/
theorem State.revertAnswered_line (side : Option Side) (source : AnswerSource) :
    (s.revertAnswered l side source).line l = { s.line l with
      record := { (s.line l).record with callState := .connected }
      call := { (s.line l).call with called := none, caller := none, recallOn := false } } := by
  rw [State.revertAnswered, State.clearRevert_line, State.queueReport_line, State.setCallState_line_self,
    Line.enter_plain .connected _ nofun nofun nofun]

theorem State.revertAnswered_queue (side : Option Side) (source : AnswerSource) :
    (s.revertAnswered l side source).reports.queue =
      queueWith s.reports.queue (.answer l side source (s.line l).call.called) := by
  simp [State.revertAnswered, State.clearRevert]

/-- An early pickup below the limit holds the line again, for a new revert hold (R156). -/
theorem State.earlyPickup_of_below (h : (s.line l).record.earlyPickups < 2) :
    s.earlyPickup l = (((s.modRecord l fun r =>
      { r with earlyPickups := (s.line l).record.earlyPickups + 1 }).setCallState l .revertHold).startRevertHold
        l).queueReport (.revertEarly l ((s.line l).record.earlyPickups + 1)) :=
  if_pos (by simp only [Config.earlyPickupLimit]; omega)

/-- The third early pickup gives the call up (R156). -/
theorem State.earlyPickup_of_limit (h : 2 ≤ (s.line l).record.earlyPickups) :
    s.earlyPickup l = ((s.modRecord l fun r =>
      { r with earlyPickups := (s.line l).record.earlyPickups + 1 }).returnToCaller l).queueReport
        (.revertAbandon l .earlyLimit) :=
  if_neg (by simp only [Config.earlyPickupLimit]; omega)

theorem State.earlyPickup_line_of_below (h : (s.line l).record.earlyPickups < 2) :
    (s.earlyPickup l).line l = { s.line l with
      record := { (s.line l).record with
        callState := .revertHold, earlyPickups := (s.line l).record.earlyPickups + 1 }
      call := { (s.line l).call with revertHold := some (s.params.revertHoldS * 1000) } } := by
  rw [State.earlyPickup_of_below s l h, State.queueReport_line, State.startRevertHold_line,
    State.setCallState_line_self, State.modRecord_line_self, Line.enter_plain .revertHold _ nofun nofun nofun]
  rfl

theorem State.earlyPickup_line_of_limit (h : 2 ≤ (s.line l).record.earlyPickups) :
    (s.earlyPickup l).line l = { s.line l with
      record := { (s.line l).record with
        callState := .originating, earlyPickups := (s.line l).record.earlyPickups + 1 }
      dial := { (s.line l).dial with collection := .opened, pulseCount := 0, received := 0 }
      call := { (s.line l).call with
        called := none, caller := none, recallOn := false, revertHold := none
        permanentSignal := some (s.params.permanentSignalS * 1000) } } := by
  rw [State.earlyPickup_of_limit s l h, State.queueReport_line, State.returnToCaller_line, State.modRecord_line_self]
  rfl

theorem State.earlyPickup_queue_of_below (h : (s.line l).record.earlyPickups < 2) :
    (s.earlyPickup l).reports.queue =
      queueWith s.reports.queue (.revertEarly l ((s.line l).record.earlyPickups + 1)) := by
  rw [State.earlyPickup_of_below s l h, State.queueReport_queue]; rfl

theorem State.earlyPickup_queue_of_limit (h : 2 ≤ (s.line l).record.earlyPickups) :
    (s.earlyPickup l).reports.queue = queueWith s.reports.queue (.revertAbandon l .earlyLimit) := by
  rw [State.earlyPickup_of_limit s l h, State.queueReport_queue, State.returnToCaller_reports,
    State.modRecord_reports]

/-- What the decision of the side test keeps, whatever it is: the head, the job list, the schedule and the other lines,
and the records of its line that are not call control's or dial reception's. -/
structure DecisionKept (s t : State) : Prop where
  msu : t.msu = s.msu
  others : OthersKept l s t
  schedule : ScheduleKept s t
  parties : (t.line l).record.parties = (s.line l).record.parties
  asg : (t.line l).asg = (s.line l).asg
  relay : (t.line l).relay = (s.line l).relay
  sides : (t.line l).sides = (s.line l).sides

theorem State.revertAnswered_kept (side : Option Side) (source : AnswerSource) :
    DecisionKept l s (s.revertAnswered l side source) := by
  have hline := s.revertAnswered_line l side source
  refine ⟨?_, ?_, ?_, ?_, ?_, ?_, ?_⟩
  · simp [State.revertAnswered, State.clearRevert]
  · exact ((s.setCallState_othersKept l _).trans (State.queueReport_othersKept _ l _)).trans
      (State.clearRevert_othersKept _ l)
  · exact ((s.setCallState_scheduleKept l _).trans (State.queueReport_scheduleKept _ _)).trans
      (State.clearRevert_scheduleKept _ l)
  all_goals rw [hline]

theorem State.earlyPickup_kept : DecisionKept l s (s.earlyPickup l) := by
  rcases Nat.lt_or_ge (s.line l).record.earlyPickups 2 with h | h
  · have hline := s.earlyPickup_line_of_below l h
    refine ⟨?_, ?_, ?_, ?_, ?_, ?_, ?_⟩
    · rw [State.earlyPickup_of_below s l h, State.queueReport_msu]; rfl
    · rw [State.earlyPickup_of_below s l h]
      exact ((s.modLine_othersKept l _).trans (State.setCallState_othersKept _ l _)).trans
        ((State.startRevertHold_othersKept _ l).trans (State.queueReport_othersKept _ l _))
    · rw [State.earlyPickup_of_below s l h]
      exact ((s.modLine_scheduleKept l _).trans (State.setCallState_scheduleKept _ l _)).trans
        ((State.startRevertHold_scheduleKept _ l).trans (State.queueReport_scheduleKept _ _))
    all_goals rw [hline]
  · have hline := s.earlyPickup_line_of_limit l h
    refine ⟨?_, ?_, ?_, ?_, ?_, ?_, ?_⟩
    · rw [State.earlyPickup_of_limit s l h, State.queueReport_msu, State.returnToCaller_msu]; rfl
    · rw [State.earlyPickup_of_limit s l h]
      exact (s.modLine_othersKept l _).trans
        ((State.returnToCaller_othersKept _ l).trans (State.queueReport_othersKept _ l _))
    · rw [State.earlyPickup_of_limit s l h]
      exact (s.modLine_scheduleKept l _).trans
        ((State.returnToCaller_scheduleKept _ l).trans (State.queueReport_scheduleKept _ _))
    all_goals rw [hline]

variable {s l}

theorem State.decideAnswer_of_unknown : s.decideAnswer l none = s.revertAnswered l none .unknown := rfl

theorem State.decideAnswer_of_shared {sd : Side}
    (h : (s.line l).sideOf (s.line l).call.called = (s.line l).sideOf (s.line l).call.caller) :
    s.decideAnswer l (some sd) = s.revertAnswered l (some sd) .sharedSide := if_pos h

theorem State.decideAnswer_of_called {sd : Side}
    (h : (s.line l).sideOf (s.line l).call.called ≠ (s.line l).sideOf (s.line l).call.caller)
    (hd : (s.line l).sideOf (s.line l).call.called = some sd) :
    s.decideAnswer l (some sd) = s.revertAnswered l (some sd) .called := (if_neg h).trans (if_pos hd)

theorem State.decideAnswer_of_early {sd : Side}
    (h : (s.line l).sideOf (s.line l).call.called ≠ (s.line l).sideOf (s.line l).call.caller)
    (hd : (s.line l).sideOf (s.line l).call.called ≠ some sd) :
    s.decideAnswer l (some sd) = s.earlyPickup l := (if_neg h).trans (if_neg hd)

theorem State.decideAnswer_cases (s : State) (l : LineId) (x : Option Side) :
    (∃ source, s.decideAnswer l x = s.revertAnswered l x source) ∨ s.decideAnswer l x = s.earlyPickup l := by
  cases x with
  | none => exact .inl ⟨_, rfl⟩
  | some sd =>
    by_cases h : (s.line l).sideOf (s.line l).call.called = (s.line l).sideOf (s.line l).call.caller
    · exact .inl ⟨_, State.decideAnswer_of_shared h⟩
    · by_cases hd : (s.line l).sideOf (s.line l).call.called = some sd
      · exact .inl ⟨_, State.decideAnswer_of_called h hd⟩
      · exact .inr (State.decideAnswer_of_early h hd)

theorem State.decideAnswer_kept (s : State) (l : LineId) (x : Option Side) :
    DecisionKept l s (s.decideAnswer l x) := by
  rcases s.decideAnswer_cases l x with ⟨source, h⟩ | h <;> rw [h]
  · exact s.revertAnswered_kept l x source
  · exact s.earlyPickup_kept l

/-- A decision that answers the call is the answer of some source. -/
theorem State.decideAnswer_of_connected {x : Option Side} (h : (s.decideAnswer l x).callState l = .connected) :
    ∃ source, s.decideAnswer l x = s.revertAnswered l x source := by
  rcases s.decideAnswer_cases l x with hans | hearly
  · exact hans
  · rw [hearly, State.callState] at h
    rcases Nat.lt_or_ge (s.line l).record.earlyPickups 2 with hn | hn
    · rw [s.earlyPickup_line_of_below l hn] at h; exact absurd h nofun
    · rw [s.earlyPickup_line_of_limit l hn] at h; exact absurd h nofun

end WhoAnswered

theorem Line.sideOf_of_party {x : Line} {n : Option PartyNo} {p : Party} (h : n.bind x.party = some p) :
    x.sideOf n = some p.side := by rw [Line.sideOf, h]; rfl

/-- Settles O53. -/
theorem answerSideDecidesWhoAnswered : Obligations.AnswerSideDecidesWhoAnswered := by
  unfold Obligations.AnswerSideDecidesWhoAnswered
  intro tip ring s r hrun hkind d hd c hc
  have hcalled := Line.sideOf_of_party hd
  have hcaller := Line.sideOf_of_party hc
  have hkept := (s.releaseHead r.line).decideAnswer_kept r.line
    (sideResult (corrected (recorded tip ring) (s.line r.line).leaks))
  refine ⟨_, exec_answerSideComplete hrun hkind, ?decision, ?jobs, ?backlog, ?parties, ?asg, ?relay, ?sides, ?others,
    ?frame⟩ <;> rw [answerSideDone]
  case decision =>
    intro x hx
    have hx' : sideResult (corrected (recorded tip ring) (s.line r.line).leaks) = x := hx.symm
    rw [hx', State.arbitrate_callState, State.arbitrate_reports, State.arbitrate_line]
    have hsame (h : d.side = c.side) : ((s.releaseHead r.line).line r.line).sideOf
        ((s.releaseHead r.line).line r.line).call.called = ((s.releaseHead r.line).line r.line).sideOf
          ((s.releaseHead r.line).line r.line).call.caller := hcalled.trans ((congrArg some h).trans hcaller.symm)
    have hdiff (h : d.side ≠ c.side) : ((s.releaseHead r.line).line r.line).sideOf
        ((s.releaseHead r.line).line r.line).call.called ≠ ((s.releaseHead r.line).line r.line).sideOf
          ((s.releaseHead r.line).line r.line).call.caller := fun he =>
      h (Option.some.inj (hcalled.symm.trans (he.trans hcaller)))
    have hearly (hside : x = some c.side) (h : d.side ≠ c.side) :
        (s.releaseHead r.line).decideAnswer r.line x = (s.releaseHead r.line).earlyPickup r.line := by
      rw [hside]
      exact State.decideAnswer_of_early (hdiff h) fun he => h (Option.some.inj (hcalled.symm.trans he))
    refine ⟨?unknown, ?shared, ?called, ?answered, ?below, ?limit⟩
    case unknown =>
      rintro rfl
      rw [State.decideAnswer_of_unknown, State.callState, State.revertAnswered_line, State.revertAnswered_queue]
      exact ⟨rfl, rfl⟩
    case shared =>
      intro hne h
      obtain ⟨sd, rfl⟩ := Option.ne_none_iff_exists'.1 hne
      rw [State.decideAnswer_of_shared (hsame h), State.callState, State.revertAnswered_line,
        State.revertAnswered_queue]
      exact ⟨rfl, rfl⟩
    case called =>
      rintro rfl h
      rw [State.decideAnswer_of_called (hdiff h) hcalled, State.callState, State.revertAnswered_line,
        State.revertAnswered_queue]
      exact ⟨rfl, rfl⟩
    case answered =>
      intro h
      obtain ⟨source, he⟩ := State.decideAnswer_of_connected h
      rw [he, State.revertAnswered_line]
      exact ⟨rfl, rfl, rfl⟩
    case below =>
      intro hside h hn
      rw [hearly hside h, State.callState, State.earlyPickup_line_of_below _ _ (by exact hn),
        State.earlyPickup_queue_of_below _ _ (by exact hn)]
      exact ⟨rfl, rfl, rfl, rfl, rfl⟩
    case limit =>
      intro hside h hn
      rw [hearly hside h, State.callState, State.earlyPickup_line_of_limit _ _ (by exact hn),
        State.earlyPickup_queue_of_limit _ _ (by exact hn)]
      exact ⟨rfl, rfl, rfl, rfl⟩
  case jobs => rw [State.arbitrate_jobs, hkept.msu, State.releaseHead_jobs]
  case backlog => rw [State.arbitrate_backlog, hkept.msu, State.releaseHead_backlog]
  case parties => rw [State.arbitrate_line]; exact hkept.parties
  case asg => rw [State.arbitrate_line]; exact hkept.asg
  case relay => rw [State.arbitrate_line]; exact hkept.relay
  case sides => rw [State.arbitrate_line]; exact hkept.sides
  case others => exact hkept.others.trans (State.arbitrate_othersKept _ _)
  case frame =>
    exact (((s.releaseHead_scheduleKept r.line).trans hkept.schedule).trans (State.arbitrate_scheduleKept _)).eq

/-! ### The evaluation of a test (R120, R121) -/

section EvaluateLeak

variable {p : Params} {c : Condition} {leak : Bool} {w : Nat}

theorem evaluateLeak_of_fault (h : p.faultLimit ≤ w ∨ (c = .faulted ∧ p.faultLimit - 10 ≤ w)) :
    evaluateLeak p c leak w = (true, true) := by
  by_cases hf : p.faultLimit ≤ w
  · exact if_pos hf
  · obtain ⟨hc, hw⟩ := h.resolve_left hf
    rw [evaluateLeak, if_neg hf, if_pos hc, if_pos hw]

theorem evaluateLeak_of_recovered (hf : w < p.faultLimit) (hc : c = .faulted) (hw : w < p.faultLimit - 10) :
    evaluateLeak p c leak w = (false, decide (p.degradeLimit ≤ w)) := by
  rw [evaluateLeak, if_neg (by omega), if_pos hc, if_neg (by omega)]

theorem evaluateLeak_of_degraded (hf : w < p.faultLimit) (hc : c ≠ .faulted) (hw : p.degradeLimit ≤ w) :
    evaluateLeak p c leak w = (false, true) := by
  rw [evaluateLeak, if_neg (by omega), if_neg hc, if_pos hw]

theorem evaluateLeak_of_held (hf : w < p.faultLimit) (hc : c ≠ .faulted) (hw : w < p.degradeLimit)
    (hh : p.degradeLimit - 5 ≤ w) : evaluateLeak p c leak w = (false, leak) := by
  rw [evaluateLeak, if_neg (by omega), if_neg hc, if_neg (by omega), if_pos hh]

theorem evaluateLeak_of_clear (hf : w < p.faultLimit) (hc : c ≠ .faulted) (hw : w < p.degradeLimit - 5) :
    evaluateLeak p c leak w = (false, false) := by
  rw [evaluateLeak, if_neg (by omega), if_neg hc, if_neg (by omega), if_neg (by omega)]

/-- Below the fault limit, with its hysteresis for a line that is FAULTED, a test leaves no fault. -/
theorem evaluateLeak_fst_of_below (hf : w < p.faultLimit) (hw : c = .faulted → w < p.faultLimit - 10) :
    (evaluateLeak p c leak w).1 = false := by
  by_cases hc : c = .faulted
  · rw [evaluateLeak_of_recovered hf hc (hw hc)]
  · rw [evaluateLeak, if_neg (by omega), if_neg hc]
    split
    · rfl
    · split <;> rfl

end EvaluateLeak

/-- A line with its LEAK reason and its condition evaluated (R121). -/
def Line.evaluated (p : Params) (g : PerSide Nat) (c : Condition) (leak : Bool) (y : Line) : Line :=
  { y with record := y.record.evaluate p c leak (max g.tip g.ring) }

/-- Bringing TRIP_MARGIN into agreement writes the reasons and the condition of a line, and nothing else (R73). -/
theorem agreeTripMargin_kept (x : Line) : agreeTripMargin x = { x with record := { x.record with
    reasons := (agreeTripMargin x).record.reasons, condition := (agreeTripMargin x).record.condition } } := by
  rw [agreeTripMargin_reasons]
  exact agreeTripMargin_eq x

section Tested

variable (p : Params) (g : PerSide Nat) (x : Line)

/-- The leak reason and the fault that a test of a line gives. -/
abbrev Line.leakVerdict : Bool × Bool :=
  evaluateLeak p x.record.condition x.record.reasons.leak (max g.tip g.ring)

/-- The two sides of a tested line: their baselines seeded, their thresholds computed (R89). -/
theorem Line.tested_sides : (x.tested p g).sides =
    ⟨computeThreshold p { x.sides.tip with baseline := seedBaseline p.bias g.tip },
      computeThreshold p { x.sides.ring with baseline := seedBaseline p.bias g.ring }⟩ :=
  updateSides_sides _ _ _ _

theorem Line.tested_reasons :
    (x.tested p g).record.reasons = ⟨(x.leakVerdict p g).2, (x.tested p g).pinned⟩ := by
  have h := agreeTripMargin_reasons { x with
    leaks := g
    sides := ⟨computeThreshold p { x.sides.tip with baseline := seedBaseline p.bias g.tip },
      computeThreshold p { x.sides.ring with baseline := seedBaseline p.bias g.ring }⟩ }
  have hpinned : (x.tested p g).pinned = _ :=
    congrArg (fun y : PerSide SideRecord => y.tip.pinned || y.ring.pinned) (x.tested_sides p g)
  rw [hpinned]
  exact congrArg (fun r : Reasons => { r with leak := (x.leakVerdict p g).2 }) h

theorem Line.tested_condition : (x.tested p g).record.condition =
    if (x.leakVerdict p g).1 then .faulted
    else if (x.leakVerdict p g).2 ∨ (x.tested p g).record.reasons.tripMargin then .degraded else .normal := rfl

/-- A test writes the leak values, the sides, the reasons and the condition of its line (R120). -/
theorem Line.tested_eq : x.tested p g = { x with
    leaks := g, sides := (x.tested p g).sides
    record := { x.record with
      reasons := (x.tested p g).record.reasons, condition := (x.tested p g).record.condition } } := by
  rw [Line.tested_sides]
  exact congrArg (Line.evaluated p g x.record.condition x.record.reasons.leak) (agreeTripMargin_kept _)

end Tested

/-! ### The completion of a test (R120) -/

/-- A completed HOST_TEST before a change of the condition is reported (R120, R124). -/
def State.hostTested (s : State) (l : LineId) (g : PerSide Nat) : State :=
  ((s.releaseHead l).modLine l (Line.tested s.params g)).queueReport (.testResult l (some g))

/-- A completed insulation test before a change of the condition is reported (R115, R120). -/
def State.insulated (s : State) (l : LineId) (g : PerSide Nat) : State :=
  State.modLine { s with msu := { s.msu.insulationDone with running := none } } l (Line.tested s.params g)

theorem hostTestDone_eq (l : LineId) (g : PerSide Nat) (s : State) :
    hostTestDone l g s = (reportIfChanged l s (s.hostTested l g)).arbitrate := rfl

theorem insulationTestDone_eq (l : LineId) (g : PerSide Nat) (s : State) :
    insulationTestDone l g s = (reportIfChanged l s (s.insulated l g)).arbitrate := rfl

/-- A test's results stand in the line `l` of `y`, with the queue `q`, and a change of the condition is not reported
yet. -/
structure TestStored (l : LineId) (g : PerSide Nat) (q : List Report) (s y : State) : Prop where
  line : y.line l = (s.line l).tested s.params g
  queue : y.reports.queue = q
  enables : y.reports.enables = s.reports.enables
  others : OthersKept l s y
  kept : ScheduleKept s y

theorem State.hostTested_stored (s : State) (l : LineId) (g : PerSide Nat) :
    TestStored l g (queueWith s.reports.queue (.testResult l (some g))) s (s.hostTested l g) where
  line := by rw [State.hostTested, State.queueReport_line, State.modLine_line_self, State.releaseHead_line]
  queue := by rw [State.hostTested, State.queueReport_queue]; rfl
  enables := by rw [State.hostTested, State.queueReport_eq]; rfl
  others := (s.releaseHead_othersKept l).trans
    ((State.modLine_othersKept _ l _).trans (State.queueReport_othersKept _ l _))
  kept := (s.releaseHead_scheduleKept l).trans
    ((State.modLine_scheduleKept _ l _).trans (State.queueReport_scheduleKept _ _))

theorem State.insulated_stored (s : State) (l : LineId) (g : PerSide Nat) :
    TestStored l g s.reports.queue s (s.insulated l g) where
  line := State.modLine_line_self _ _ _
  queue := rfl
  enables := rfl
  others := State.modLine_othersKept _ l _
  kept := ⟨⟨rfl, rfl, rfl, rfl, rfl, rfl, rfl⟩, rfl, rfl, rfl⟩

section Reported

variable {l : LineId} {g : PerSide Nat} {q : List Report} {s y : State} (h : TestStored l g q s y)
include h

theorem TestStored.record_eq : ((reportIfChanged l s y).arbitrate.line l).record =
    { ((s.line l).tested s.params g).record with latched := { (s.line l).record.latched with
      lineCondition := (s.line l).record.latched.lineCondition ||
        decide (ConditionChanged l s y ∧ ¬ConditionReported l y) } } := by
  have hlatched : ((s.line l).tested s.params g).record.latched = (s.line l).record.latched :=
    congrArg (·.record.latched) ((s.line l).tested_eq s.params g)
  rw [State.arbitrate_line, reportIfChanged_line]
  generalize decide (ConditionChanged l s y ∧ ¬ConditionReported l y) = due
  rw [h.line, hlatched]

/-- With the condition and the reasons as they were a test leaves the record as it was. -/
theorem TestStored.record_of_same (hn : ¬ConditionChanged l s y) :
    ((reportIfChanged l s y).arbitrate.line l).record = (s.line l).record := by
  rw [ConditionChanged, h.line, not_or, not_not, not_not] at hn
  obtain ⟨hcondition, hreasons⟩ := hn
  rw [reportIfChanged_of_same (by rw [ConditionChanged, h.line, hcondition, hreasons]; simp), State.arbitrate_line,
    h.line, (s.line l).tested_eq s.params g, hcondition, hreasons]

theorem TestStored.queue_eq : (reportIfChanged l s y).arbitrate.reports.queue =
    if ConditionChanged l s y ∧ ConditionReported l y then
      queueWith q (.lineCondition l (y.line l).record.condition (y.line l).record.reasons (y.line l).leaks)
    else q := by
  rw [State.arbitrate_reports, reportIfChanged_queue, h.queue]

theorem TestStored.scheduleKept : ScheduleKept s (reportIfChanged l s y).arbitrate :=
  (h.kept.trans (reportIfChanged_scheduleKept l s y)).trans (State.arbitrate_scheduleKept _)

theorem TestStored.othersKept : OthersKept l s (reportIfChanged l s y).arbitrate :=
  (h.others.trans (reportIfChanged_othersKept l s y)).trans (State.arbitrate_othersKept _ _)

end Reported

/-- The condition and the LEAK reason a test leaves, by the limits with their hysteresis (R121). -/
theorem Line.tested_limits (p : Params) (g : PerSide Nat) (x : Line) {w : Nat} (hw : w = max g.tip g.ring) :
    (p.faultLimit ≤ w ∨ (x.record.condition = .faulted ∧ p.faultLimit - 10 ≤ w) →
      (x.tested p g).record.condition = .faulted ∧ (x.tested p g).record.reasons.leak = true) ∧
    (w < p.faultLimit → (x.record.condition = .faulted → w < p.faultLimit - 10) →
      (x.tested p g).record.condition =
        (if (x.tested p g).record.reasons = ⟨false, false⟩ then .normal else .degraded) ∧
      (p.degradeLimit ≤ w → (x.tested p g).record.reasons.leak = true) ∧
      (x.record.condition = .faulted → w < p.degradeLimit → (x.tested p g).record.reasons.leak = false) ∧
      (x.record.condition ≠ .faulted → w < p.degradeLimit → p.degradeLimit - 5 ≤ w →
        (x.tested p g).record.reasons.leak = x.record.reasons.leak) ∧
      (w < p.degradeLimit - 5 → (x.tested p g).record.reasons.leak = false)) := by
  subst hw
  have hcondition := x.tested_condition p g
  have hreasons := x.tested_reasons p g
  have hleak : (x.tested p g).record.reasons.leak = (x.leakVerdict p g).2 := by rw [hreasons]
  refine ⟨fun hfault => ?_, fun hf hback => ?_⟩
  · have hv : x.leakVerdict p g = _ := evaluateLeak_of_fault hfault
    rw [hcondition, hleak, hv]
    exact ⟨rfl, rfl⟩
  · have hfst : (x.leakVerdict p g).1 = false := evaluateLeak_fst_of_below hf hback
    refine ⟨?_, fun hd => ?_, fun hc hd => ?_, fun hc hd hh => ?_, fun hd => ?_⟩
    · rw [hcondition, hfst, if_neg Bool.false_ne_true, hreasons]
      cases (x.leakVerdict p g).2 <;> cases (x.tested p g).pinned <;> rfl
    · by_cases hc : x.record.condition = .faulted
      · have hv : x.leakVerdict p g = _ := evaluateLeak_of_recovered hf hc (hback hc)
        rw [hleak, hv]; exact decide_eq_true hd
      · have hv : x.leakVerdict p g = _ := evaluateLeak_of_degraded hf hc hd
        rw [hleak, hv]
    · have hv : x.leakVerdict p g = _ := evaluateLeak_of_recovered hf hc (hback hc)
      rw [hleak, hv]; exact decide_eq_false (by omega)
    · have hv : x.leakVerdict p g = _ := evaluateLeak_of_held hf hc hd hh
      rw [hleak, hv]
    · by_cases hc : x.record.condition = .faulted
      · have hv : x.leakVerdict p g = _ := evaluateLeak_of_recovered hf hc (hback hc)
        rw [hleak, hv]; exact decide_eq_false (by omega)
      · have hv : x.leakVerdict p g = _ := evaluateLeak_of_clear hf hc hd
        rw [hleak, hv]

/-- Either kind of test stores its results, frees the head, and then reports a change of the condition. -/
theorem exec_testComplete {s : State} {r : RunningJob} {tip ring : Nat} (hrun : s.msu.running = some r)
    (hkind : r.kind = .hostTest ∨ r.kind = .insulation) :
    ∃ y, exec (.testComplete ⟨r.number, tip⟩ ⟨r.number, ring⟩) s = .next (reportIfChanged r.line s y).arbitrate ∧
      TestStored r.line (recorded tip ring) (if r.kind = .hostTest then
        queueWith s.reports.queue (.testResult r.line (some (recorded tip ring))) else s.reports.queue) s y ∧
      (r.kind = .hostTest → y.msu.jobs = (s.msu.jobs.filter fun j => j.line ≠ r.line) ∧
        y.msu.backlog = s.msu.backlog ∧ y.msu.mustRun = s.msu.mustRun) ∧
      (r.kind = .insulation → y.msu.jobs = s.msu.jobs ∧ y.msu.backlog = s.msu.backlog - 1 ∧
        y.msu.mustRun = (s.msu.mustRun && decide (9 ≤ s.msu.backlog - 1))) := by
  rcases hkind with hk | hk
  · refine ⟨s.hostTested r.line (recorded tip ring), exec_testComplete_hostTest hrun hk, ?_, fun _ => ?_,
      fun h => absurd (hk.symm.trans h) nofun⟩
    · rw [if_pos hk]; exact s.hostTested_stored _ _
    · rw [State.hostTested, State.queueReport_msu]; exact ⟨rfl, rfl, rfl⟩
  · refine ⟨s.insulated r.line (recorded tip ring), exec_testComplete_insulation hrun hk, ?_,
      fun h => absurd (hk.symm.trans h) nofun, fun _ => ⟨rfl, rfl, ?_⟩⟩
    · rw [if_neg (by rw [hk]; nofun)]; exact s.insulated_stored _ _
    · have hnot : (!decide (s.msu.backlog - 1 ≤ 8)) = decide (9 ≤ s.msu.backlog - 1) := by
        rw [← decide_not]; exact decide_eq_decide.2 (by omega)
      exact congrArg (s.msu.mustRun && ·) hnot

/-- Settles O54. -/
theorem testCompletionEvaluatesTheLine : Obligations.TestCompletionEvaluatesTheLine := by
  unfold Obligations.TestCompletionEvaluatesTheLine
  intro tip ring s r hrun hkind
  obtain ⟨y, hexec, hstored, hhost, hinsulation⟩ := exec_testComplete (tip := tip) (ring := ring) hrun hkind
  have heq := (s.line r.line).tested_eq s.params (recorded tip ring)
  have hsides : ((reportIfChanged r.line s y).arbitrate.line r.line).sides =
      ((s.line r.line).tested s.params (recorded tip ring)).sides := by
    rw [State.arbitrate_line, reportIfChanged_sides, hstored.line]
  have hyleaks : (y.line r.line).leaks = ⟨min 2000 tip, min 2000 ring⟩ := by rw [hstored.line, heq]; rfl
  have hleaks : ((reportIfChanged r.line s y).arbitrate.line r.line).leaks = ⟨min 2000 tip, min 2000 ring⟩ := by
    rw [State.arbitrate_line, reportIfChanged_leaks, hyleaks]
  have hrecord := hstored.record_eq
  have hcondition := congrArg LineRecord.condition hrecord
  have hreasons := congrArg LineRecord.reasons hrecord
  have hchanged : ConditionChanged r.line s y ↔
      ((reportIfChanged r.line s y).arbitrate.line r.line).record.condition ≠ (s.line r.line).record.condition ∨
        ((reportIfChanged r.line s y).arbitrate.line r.line).record.reasons ≠ (s.line r.line).record.reasons := by
    rw [hcondition, hreasons, ← hstored.line]
  have hstate : (y.line r.line).record.callState = s.callState r.line := by rw [hstored.line, heq]; rfl
  have hlimits := Line.tested_limits s.params (recorded tip ring) (s.line r.line) rfl
  refine ⟨_, hexec, hleaks, ?tip, ?ring, ?margin, ?limits, ?reports, ?host, ?insulation, ?state, ?asg, ?det, ?call,
    ?dial, hstored.othersKept, hstored.scheduleKept.eq⟩
  case tip => rw [hsides, Line.tested_sides]; rfl
  case ring => rw [hsides, Line.tested_sides]; rfl
  case margin =>
    rw [hreasons, hsides]
    exact congrArg Reasons.tripMargin (Line.tested_reasons _ _ _)
  case limits =>
    rintro w rfl
    rw [hcondition, hreasons]
    exact hlimits
  case reports =>
    rintro q rfl
    refine ⟨fun hc hr => ?_, fun hch => ⟨fun hne hen => ?_, fun hen => ?_⟩⟩
    · have hsame : ¬ConditionChanged r.line s y := fun h => (hchanged.1 h).elim (absurd hc) (absurd hr)
      rw [hstored.queue_eq, if_neg fun h => hsame h.1]
      exact ⟨rfl, hstored.record_of_same hsame⟩
    · have hreported : ConditionReported r.line y := by
        rw [ConditionReported, hstate, hstored.enables]; exact ⟨hne, hen⟩
      rw [hstored.queue_eq, if_pos ⟨hchanged.2 hch, hreported⟩, hcondition, hreasons, hleaks, hyleaks, ← hstored.line]
      rfl
    · have hlatched : ¬ConditionReported r.line y := by
        rw [ConditionReported, hstored.enables, hen]; exact fun h => absurd h.2 nofun
      rw [hstored.queue_eq, if_neg fun h => hlatched h.2, hrecord, decide_eq_true ⟨hchanged.2 hch, hlatched⟩,
        Bool.or_true]
      exact ⟨rfl, rfl⟩
  case host =>
    rw [State.arbitrate_jobs, State.arbitrate_backlog, State.arbitrate_mustRun, reportIfChanged_msu]; exact hhost
  case insulation =>
    rw [State.arbitrate_jobs, State.arbitrate_backlog, State.arbitrate_mustRun, reportIfChanged_msu]
    exact hinsulation
  case state => rw [State.arbitrate_callState, reportIfChanged_callState]; exact hstate
  case asg => rw [State.arbitrate_line, reportIfChanged_asg, hstored.line, heq]
  case det => rw [State.arbitrate_line, reportIfChanged_det, hstored.line, heq]
  case call => rw [State.arbitrate_line, reportIfChanged_call, hstored.line, heq]
  case dial => rw [State.arbitrate_line, reportIfChanged_dial, hstored.line, heq]

end Sys2Proof.Machine
end

section
/-! PROOFS. The loop scanner: the hit filter, reacquisition, and the classification of the break a make ends (R92 to R98). -/

namespace Sys2Proof.Machine

/-! ### LOOP_SAMPLE by the line's stage -/

section LoopSample

variable {l : LineId} {closed : Bool} {s : State}

theorem exec_loopSample_of_unsampled (h : (s.line l).record.parties = [] ∨ (s.line l).relay.phase ≠ .silent) :
    exec (.loopSample l closed) s = .next s := by
  refine congrArg Host.Outcome.next (if_neg fun hsampled => ?_)
  obtain ⟨hequipped, hsilent⟩ := hsampled
  rcases h with hparties | hphase
  · rw [State.equipped, hparties] at hequipped; exact absurd hequipped nofun
  · exact hphase hsilent

theorem State.equipped_of_parties (h : (s.line l).record.parties ≠ []) : s.equipped l = true := by
  simpa [State.equipped] using h

theorem exec_loopSample_of_reacquiring (hp : (s.line l).record.parties ≠ [])
    (hs : (s.line l).relay.phase = .silent) (hr : (s.line l).scan.reacquiring = true) :
    exec (.loopSample l closed) s = .next (s.modScan l (ScannerRecord.reacquire closed)) :=
  congrArg Host.Outcome.next ((if_pos ⟨State.equipped_of_parties hp, hs⟩).trans (if_pos hr))

theorem exec_loopSample_of_filtered (hp : (s.line l).record.parties ≠ [])
    (hs : (s.line l).relay.phase = .silent) (hr : (s.line l).scan.reacquiring = false) :
    exec (.loopSample l closed) s = .next (s.filterSample l closed) :=
  congrArg Host.Outcome.next ((if_pos ⟨State.equipped_of_parties hp, hs⟩).trans
    (if_neg (by rw [hr]; exact Bool.false_ne_true)))

/-! ### The hit filter (R93) -/

/-- The line at a sample of the hit filter: a break in progress has grown by the sample's 5 ms (R93, R97). -/
def State.sampled (s : State) (l : LineId) : State := s.modScan l ScannerRecord.tick

theorem State.sampled_line (s : State) (l : LineId) :
    (s.sampled l).line l = { s.line l with scan := { (s.line l).scan with
      breakTimer := (s.line l).scan.breakTimer.map fun n => min 1050 (n + 5) } } := State.modScan_line_self _ _ _

theorem State.filterSample_of_same (h : closed = (s.line l).scan.closed) :
    s.filterSample l closed = (s.sampled l).modScan l fun c => { c with filterCount := 0 } :=
  if_pos (h.trans (congrArg (·.scan.closed) (s.sampled_line l)).symm)

theorem State.filterSample_of_differing (h : closed ≠ (s.line l).scan.closed) :
    s.filterSample l closed =
      if (s.line l).scan.filterCount + 1 < 3 then (s.sampled l).modScan l fun c => { c with filterCount := c.filterCount + 1 }
      else if closed then (s.sampled l).make l else (s.sampled l).modScan l ScannerRecord.break := by
  have hclosed := congrArg (·.scan.closed) (s.sampled_line l)
  have hcount := congrArg (·.scan.filterCount) (s.sampled_line l)
  refine (if_neg fun he => h (he.trans hclosed)).trans (if_congr ?_ rfl rfl)
  exact iff_of_eq (congrArg (· + 1 < 3) hcount)

theorem State.filterSample_of_counted (h : closed ≠ (s.line l).scan.closed) (hn : (s.line l).scan.filterCount < 2) :
    s.filterSample l closed = (s.sampled l).modScan l fun c => { c with filterCount := c.filterCount + 1 } := by
  rw [State.filterSample_of_differing h, if_pos (by omega)]

theorem State.filterSample_of_make (h : (s.line l).scan.closed = false) (hn : 2 ≤ (s.line l).scan.filterCount) :
    s.filterSample l true = (s.sampled l).make l := by
  rw [State.filterSample_of_differing (by rw [h]; nofun), if_neg (by omega), if_pos rfl]

theorem State.filterSample_of_break (h : (s.line l).scan.closed = true) (hn : 2 ≤ (s.line l).scan.filterCount) :
    s.filterSample l false = (s.sampled l).modScan l ScannerRecord.break := by
  rw [State.filterSample_of_differing (by rw [h]; nofun), if_neg (by omega), if_neg Bool.false_ne_true]

/-- Which of the four things a sample through the hit filter does. -/
theorem State.filterSample_cases (s : State) (l : LineId) (closed : Bool) :
    (∃ f, s.filterSample l closed = (s.sampled l).modScan l f) ∨
      (closed = true ∧ s.filterSample l closed = (s.sampled l).make l) := by
  by_cases h : closed = (s.line l).scan.closed
  · exact .inl ⟨_, State.filterSample_of_same h⟩
  · rw [State.filterSample_of_differing h]
    split
    · exact .inl ⟨_, rfl⟩
    · cases closed with
      | false => exact .inl ⟨_, rfl⟩
      | true => exact .inr ⟨rfl, rfl⟩

end LoopSample

/-! ### What dial reception writes -/

/-- A train, a break and a flash are heard: the line's dial reception record, its make timer and the report queue may
change, and nothing else does. -/
structure DialHeard (l : LineId) (s t : State) : Prop where
  line : t.line l = { s.line l with
    dial := (t.line l).dial, scan := { (s.line l).scan with makeTimer := (t.line l).scan.makeTimer } }
  others : OthersKept l s t
  schedule : ScheduleKept s t
  msu : t.msu = s.msu

theorem DialHeard.refl (l : LineId) (s : State) : DialHeard l s s :=
  ⟨rfl, .refl l s, ⟨⟨rfl, rfl, rfl, rfl, rfl, rfl, rfl⟩, rfl, rfl, rfl⟩, rfl⟩

theorem DialHeard.trans {l : LineId} {s t u : State} (h : DialHeard l s t) (k : DialHeard l t u) :
    DialHeard l s u where
  line := k.line.trans <| congrArg (fun x : Line => { x with
    dial := (u.line l).dial, scan := { x.scan with makeTimer := (u.line l).scan.makeTimer } }) h.line
  others := h.others.trans k.others
  schedule := h.schedule.trans k.schedule
  msu := k.msu.trans h.msu

theorem DialHeard.eq {l : LineId} {s t : State} (h : DialHeard l s t) :
    t = { s with lines := t.lines, reports := t.reports } := by
  have hkept := h.schedule.eq
  rw [h.msu] at hkept
  exact hkept

/-- A change of the dial reception record and of the make timer alone. -/
theorem State.modLine_dialHeard (s : State) (l : LineId) (f : DialRecord → DialRecord) (m : Timer → Timer) :
    DialHeard l s (s.modLine l fun x =>
      { x with dial := f x.dial, scan := { x.scan with makeTimer := m x.scan.makeTimer } }) where
  line := by rw [State.modLine_line_self]
  others := s.modLine_othersKept l _
  schedule := s.modLine_scheduleKept l _
  msu := rfl

theorem State.modDial_dialHeard (s : State) (l : LineId) (f : DialRecord → DialRecord) :
    DialHeard l s (s.modDial l f) := s.modLine_dialHeard l f id

theorem State.queueReport_dialHeard (s : State) (l : LineId) (r : Report) : DialHeard l s (s.queueReport r) where
  line := by rw [State.queueReport_line]
  others := s.queueReport_othersKept l r
  schedule := s.queueReport_scheduleKept r
  msu := s.queueReport_msu r

theorem State.markerEvent_dialHeard (s : State) (l : LineId) : DialHeard l s (s.markerEvent l) where
  line := by rw [s.markerEvent_line l]
  others := s.markerEvent_othersKept l
  schedule := s.markerEvent_scheduleKept l
  msu := s.markerEvent_msu l

/-- The collection with a pulse counted and the make timer started (R100). -/
def State.pulseCounted (s : State) (l : LineId) : State := s.modLine l fun x =>
  { x with dial := { x.dial with pulseCount := min 11 (x.dial.pulseCount + 1) }
           scan := { x.scan with makeTimer := some 300 } }

/-- The collection with its train discarded by a bad break, before the error acts on the marker (R100). -/
def State.trainSpoilt (s : State) (l : LineId) : State := s.modLine l fun x =>
  { x with dial := { x.dial with pulseCount := 0, errors := { x.dial.errors with badBreak := true } }
           scan := { x.scan with makeTimer := none } }

section Breaks

variable {s : State} {l : LineId} {n : Nat}

theorem State.dialPulse_of_opened (h : (s.line l).dial.collection = .opened) : s.dialPulse l = s.pulseCounted l :=
  if_pos h

theorem State.dialPulse_of_other (h : (s.line l).dial.collection ≠ .opened) : s.dialPulse l = s := if_neg h

theorem State.badBreak_of_opened (h : (s.line l).dial.collection = .opened) :
    s.badBreak l = (s.trainSpoilt l).markerEvent l := if_pos h

theorem State.badBreak_of_other (h : (s.line l).dial.collection ≠ .opened) : s.badBreak l = s := if_neg h

theorem State.dialPulse_dialHeard (s : State) (l : LineId) : DialHeard l s (s.dialPulse l) := by
  by_cases h : (s.line l).dial.collection = .opened
  · rw [State.dialPulse_of_opened h]
    exact s.modLine_dialHeard l (fun d => { d with pulseCount := min 11 (d.pulseCount + 1) }) fun _ => some 300
  · rw [State.dialPulse_of_other h]; exact .refl l s

theorem State.badBreak_dialHeard (s : State) (l : LineId) : DialHeard l s (s.badBreak l) := by
  by_cases h : (s.line l).dial.collection = .opened
  · rw [State.badBreak_of_opened h]
    exact (s.modLine_dialHeard l (fun d => { d with pulseCount := 0, errors := { d.errors with badBreak := true } })
      fun _ => none).trans (State.markerEvent_dialHeard _ l)
  · rw [State.badBreak_of_other h]; exact .refl l s

/-! ### The classification of a break (R98) -/

theorem State.classifyBreak_of_pulse (h : s.callState l = .originating) (h1 : 15 ≤ n) (h2 : n ≤ 100) :
    s.classifyBreak l n = s.dialPulse l := by simp [State.classifyBreak, h, h1, h2]

theorem State.classifyBreak_of_bad (h : s.callState l = .originating) (h1 : 101 ≤ n) (h2 : n ≤ 1049) :
    s.classifyBreak l n = s.badBreak l := by
  have h3 : ¬n ≤ 100 := by omega
  simp [State.classifyBreak, h, h1, h2, h3]

theorem State.classifyBreak_of_flash (h : s.callState l = .connected) (h1 : 300 ≤ n) (h2 : n ≤ 1049) :
    s.classifyBreak l n = s.queueReport (.flash l) := by simp [State.classifyBreak, h, h1, h2]

theorem State.classifyBreak_of_none (h : s.callState l = .originating → n < 15 ∨ 1049 < n)
    (hc : s.callState l = .connected → n < 300 ∨ 1049 < n) : s.classifyBreak l n = s := by
  unfold State.classifyBreak
  cases hst : s.callState l with
  | originating => exact (if_neg (by have := h hst; omega)).trans (if_neg (by have := h hst; omega))
  | connected => exact if_neg (by have := hc hst; omega)
  | _ => rfl

/-- A collection that is not open ignores pulses and bad breaks (R100). -/
theorem State.classifyBreak_of_ignored (h : s.callState l = .originating)
    (hc : (s.line l).dial.collection ≠ .opened) : s.classifyBreak l n = s := by
  simp only [State.classifyBreak, h, State.dialPulse_of_other hc, State.badBreak_of_other hc, ite_self]

theorem State.classifyBreak_cases (s : State) (l : LineId) (n : Nat) :
    s.classifyBreak l n = s.dialPulse l ∨ s.classifyBreak l n = s.badBreak l ∨
      s.classifyBreak l n = s.queueReport (.flash l) ∨ s.classifyBreak l n = s := by
  unfold State.classifyBreak
  split
  · split
    · exact .inl rfl
    · split
      · exact .inr (.inl rfl)
      · exact .inr (.inr (.inr rfl))
  · split
    · exact .inr (.inr (.inl rfl))
    · exact .inr (.inr (.inr rfl))
  · exact .inr (.inr (.inr rfl))

theorem State.classifyBreak_dialHeard (s : State) (l : LineId) (n : Nat) : DialHeard l s (s.classifyBreak l n) := by
  rcases s.classifyBreak_cases l n with h | h | h | h <;> rw [h]
  · exact s.dialPulse_dialHeard l
  · exact s.badBreak_dialHeard l
  · exact s.queueReport_dialHeard l _
  · exact .refl l s

/-! ### Makes (R94, R96, R98) -/

/-- The line at a make, before the break it ends is classified. -/
def State.closedLoop (s : State) (l : LineId) : State := (s.sampled l).modScan l ScannerRecord.make

theorem State.closedLoop_line (s : State) (l : LineId) :
    (s.closedLoop l).line l = { s.line l with scan := { (s.line l).scan with
      closed := true, filterCount := 0, breakTimer := none, closedHold := some 50 } } := by
  rw [State.closedLoop, State.modScan_line_self, State.sampled_line]; rfl

theorem State.closedLoop_othersKept (s : State) (l : LineId) : OthersKept l s (s.closedLoop l) :=
  (s.modLine_othersKept l _).trans (State.modLine_othersKept _ l _)

theorem State.make_of_break (h : ((s.line l).scan.breakTimer.map fun m => min 1050 (m + 5)) = some n) :
    (s.sampled l).make l = (s.closedLoop l).classifyBreak l n := by
  have htimer : ((s.sampled l).line l).scan.breakTimer = some n := by rw [State.sampled_line]; exact h
  simp only [State.make, htimer]
  rfl

theorem State.make_of_none (h : (s.line l).scan.breakTimer = none) : (s.sampled l).make l = s.closedLoop l := by
  have htimer : ((s.sampled l).line l).scan.breakTimer = none := by rw [State.sampled_line, h]; rfl
  simp only [State.make, htimer]
  rfl

theorem State.make_dialHeard (s : State) (l : LineId) : DialHeard l (s.closedLoop l) ((s.sampled l).make l) := by
  cases h : (s.line l).scan.breakTimer with
  | none => rw [State.make_of_none h]; exact .refl l _
  | some m =>
    rw [State.make_of_break (n := min 1050 (m + 5)) (by rw [h]; rfl)]
    exact State.classifyBreak_dialHeard _ l _

end Breaks

/-- What a sample through the hit filter keeps, whatever it says. -/
theorem State.filterSample_kept (s : State) (l : LineId) (closed : Bool) :
    ((s.filterSample l closed).line l).record = (s.line l).record ∧
    ((s.filterSample l closed).line l).asg = (s.line l).asg ∧
    ((s.filterSample l closed).line l).relay = (s.line l).relay ∧
    ((s.filterSample l closed).line l).sides = (s.line l).sides ∧
    ((s.filterSample l closed).line l).det = (s.line l).det ∧
    ((s.filterSample l closed).line l).call = (s.line l).call ∧
    OthersKept l s (s.filterSample l closed) ∧
    s.filterSample l closed =
      { s with lines := (s.filterSample l closed).lines, reports := (s.filterSample l closed).reports } := by
  rcases s.filterSample_cases l closed with ⟨f, h⟩ | ⟨-, h⟩ <;> rw [h]
  · have hline := (s.sampled l).modScan_line_self l f
    rw [State.sampled_line] at hline
    rw [hline]
    exact ⟨rfl, rfl, rfl, rfl, rfl, rfl, (s.modLine_othersKept l _).trans (State.modLine_othersKept _ l _), rfl⟩
  · have hheard := s.make_dialHeard l
    rw [hheard.line, State.closedLoop_line]
    exact ⟨rfl, rfl, rfl, rfl, rfl, rfl,
      (s.closedLoop_othersKept l).trans hheard.others, hheard.eq⟩

/-- Settles O40. -/
theorem loopSampleIsFiltered : Obligations.LoopSampleIsFiltered := by
  unfold Obligations.LoopSampleIsFiltered
  intro l closed s
  refine ⟨exec_loopSample_of_unsampled, fun hp hsilent hr => ⟨_, exec_loopSample_of_filtered hp hsilent hr, ?same,
    ?counted, ?make, ?break_, s.filterSample_kept l closed⟩⟩
  case same =>
    intro h
    rw [State.filterSample_of_same h, State.modScan_line_self, State.sampled_line]
    exact ⟨rfl, rfl⟩
  case counted =>
    intro h hn
    rw [State.filterSample_of_counted h hn, State.modScan_line_self, State.sampled_line]
    exact ⟨rfl, rfl⟩
  case make =>
    rintro rfl h hn
    rw [State.filterSample_of_make h (by omega), (s.make_dialHeard l).line, State.closedLoop_line]
    exact ⟨rfl, rfl, rfl, rfl⟩
  case break_ =>
    rintro rfl h hn
    rw [State.filterSample_of_break h (by omega), State.modScan_line_self, State.sampled_line]
    exact ⟨rfl, rfl⟩

/-! ### Reacquisition (R95) -/

section Reacquire

variable {c : ScannerRecord} {b : Bool}

theorem ScannerRecord.reacquire_of_new (h : c.reacquireCount = 0 ∨ b ≠ c.lastSample) :
    c.reacquire b = { c with reacquireCount := 1, lastSample := b } := by
  have hn : ¬(0 < c.reacquireCount ∧ b = c.lastSample) := fun ⟨hpos, heq⟩ => by
    rcases h with h | h
    · omega
    · exact h heq
  simp [ScannerRecord.reacquire, hn]

theorem ScannerRecord.reacquire_of_second (hn : c.reacquireCount = 1) (h : b = c.lastSample) :
    c.reacquire b = { c with reacquireCount := 2, lastSample := b } := by
  simp [ScannerRecord.reacquire, hn, h]

theorem ScannerRecord.reacquire_of_third (hn : c.reacquireCount = 2) (h : b = c.lastSample) :
    c.reacquire b = { c with reacquireCount := 3, lastSample := b }.reacquired b := by
  simp [ScannerRecord.reacquire, hn, h]

/-- The held state a reacquisition ends with is the sample's, with that state's timer started (R95). -/
theorem ScannerRecord.reacquired_spec (c : ScannerRecord) (b : Bool) :
    (c.reacquired b).reacquiring = false ∧ (c.reacquired b).reacquireCount = 0 ∧ (c.reacquired b).closed = b ∧
      (b = true → (c.reacquired b).closedHold = some 50) ∧ (b = false → (c.reacquired b).breakTimer = some 0) ∧
      (c.closed = true → b = false → (c.reacquired b).closedHold = none) ∧
      (c.closed = false → b = true → (c.reacquired b).breakTimer = none) := by
  obtain ⟨closed, _, _, _, _, _, _, _⟩ := c
  cases closed with
  | false =>
    cases b with
    | false => exact ⟨rfl, rfl, rfl, nofun, fun _ => rfl, nofun, fun _ => nofun⟩
    | true => exact ⟨rfl, rfl, rfl, fun _ => rfl, nofun, nofun, fun _ _ => rfl⟩
  | true =>
    cases b with
    | false => exact ⟨rfl, rfl, rfl, nofun, fun _ => rfl, fun _ _ => rfl, nofun⟩
    | true => exact ⟨rfl, rfl, rfl, fun _ => rfl, nofun, fun _ => nofun, nofun⟩

end Reacquire

/-- Settles O41. -/
theorem reacquisitionEndsAtThreeEqualSamples : Obligations.ReacquisitionEndsAtThreeEqualSamples := by
  unfold Obligations.ReacquisitionEndsAtThreeEqualSamples
  intro l b s hp hsilent hr
  have hscan : ((s.modScan l (ScannerRecord.reacquire b)).line l).scan = (s.line l).scan.reacquire b := by
    rw [State.modScan_line_self]
  refine ⟨_, exec_loopSample_of_reacquiring hp hsilent hr, fun h => ?_, fun hn h => ?_, fun hn h => ?_, ?_,
    s.modLine_othersKept l _, rfl⟩
  · rw [hscan, ScannerRecord.reacquire_of_new h]
  · rw [hscan, ScannerRecord.reacquire_of_second hn h]
  · rw [hscan, ScannerRecord.reacquire_of_third hn h]
    exact ScannerRecord.reacquired_spec _ b
  · rw [State.modScan_line_self]

/-- Settles O42. -/
theorem makeClassifiesItsBreak : Obligations.MakeClassifiesItsBreak := by
  unfold Obligations.MakeClassifiesItsBreak
  intro l s hp hsilent hr hopen hcount n hn
  have hexec := (exec_loopSample_of_filtered (closed := true) hp hsilent hr).trans
    (congrArg Host.Outcome.next ((State.filterSample_of_make hopen (by omega)).trans (State.make_of_break hn)))
  have hline := s.closedLoop_line l
  have hdial : ((s.closedLoop l).line l).dial = (s.line l).dial := by rw [hline]
  have hstate : (s.closedLoop l).callState l = s.callState l := by rw [State.callState, hline]; rfl
  have hheard := (s.closedLoop l).classifyBreak_dialHeard l n
  refine ⟨_, hexec, fun ho hc h1 h2 => ?pulse, fun ho hc h1 h2 => ?bad, fun ho hc => ?done, fun ho h1 h2 => ?flash,
    fun ho h1 => ?short, fun ho => ?other, ?state⟩
  case pulse =>
    rw [State.classifyBreak_of_pulse (hstate.trans ho) h1 h2, State.dialPulse_of_opened (by rw [hdial, hc]),
      State.pulseCounted, State.modLine_line_self, hdial]
    exact ⟨rfl, rfl, rfl⟩
  case bad =>
    have hacted : MarkerActed l s (((s.closedLoop l).trainSpoilt l).markerEvent l) :=
      State.markerEvent_acted rfl (by rw [State.trainSpoilt, State.modLine_line_self, hdial])
        (by rw [State.trainSpoilt, State.modLine_line_self, hdial])
    rw [State.classifyBreak_of_bad (hstate.trans ho) h1 h2, State.badBreak_of_opened (by rw [hdial, hc])]
    refine ⟨?_, ?_, ?_, ?_, hacted⟩ <;>
      rw [State.markerEvent_line, State.trainSpoilt, State.modLine_line_self]
    · rw [hdial]
    · rw [hdial]
  case done =>
    rw [State.classifyBreak_of_ignored (hstate.trans ho) (by rw [hdial, hc]; nofun), hline]
    exact ⟨rfl, rfl, rfl⟩
  case flash =>
    rw [State.classifyBreak_of_flash (hstate.trans ho) h1 h2, State.queueReport_queue, State.queueReport_line, hdial]
    exact ⟨rfl, rfl⟩
  case short =>
    rw [State.classifyBreak_of_none (fun h => absurd (h.symm.trans (hstate.trans ho)) nofun) fun _ => .inl h1, hdial]
    exact ⟨rfl, rfl⟩
  case other =>
    have hnone : (s.closedLoop l).classifyBreak l n = s.closedLoop l := by
      rw [← hstate] at ho
      rcases ho with ⟨ho, hc⟩ | rfl
      · exact State.classifyBreak_of_none (absurd · ho) (absurd · hc)
      · exact State.classifyBreak_of_none (fun _ => .inr (by decide)) fun _ => .inr (by decide)
    rw [hnone, hdial]
    exact ⟨rfl, rfl⟩
  case state => rw [State.callState, hheard.line]; exact hstate

end Sys2Proof.Machine
end

section
/-! PROOFS. Dial reception: trains form digits, counts and pauses complete the block, and what is reportable acts on the
line's marker (R100 to R103). -/

namespace Sys2Proof.Machine

/-! ### A digit taken (R101) -/

/-- The record of dial reception with a digit taken: queued behind the others, or overrun when 16 are held. -/
theorem DialRecord.takeDigit_eq (d : DialRecord) (digit : Nat) : d.takeDigit digit = { d with
    received := min 16 (d.received + 1), pulseCount := 0
    digits := if d.digits.length < 16 then d.digits ++ [digit] else d.digits
    errors := if d.digits.length < 16 then d.errors else { d.errors with digitOverrun := true } } := by
  by_cases h : d.digits.length < 16
  · rw [if_pos h, if_pos h]; exact if_pos h
  · rw [if_neg h, if_neg h]; exact if_neg h

theorem digitOf_eq {n : Nat} (h : n ≤ 10) : digitOf n = n % 10 := by
  unfold digitOf
  split
  · omega
  · omega

/-- The digit taken and the permanent-signal timer restarted, before the block is checked for completion (R101). -/
def State.digitTaken (s : State) (l : LineId) (digit : Nat) : State :=
  (s.modDial l (DialRecord.takeDigit digit)).startPermanentSignal l

/-- Whether the digit about to be taken completes the block by count (R102). -/
abbrev State.BlockCompletes (s : State) (l : LineId) : Prop :=
  (s.line l).record.dialMode ≠ .each ∧ min 16 ((s.line l).dial.received + 1) = (s.line l).record.blockCount

/-- Whether the digit about to be taken is reportable (R103). -/
abbrev State.DigitReportable (s : State) (l : LineId) : Prop :=
  (s.line l).record.dialMode = .each ∨ 16 ≤ (s.line l).dial.digits.length ∨ s.BlockCompletes l ∨
    ((s.line l).record.dialMode = .firstThenBlock ∧ min 16 ((s.line l).dial.received + 1) = 1)

/-- The digit taken, and the block completed or the interdigit timer started, before the marker is acted on (R102). -/
def State.digitSettled (s : State) (l : LineId) (digit : Nat) : State :=
  if s.BlockCompletes l then (s.digitTaken l digit).completeBlock l
  else if (s.line l).record.dialMode ≠ .each then
    (s.digitTaken l digit).modDial l fun d => { d with interdigit := some (s.params.interdigitS * 1000) }
  else s.digitTaken l digit

section Digit

variable (s : State) (l : LineId) (digit : Nat)

theorem State.digitTaken_line : (s.digitTaken l digit).line l = { s.line l with
    dial := (s.line l).dial.takeDigit digit
    call := { (s.line l).call with permanentSignal := some (s.params.permanentSignalS * 1000) } } := by
  rw [State.digitTaken, State.startPermanentSignal_line, State.modDial_line_self]; rfl

theorem State.completeBlock_line : (s.completeBlock l).line l = { s.line l with
    dial := { (s.line l).dial with collection := .done, complete := true, interdigit := none, pulseCount := 0 }
    scan := { (s.line l).scan with makeTimer := none } } := State.modLine_line_self _ _ _

theorem State.digitSettled_line : (s.digitSettled l digit).line l = { s.line l with
    dial := { (s.line l).dial.takeDigit digit with
      collection := if s.BlockCompletes l then .done else (s.line l).dial.collection
      complete := if s.BlockCompletes l then true else (s.line l).dial.complete
      interdigit := if s.BlockCompletes l then none
        else if (s.line l).record.dialMode ≠ .each then some (s.params.interdigitS * 1000)
        else (s.line l).dial.interdigit }
    scan := { (s.line l).scan with makeTimer := if s.BlockCompletes l then none else (s.line l).scan.makeTimer }
    call := { (s.line l).call with permanentSignal := some (s.params.permanentSignalS * 1000) } } := by
  unfold State.digitSettled
  by_cases hc : s.BlockCompletes l
  · simp only [if_pos hc]
    rw [State.completeBlock_line, State.digitTaken_line, DialRecord.takeDigit_eq]
  · simp only [if_neg hc]
    by_cases hm : (s.line l).record.dialMode ≠ .each
    · simp only [if_pos hm]
      rw [State.modDial_line_self, State.digitTaken_line, DialRecord.takeDigit_eq]
    · simp only [if_neg hm]
      rw [State.digitTaken_line, DialRecord.takeDigit_eq]

theorem State.digitFormed_eq : s.digitFormed l digit =
    if s.DigitReportable l then (s.digitSettled l digit).markerEvent l else s.digitSettled l digit := by
  have hreceived : (((s.modDial l (DialRecord.takeDigit digit)).startPermanentSignal l).dialOf l).received =
      min 16 ((s.line l).dial.received + 1) := by
    rw [State.dialOf, ← State.digitTaken, State.digitTaken_line, DialRecord.takeDigit_eq]
  unfold State.digitFormed
  simp only [hreceived, decide_eq_true_eq]
  rfl

/-- A digit formed leaves the line as settled, but for what is owed of its marker. -/
theorem State.digitFormed_line : (s.digitFormed l digit).line l = { (s.digitSettled l digit).line l with
    dial := { ((s.digitSettled l digit).line l).dial with
      markerOwed := ((s.digitFormed l digit).line l).dial.markerOwed } } := by
  rw [State.digitFormed_eq]
  split
  · exact State.markerEvent_line _ l
  · rfl

theorem State.digitSettled_othersKept : OthersKept l s (s.digitSettled l digit) := by
  have htaken : OthersKept l s (s.digitTaken l digit) :=
    (s.modLine_othersKept l _).trans (State.modLine_othersKept _ l _)
  unfold State.digitSettled
  split
  · exact htaken.trans (State.modLine_othersKept _ l _)
  · split
    · exact htaken.trans (State.modLine_othersKept _ l _)
    · exact htaken

theorem State.digitSettled_eq : s.digitSettled l digit = { s with lines := (s.digitSettled l digit).lines } := by
  unfold State.digitSettled
  split
  · rfl
  · split <;> rfl

@[simp] theorem State.digitSettled_reports : (s.digitSettled l digit).reports = s.reports := by
  rw [State.digitSettled_eq]

theorem State.digitFormed_othersKept : OthersKept l s (s.digitFormed l digit) := by
  rw [State.digitFormed_eq]
  split
  · exact (s.digitSettled_othersKept l digit).trans (State.markerEvent_othersKept _ l)
  · exact s.digitSettled_othersKept l digit

theorem State.digitFormed_frame : s.digitFormed l digit =
    { s with lines := (s.digitFormed l digit).lines, reports := (s.digitFormed l digit).reports } := by
  rw [State.digitFormed_eq]
  have hsettled := s.digitSettled_eq l digit
  split
  · have hmarker := ((s.digitSettled l digit).markerEvent_dialHeard l).eq
    generalize (s.digitSettled l digit).markerEvent l = u at hmarker ⊢
    rw [hmarker, hsettled]
  · generalize s.digitSettled l digit = u at hsettled ⊢
    rw [hsettled]

theorem State.digitFormed_acted (h : s.DigitReportable l) : MarkerActed l s (s.digitFormed l digit) := by
  rw [State.digitFormed_eq, if_pos h]
  refine State.markerEvent_acted (s.digitSettled_reports l digit) ?_ ?_ <;>
    rw [State.digitSettled_line, DialRecord.takeDigit_eq]

theorem State.digitFormed_silent (h : ¬s.DigitReportable l) : s.digitFormed l digit = s.digitSettled l digit := by
  rw [State.digitFormed_eq, if_neg h]

end Digit

/-! ### MAKE_TIMER_EXPIRY (R100) -/

/-- The state with the line's make timer expired. -/
def State.makeTimed (s : State) (l : LineId) : State := s.modScan l fun c => { c with makeTimer := none }

theorem State.makeTimed_line (s : State) (l : LineId) :
    (s.makeTimed l).line l = { s.line l with scan := { (s.line l).scan with makeTimer := none } } :=
  State.modScan_line_self _ _ _

/-- The collection with a train of 11 pulses discarded, before the error acts on the marker (R100). -/
def State.trainOverlong (s : State) (l : LineId) : State := s.modDial l fun d =>
  { d with pulseCount := 0, errors := { d.errors with tooManyPulses := true } }

section Train

variable {s : State} {l : LineId}

theorem exec_makeTimerExpiry (hm : (s.line l).scan.makeTimer ≠ none) (hc : (s.line l).dial.collection = .opened) :
    exec (.makeTimerExpiry l) s = .next ((s.makeTimed l).trainEnds l) := by
  have hopen : ((s.makeTimed l).dialOf l).collection = .opened := by rw [State.dialOf, State.makeTimed_line]; exact hc
  exact congrArg Host.Outcome.next ((if_neg hm).trans (if_pos hopen))

theorem State.trainEnds_of_none (h : (s.line l).dial.pulseCount = 0) : s.trainEnds l = s := if_pos h

theorem State.trainEnds_of_digit (h1 : 1 ≤ (s.line l).dial.pulseCount) (h2 : (s.line l).dial.pulseCount ≤ 10) :
    s.trainEnds l = s.digitFormed l ((s.line l).dial.pulseCount % 10) := by
  rw [← digitOf_eq h2]
  exact (if_neg (by rw [State.dialOf]; omega)).trans (if_pos h2)

theorem State.trainEnds_of_overlong (h : 10 < (s.line l).dial.pulseCount) :
    s.trainEnds l = (s.trainOverlong l).markerEvent l :=
  (if_neg (by rw [State.dialOf]; omega)).trans (if_neg (by rw [State.dialOf]; omega))

/-- What the end of a train keeps of its line and of the rest, whatever the train says. -/
theorem State.trainEnds_kept (h : (s.line l).scan.makeTimer = none) :
    ((s.trainEnds l).line l).scan = (s.line l).scan ∧ ((s.trainEnds l).line l).dial.pulseCount = 0 ∧
      ((s.trainEnds l).line l).record = (s.line l).record ∧ OthersKept l s (s.trainEnds l) ∧
      s.trainEnds l = { s with lines := (s.trainEnds l).lines, reports := (s.trainEnds l).reports } := by
  rcases Nat.eq_zero_or_pos (s.line l).dial.pulseCount with hz | hpos
  · rw [State.trainEnds_of_none hz]
    exact ⟨rfl, hz, rfl, .refl l s, rfl⟩
  · rcases Nat.lt_or_ge 10 (s.line l).dial.pulseCount with hlong | hdigit
    · rw [State.trainEnds_of_overlong hlong]
      have hheard := (s.modDial_dialHeard l fun d =>
        { d with pulseCount := 0, errors := { d.errors with tooManyPulses := true } }).trans
          (State.markerEvent_dialHeard _ l)
      refine ⟨?_, ?_, ?_, hheard.others, hheard.eq⟩ <;>
        rw [State.markerEvent_line, State.trainOverlong, State.modDial_line_self]
    · rw [State.trainEnds_of_digit hpos hdigit]
      refine ⟨?_, ?_, ?_, s.digitFormed_othersKept l _, s.digitFormed_frame l _⟩ <;>
        rw [State.digitFormed_line, State.digitSettled_line]
      · simp only [h, ite_self]
        rw [← h]
      · rw [DialRecord.takeDigit_eq]

end Train

theorem exec_interdigitTimerExpiry {s : State} {l : LineId} (h : (s.line l).dial.interdigit ≠ none) :
    exec (.interdigitTimerExpiry l) s = .next ((s.completeBlock l).markerEvent l) :=
  congrArg Host.Outcome.next (if_neg h)

/-- The marker's action on a state whose line's dial record is as `s` has it acts on `s`'s. -/
theorem MarkerActed.of_makeTimed {s t : State} {l : LineId} (h : MarkerActed l (s.makeTimed l) t) :
    MarkerActed l s t := by
  obtain ⟨hpending, hqueued, howed⟩ := h
  rw [State.makeTimed_line] at hpending hqueued howed
  exact ⟨hpending, hqueued, howed⟩

/-- Settles O43. -/
theorem trainsAndPausesFormDigits : Obligations.TrainsAndPausesFormDigits := by
  unfold Obligations.TrainsAndPausesFormDigits
  constructor
  · intro l s hm hc
    have hline := s.makeTimed_line l
    have hpulses : ((s.makeTimed l).line l).dial.pulseCount = (s.line l).dial.pulseCount := by rw [hline]
    obtain ⟨hscan, hcount, hrecord, hothers, hframe⟩ :=
      State.trainEnds_kept (s := s.makeTimed l) (l := l) (by rw [hline])
    refine ⟨_, exec_makeTimerExpiry hm hc, ?scan, hcount, fun h1 h2 => ?digit, fun h => ?overlong, ?record,
      (s.modLine_othersKept l _).trans hothers, hframe⟩
    case scan => rw [hscan, hline]
    case record => rw [hrecord, hline]
    case digit =>
      have hends := State.trainEnds_of_digit (s := s.makeTimed l) (l := l) (by omega) (by omega)
      have hsettled := (s.makeTimed l).digitSettled_line l ((s.line l).dial.pulseCount % 10)
      rw [hpulses] at hends
      have hacted := (s.makeTimed l).digitFormed_acted l ((s.line l).dial.pulseCount % 10)
      have hsilent := (s.makeTimed l).digitFormed_silent l ((s.line l).dial.pulseCount % 10)
      have hformed := (s.makeTimed l).digitFormed_line l ((s.line l).dial.pulseCount % 10)
      simp only [State.DigitReportable, State.BlockCompletes, hline, DialRecord.takeDigit_eq] at hsettled hacted hsilent
      rw [hsettled] at hformed
      rw [hends]
      have hreceived : (((s.makeTimed l).digitFormed l ((s.line l).dial.pulseCount % 10)).line l).dial.received =
        min 16 ((s.line l).dial.received + 1) := by rw [hformed]
      rw [hreceived]
      refine ⟨rfl, fun hlen => ?_, fun hlen => ?_, ?_, fun hmode => ?_, fun hmode hfull => ?_, fun hmode hfull => ?_,
        fun hrep => (hacted hrep).of_makeTimed, fun hmode hlen hfull hfirst => ?_⟩
      · rw [hformed]; exact ⟨if_pos hlen, if_pos hlen⟩
      · have hge : ¬(s.line l).dial.digits.length < 16 := by omega
        rw [hformed]; exact ⟨if_neg hge, if_neg hge⟩
      · rw [hformed]; rfl
      · rw [hformed]
        have hno : ¬((s.line l).record.dialMode ≠ .each ∧
          min 16 ((s.line l).dial.received + 1) = (s.line l).record.blockCount) := fun h => h.1 hmode
        exact ⟨(if_neg hno).trans (if_neg (not_not.2 hmode)), (if_neg hno).trans hc⟩
      · rw [hformed]
        simp only [if_pos (And.intro hmode hfull)]
        exact ⟨trivial, trivial, trivial⟩
      · rw [hformed]
        simp only [if_neg (fun h : _ ∧ _ => hfull h.2), if_pos hmode]
        exact ⟨hc, rfl⟩
      · have hno : ¬((s.line l).record.dialMode = .each ∨ 16 ≤ (s.line l).dial.digits.length ∨
            ((s.line l).record.dialMode ≠ .each ∧
              min 16 ((s.line l).dial.received + 1) = (s.line l).record.blockCount) ∨
            ((s.line l).record.dialMode = .firstThenBlock ∧ min 16 ((s.line l).dial.received + 1) = 1)) := by
          rintro (h | h | h | h)
          · exact hmode h
          · omega
          · exact hfull h.2
          · exact hfirst h
        rw [hsilent hno, hsettled]
        exact ⟨State.digitSettled_reports _ _ _, rfl⟩
    case overlong =>
      have hdial : ((s.makeTimed l).line l).dial = (s.line l).dial := by rw [hline]
      have hacted : MarkerActed l s (((s.makeTimed l).trainOverlong l).markerEvent l) :=
        State.markerEvent_acted rfl (by rw [State.trainOverlong, State.modDial_line_self, hdial])
          (by rw [State.trainOverlong, State.modDial_line_self, hdial])
      rw [State.trainEnds_of_overlong (by omega)]
      refine ⟨?_, ?_, ?_, ?_, hacted⟩ <;>
        rw [State.markerEvent_line, State.trainOverlong, State.modDial_line_self, hline]
  · intro l s h
    have hacted : MarkerActed l s ((s.completeBlock l).markerEvent l) :=
      State.markerEvent_acted rfl (by rw [State.completeBlock_line]) (by rw [State.completeBlock_line])
    have hheard := (s.modLine_dialHeard l
      (fun d => { d with collection := .done, complete := true, interdigit := none, pulseCount := 0 })
        fun _ => none).trans (State.markerEvent_dialHeard (s.completeBlock l) l)
    have hline : ((s.completeBlock l).markerEvent l).line l = _ :=
      (State.markerEvent_line _ l).trans (by rw [State.completeBlock_line])
    refine ⟨_, exec_interdigitTimerExpiry h, ?_, ?_, hacted, ?_, ?_, hheard.others, hheard.eq⟩
    · exact congrArg Line.dial hline
    · rw [hline]
    · rw [hline]
    · rw [hline]

end Sys2Proof.Machine
end

section
/-! PROOFS. Lists in order, and the arbiter of the measuring head (R112, R116 to R118). -/

namespace Sys2Proof.Machine

/-! ### Lists in ascending order of a key -/

section InOrder

variable {α : Type} (key : α → Nat)

theorem insertBy_perm (x : α) : ∀ ys, (insertBy key x ys).Perm (x :: ys)
  | [] => .refl _
  | y :: ys => by
    unfold insertBy
    split
    · exact .refl _
    · exact ((insertBy_perm x ys).cons y).trans (.swap x y ys)

theorem insertBy_pairwise (x : α) : ∀ {ys : List α}, ys.Pairwise (fun a b => key a ≤ key b) →
    (insertBy key x ys).Pairwise fun a b => key a ≤ key b
  | [], _ => List.pairwise_singleton _ _
  | y :: ys, h => by
    obtain ⟨hy, hys⟩ := List.pairwise_cons.1 h
    unfold insertBy
    split
    · rename_i hlt
      refine List.pairwise_cons.2 ⟨fun b hb => ?_, h⟩
      rcases List.mem_cons.1 hb with rfl | hb
      · omega
      · have := hy b hb; omega
    · rename_i hge
      refine List.pairwise_cons.2 ⟨fun b hb => ?_, insertBy_pairwise x hys⟩
      rcases List.mem_cons.1 ((insertBy_perm key x ys).mem_iff.1 hb) with rfl | hb
      · omega
      · exact hy b hb

theorem foldl_insertBy_perm : ∀ (xs acc : List α),
    (xs.foldl (fun acc x => insertBy key x acc) acc).Perm (xs ++ acc)
  | [], acc => .refl acc
  | x :: xs, acc => (foldl_insertBy_perm xs _).trans (((insertBy_perm key x acc).append_left xs).trans
      List.perm_middle)

theorem sortBy_perm (xs : List α) : (sortBy key xs).Perm xs := by
  have h := foldl_insertBy_perm key xs []
  rwa [List.append_nil] at h

theorem sortBy_pairwise (xs : List α) : (sortBy key xs).Pairwise fun a b => key a ≤ key b := by
  suffices h : ∀ (xs acc : List α), acc.Pairwise (fun a b => key a ≤ key b) →
      (xs.foldl (fun acc x => insertBy key x acc) acc).Pairwise fun a b => key a ≤ key b from h xs [] .nil
  intro xs
  induction xs with
  | nil => exact fun _ h => h
  | cons x xs ih => exact fun acc h => ih _ (insertBy_pairwise key x h)

/-- The first of a list in order that satisfies a test has the least key of those that do. -/
theorem find?_sortBy_le {p : α → Bool} {xs : List α} {x : α} (h : (sortBy key xs).find? p = some x) :
    x ∈ xs ∧ p x = true ∧ ∀ y ∈ xs, p y = true → key x ≤ key y := by
  obtain ⟨hx, front, back, heq, hfront⟩ := List.find?_eq_some_iff_append.1 h
  refine ⟨(sortBy_perm key xs).mem_iff.1 (List.mem_of_find?_eq_some h), hx, fun y hy hpy => ?_⟩
  have hy' : y ∈ front ++ x :: back := heq ▸ (sortBy_perm key xs).mem_iff.2 hy
  have hsorted := heq ▸ sortBy_pairwise key xs
  rcases List.mem_append.1 hy' with hf | hb
  · have := hfront y hf; rw [hpy] at this; exact absurd this nofun
  · rcases List.mem_cons.1 hb with rfl | hb
    · exact Nat.le_refl _
    · exact (List.pairwise_cons.1 (List.pairwise_append.1 hsorted).2.1).1 y hb

end InOrder

/-! ### The candidates of the arbiter (R112, R117, R118) -/

/-- The rank of a job of a kind (R117); an insulation job's follows its urgency (R116). -/
def MeasurementUnit.rank (m : MeasurementUnit) : JobKind → Nat
  | .originId => 1
  | .answerSide => 3
  | .hostTest => 5
  | .insulation => if m.mustRun then 2 else if 4 ≤ m.backlog then 4 else 6

/-- Whether a job of a kind is runnable on a line (R112). -/
def State.Runnable (s : State) (l : LineId) (k : JobKind) : Prop :=
  if k = .insulation then s.msu.backlog ≠ 0 ∧ s.insulationEligible l = true
  else ∃ j ∈ s.msu.jobs, j.line = l ∧ j.kind = k ∧ (s.line l).relay.phase = .silent

section Arbiter

variable {s : State} {l : LineId} {k : JobKind}

theorem State.runnable_insulation :
    s.Runnable l .insulation ↔ s.msu.backlog ≠ 0 ∧ s.insulationEligible l = true := iff_of_eq (if_pos rfl)

theorem State.runnable_entry (h : k ≠ .insulation) :
    s.Runnable l k ↔ ∃ j ∈ s.msu.jobs, j.line = l ∧ j.kind = k ∧ (s.line l).relay.phase = .silent :=
  iff_of_eq (if_neg h)

theorem State.insulationEligible_iff : s.insulationEligible l = true ↔
    s.callState l = .idle ∧ (∀ j ∈ s.msu.jobs, j.line ≠ l) ∧ (s.line l).relay.phase = .silent := by
  simp [State.insulationEligible, and_assoc]

/-- The runnable jobs are those of `runnableJobs`, with their ranks. -/
theorem State.mem_runnableJobs (s : State) (e : Nat × LineId × JobKind) :
    e ∈ s.runnableJobs ↔ e.1 = s.msu.rank e.2.2 ∧ s.Runnable e.2.1 e.2.2 := by
  have hparts : e.1 = s.msu.rank e.2.2 ∧ s.Runnable e.2.1 e.2.2 ↔
      (e.2.2 ≠ .insulation ∧ e.1 = s.msu.rank e.2.2 ∧ s.Runnable e.2.1 e.2.2) ∨
        (e.2.2 = .insulation ∧ e.1 = s.msu.rank e.2.2 ∧ s.Runnable e.2.1 e.2.2) := by
    by_cases hk : e.2.2 = .insulation
    · simp only [hk, ne_eq, not_true_eq_false, false_and, true_and, false_or]
    · simp only [hk, ne_eq, not_false_eq_true, true_and, false_and, or_false]
  rw [State.runnableJobs, List.mem_append, hparts]
  refine or_congr ?entries ?insulation
  case entries =>
    rw [List.mem_filterMap]
    constructor
    · rintro ⟨j, hj, he⟩
      obtain ⟨hmem, hsilent⟩ := List.mem_filter.1 hj
      have hsilent := of_decide_eq_true hsilent
      have hrun (hk : j.kind ≠ .insulation) : s.Runnable j.line j.kind :=
        (State.runnable_entry hk).2 ⟨j, hmem, rfl, rfl, hsilent⟩
      cases hk : j.kind with
      | insulation => rw [hk] at he; cases he
      | _ =>
        rw [hk] at he hrun
        obtain rfl := Option.some.inj he
        exact ⟨nofun, rfl, hrun nofun⟩
    · rintro ⟨hk, hn, hrun⟩
      obtain ⟨n, l, k⟩ := e
      obtain rfl : n = s.msu.rank k := hn
      obtain ⟨j, hmem, rfl, rfl, hsilent⟩ := (State.runnable_entry hk).1 hrun
      refine ⟨j, List.mem_filter.2 ⟨hmem, decide_eq_true hsilent⟩, ?_⟩
      cases hkind : j.kind with
      | insulation => exact absurd hkind hk
      | _ => rfl
  case insulation =>
    by_cases hb : s.msu.backlog = 0
    · rw [if_pos hb]
      refine iff_of_false List.not_mem_nil ?_
      rintro ⟨hk, -, hrun⟩
      rw [hk] at hrun
      exact (State.runnable_insulation.1 hrun).1 hb
    · rw [if_neg hb, List.mem_map]
      constructor
      · rintro ⟨m, hm, rfl⟩
        have hm := (List.mem_filter.1 hm).2
        simp only [Bool.and_eq_true, decide_eq_true_eq, List.all_eq_true] at hm
        obtain ⟨⟨hidle, hsilent⟩, hjobs⟩ := hm
        exact ⟨rfl, rfl, State.runnable_insulation.2 ⟨hb, State.insulationEligible_iff.2 ⟨hidle, hjobs, hsilent⟩⟩⟩
      · obtain ⟨n, l, k⟩ := e
        rintro ⟨hk, hn, hrun⟩
        obtain rfl : k = .insulation := hk
        obtain rfl : n = s.msu.rank .insulation := hn
        obtain ⟨hidle, hjobs, hsilent⟩ := State.insulationEligible_iff.1 (State.runnable_insulation.1 hrun).2
        refine ⟨l, List.mem_filter.2 ⟨mem_allLines l, ?_⟩, rfl⟩
        simp only [Bool.and_eq_true, decide_eq_true_eq, List.all_eq_true]
        exact ⟨⟨hidle, hsilent⟩, hjobs⟩

/-- The arbiter's candidate of a kind: the oldest entry of it, or the insulation job the pointer finds. -/
def State.candidate (s : State) (k : JobKind) : Option (LineId × JobKind) :=
  if k = .insulation then (if s.msu.backlog = 0 then none else s.insulationLine.map fun l => (l, .insulation))
  else s.entryChoice k

/-- The kinds in the order of their ranks (R117). -/
def MeasurementUnit.order (m : MeasurementUnit) : List JobKind :=
  if m.mustRun then [.originId, .insulation, .answerSide, .hostTest]
  else if 4 ≤ m.backlog then [.originId, .answerSide, .insulation, .hostTest]
  else [.originId, .answerSide, .hostTest, .insulation]

theorem State.candidate_entry {k : JobKind} (hk : k ≠ .insulation) : s.candidate k = s.entryChoice k := if_neg hk

theorem State.candidate_insulation_of_none (h : s.msu.backlog = 0) : s.candidate .insulation = none := if_pos h

theorem State.candidate_insulation (h : s.msu.backlog ≠ 0) :
    s.candidate .insulation = s.insulationLine.map fun l => (l, .insulation) := if_neg h

theorem State.insulationChoice_of_urgency {u : Urgency} (h : s.msu.urgency = some u) :
    s.insulationChoice u = s.candidate .insulation := by
  have hb : s.msu.backlog ≠ 0 := fun hb => by rw [MeasurementUnit.urgency, if_pos hb] at h; exact absurd h nofun
  rw [State.candidate_insulation hb, State.insulationChoice, if_pos h]

theorem State.insulationChoice_of_other {u : Urgency} (h : s.msu.urgency ≠ some u) :
    s.insulationChoice u = none := if_neg h

theorem findSome?_cons_or {α β : Type} (f : α → Option β) (a : α) (xs : List α) :
    (a :: xs).findSome? f = (f a).or (xs.findSome? f) := by
  rw [List.findSome?_cons]
  cases f a <;> rfl

/-- The insulation job stands in the order where its urgency puts it, and is no candidate with an empty backlog. -/
theorem State.insulationChoices (s : State) :
    (s.insulationChoice .must = if s.msu.mustRun then s.candidate .insulation else none) ∧
    (s.insulationChoice .need =
      if s.msu.mustRun = false ∧ 4 ≤ s.msu.backlog then s.candidate .insulation else none) ∧
    (s.insulationChoice .may =
      if s.msu.mustRun = false ∧ ¬4 ≤ s.msu.backlog then s.candidate .insulation else none) := by
  by_cases hb : s.msu.backlog = 0
  · have hu : s.msu.urgency = none := if_pos hb
    have hnone (u : Urgency) : s.insulationChoice u = none := State.insulationChoice_of_other (by rw [hu]; nofun)
    simp only [hnone, State.candidate_insulation_of_none hb, ite_self, and_self]
  · have hchoice (u v : Urgency) (hu : s.msu.urgency = some u) :
        s.insulationChoice v = if u = v then s.candidate .insulation else none := by
      split
      · rename_i he; exact State.insulationChoice_of_urgency (hu.trans (congrArg some he))
      · rename_i hne; exact State.insulationChoice_of_other fun h => hne (Option.some.inj (hu.symm.trans h))
    cases hm : s.msu.mustRun with
    | true =>
      have hu : s.msu.urgency = some .must := (if_neg hb).trans (if_pos hm)
      simp [hchoice _ _ hu]
    | false =>
      have hm' : ¬s.msu.mustRun = true := by rw [hm]; exact Bool.false_ne_true
      by_cases hfew : s.msu.backlog ≤ 3
      · have hu : s.msu.urgency = some .may := (if_neg hb).trans ((if_neg hm').trans (if_pos hfew))
        have h4 : ¬4 ≤ s.msu.backlog := by omega
        simp [hchoice _ _ hu, h4]
      · have hu : s.msu.urgency = some .need := (if_neg hb).trans ((if_neg hm').trans (if_neg hfew))
        have h4 : 4 ≤ s.msu.backlog := by omega
        simp [hchoice _ _ hu, h4]

/-- The arbiter's choice is the first candidate in the order of the ranks (R117). -/
theorem State.chooseJob_eq (s : State) : s.chooseJob = s.msu.order.findSome? s.candidate := by
  have horigin : s.entryChoice .originId = s.candidate .originId := (State.candidate_entry (by nofun)).symm
  have hanswer : s.entryChoice .answerSide = s.candidate .answerSide := (State.candidate_entry (by nofun)).symm
  have hhost : s.entryChoice .hostTest = s.candidate .hostTest := (State.candidate_entry (by nofun)).symm
  obtain ⟨hmust, hneed, hmay⟩ := s.insulationChoices
  rw [State.chooseJob, MeasurementUnit.order, horigin, hanswer, hhost, hmust, hneed, hmay]
  cases s.msu.mustRun with
  | true => simp [findSome?_cons_or]
  | false => by_cases h4 : 4 ≤ s.msu.backlog <;> simp [findSome?_cons_or, h4]

theorem MeasurementUnit.mem_order (m : MeasurementUnit) (k : JobKind) : k ∈ m.order := by
  unfold MeasurementUnit.order
  split
  · cases k <;> decide
  · split <;> cases k <;> decide

theorem MeasurementUnit.order_pairwise (m : MeasurementUnit) :
    m.order.Pairwise fun k k' => m.rank k ≤ m.rank k' := by
  unfold MeasurementUnit.order
  split
  · rename_i hm
    simp [MeasurementUnit.rank, hm]
  · rename_i hm
    split
    · rename_i h4; simp [MeasurementUnit.rank, hm, h4]
    · rename_i h4; simp [MeasurementUnit.rank, hm, h4]

theorem State.insulationLine_eq_none_iff : s.insulationLine = none ↔ ∀ l, s.insulationEligible l ≠ true := by
  rw [State.insulationLine, List.find?_eq_none]
  refine ⟨fun h l => ?_, fun h l _ => h l⟩
  refine h l (List.mem_map.2 ⟨(l - s.msu.pointer).val, List.mem_range.2 (l - s.msu.pointer).isLt, ?_⟩)
  rw [Fin.ofNat_eq_cast, Fin.cast_val_eq_self, add_sub_cancel]

/-- The pointer's search finds the first eligible line from the pointer on (R118). -/
theorem State.insulationLine_first (h : s.insulationLine = some l) : s.insulationEligible l = true ∧
    ∀ m, s.insulationEligible m = true → (l - s.msu.pointer).val ≤ (m - s.msu.pointer).val := by
  refine ⟨List.find?_some h, fun m hm => ?_⟩
  rw [State.insulationLine, List.find?_map] at h
  obtain ⟨i, hi, rfl⟩ := Option.map_eq_some_iff.1 h
  obtain ⟨-, hmem, hfirst⟩ := List.find?_range_eq_some.1 hi
  have hi16 : i < 16 := List.mem_range.1 hmem
  have hval : (s.msu.pointer + Fin.ofNat 16 i - s.msu.pointer).val = i := by
    rw [add_sub_cancel_left]; exact Nat.mod_eq_of_lt hi16
  rw [hval]
  by_contra hlt
  have hback : s.msu.pointer + Fin.ofNat 16 (m - s.msu.pointer).val = m := by
    rw [Fin.ofNat_eq_cast, Fin.cast_val_eq_self, add_sub_cancel]
  have hnot := hfirst _ (Nat.lt_of_not_le hlt)
  rw [Function.comp_apply, hback, hm] at hnot
  exact absurd hnot nofun

/-- A candidate is a runnable job of its kind. -/
theorem State.candidate_runnable {c : LineId × JobKind} (h : s.candidate k = some c) :
    c.2 = k ∧ s.Runnable c.1 c.2 := by
  by_cases hk : k = .insulation
  · subst hk
    by_cases hb : s.msu.backlog = 0
    · rw [State.candidate_insulation_of_none hb] at h; cases h
    · rw [State.candidate_insulation hb] at h
      obtain ⟨l, hl, rfl⟩ := Option.map_eq_some_iff.1 h
      exact ⟨rfl, State.runnable_insulation.2 ⟨hb, (State.insulationLine_first hl).1⟩⟩
  · rw [State.candidate_entry hk] at h
    obtain ⟨j, hj, rfl⟩ := Option.map_eq_some_iff.1 h
    obtain ⟨hmem, htest, -⟩ := find?_sortBy_le _ hj
    simp only [Bool.and_eq_true, decide_eq_true_eq] at htest
    obtain ⟨hkind, hsilent⟩ := htest
    exact ⟨rfl, (State.runnable_entry hk).2 ⟨j, hmem, rfl, hkind, hsilent⟩⟩

/-- A runnable job's kind has a candidate. -/
theorem State.candidate_ne_none (h : s.Runnable l k) : s.candidate k ≠ none := by
  by_cases hk : k = .insulation
  · subst hk
    obtain ⟨hb, he⟩ := State.runnable_insulation.1 h
    rw [State.candidate_insulation hb, ne_eq, Option.map_eq_none_iff, State.insulationLine_eq_none_iff]
    exact fun hnone => hnone l he
  · obtain ⟨j, hmem, rfl, hkind, hsilent⟩ := (State.runnable_entry hk).1 h
    rw [State.candidate_entry hk, ne_eq, State.entryChoice, Option.map_eq_none_iff, State.firstEntry,
      List.find?_eq_none]
    exact fun hnone => hnone j ((sortBy_perm _ _).mem_iff.2 hmem) (by simp [hkind, hsilent])

/-- The arbiter chooses a runnable job of the highest rank (R117). -/
theorem State.chooseJob_some (h : s.chooseJob = some (l, k)) :
    s.candidate k = some (l, k) ∧ s.Runnable l k ∧ ∀ m k', s.Runnable m k' → s.msu.rank k ≤ s.msu.rank k' := by
  rw [State.chooseJob_eq, List.findSome?_eq_some_iff] at h
  obtain ⟨front, kind, back, horder, hcand, hfront⟩ := h
  obtain ⟨rfl, hrun⟩ := State.candidate_runnable hcand
  refine ⟨hcand, hrun, fun m k' hk' => ?_⟩
  have hmem : k' ∈ front ++ k :: back := horder ▸ s.msu.mem_order k'
  have hsorted := horder ▸ s.msu.order_pairwise
  rcases List.mem_append.1 hmem with hf | hb
  · exact absurd (hfront k' hf) (State.candidate_ne_none hk')
  · rcases List.mem_cons.1 hb with rfl | hb
    · exact Nat.le_refl _
    · exact (List.pairwise_cons.1 (List.pairwise_append.1 hsorted).2.1).1 k' hb

theorem State.chooseJob_eq_none_iff : s.chooseJob = none ↔ s.runnableJobs = [] := by
  rw [State.chooseJob_eq, List.findSome?_eq_none_iff, List.eq_nil_iff_forall_not_mem]
  constructor
  · intro h e he
    exact State.candidate_ne_none ((s.mem_runnableJobs e).1 he).2 (h _ (s.msu.mem_order _))
  · intro h k _
    cases hc : s.candidate k with
    | none => rfl
    | some c =>
      obtain ⟨rfl, hrun⟩ := State.candidate_runnable hc
      exact absurd ((s.mem_runnableJobs (s.msu.rank c.2, c.1, c.2)).2 ⟨rfl, hrun⟩) (h _)

theorem State.arbitrate_of_none (hc : s.chooseJob = none) : s.arbitrate = s := by
  unfold State.arbitrate
  cases s.msu.running with
  | some r => rfl
  | none => simp only [hc]

theorem State.arbitrate_of_chosen (hfree : s.msu.running = none) (hc : s.chooseJob = some (l, k)) :
    s.arbitrate = { s with msu := s.msu.start l k } := by
  simp only [State.arbitrate, hfree, hc]

end Arbiter

/-- Settles O49. -/
theorem arbiterStartsTheHighestRankedJob : Obligations.ArbiterStartsTheHighestRankedJob := by
  unfold Obligations.ArbiterStartsTheHighestRankedJob
  intro s hfree
  refine ⟨fun hnone => State.arbitrate_of_none (State.chooseJob_eq_none_iff.2 hnone), fun hsome => ?_,
    s.arbitrate_eq⟩
  have hne : s.chooseJob ≠ none := fun h => hsome (State.chooseJob_eq_none_iff.1 h)
  obtain ⟨⟨l, k⟩, hc⟩ := Option.ne_none_iff_exists'.1 hne
  obtain ⟨hcand, hrun, hbest⟩ := State.chooseJob_some hc
  rw [State.arbitrate_of_chosen hfree hc]
  refine ⟨⟨l, k, jobMs k, s.msu.startCount⟩, rfl, ⟨(s.msu.rank k, l, k), (s.mem_runnableJobs _).2 ⟨rfl, hrun⟩, rfl,
    fun f hf => ?_⟩, rfl, rfl, ?timer, fun hk => ⟨if_neg hk, ?entry⟩, fun hk => ⟨if_pos hk, fun f hf hfk => ?pointer⟩⟩
  · obtain ⟨hrank, hfrun⟩ := (s.mem_runnableJobs f).1 hf
    rw [hrank]
    exact hbest _ _ hfrun
  case timer => cases k <;> rfl
  case entry =>
    rw [State.candidate_entry hk] at hcand
    obtain ⟨j, hj, he⟩ := Option.map_eq_some_iff.1 hcand
    obtain ⟨hmem, htest, hleast⟩ := find?_sortBy_le _ hj
    obtain ⟨rfl, -⟩ := Prod.mk.inj he
    simp only [Bool.and_eq_true, decide_eq_true_eq] at htest
    exact ⟨j, hmem, rfl, htest.1, fun i hi hik hsilent => hleast i hi (by simp [hik, hsilent])⟩
  case pointer =>
    obtain rfl : k = .insulation := hk
    obtain ⟨hb, he⟩ := State.runnable_insulation.1 (hfk ▸ ((s.mem_runnableJobs f).1 hf).2)
    rw [State.candidate_insulation hb] at hcand
    obtain ⟨m, hm, hml⟩ := Option.map_eq_some_iff.1 hcand
    obtain ⟨rfl, -⟩ := Prod.mk.inj hml
    exact (State.insulationLine_first hm).2 _ he

end Sys2Proof.Machine
end

section
/-! PROOFS. The laws of one line's call (R5, R35, R92 to R105, R130, R147, R156) and of the job list (R110 to R117), each
as a law of its own that the operations of the blocks keep. -/

namespace Sys2Proof.Machine

/-! ### The laws of one line -/

/-- The kind of assignment a line has in a call state (R34, R35). -/
def CallState.ringKind : CallState → Option AssignmentKind
  | .ringing => some .plain
  | .revertRinging => some .revert
  | _ => none

/-- The kind of a line's assignment. -/
def Line.ringKind (x : Line) : Option AssignmentKind := x.asg.map Assignment.kind

/-- Whether a call state is one of a reverting call. -/
abbrev CallState.Reverting (st : CallState) : Prop := st = .revertHold ∨ st = .revertRinging ∨ st = .revertCheck

/-- A line's dial reception record is one of a line in the call state `st` (`DialLaw`). -/
structure DialFits (st : CallState) (x : Line) : Prop where
  pulses : x.dial.pulseCount ≤ 11
  received : x.dial.received ≤ 16
  queue : x.dial.digits.length ≤ 16
  digits : ∀ d ∈ x.dial.digits, d ≤ 9
  collection : x.dial.collection ≠ .off ↔ st = .originating
  makeTimer : x.scan.makeTimer ≠ none → x.dial.collection = .opened
  interdigit : x.dial.interdigit ≠ none → x.dial.collection = .opened

/-- A line's call control record is one of a line in the call state `st` (`CallLaw`). -/
structure CallFits (st : CallState) (x : Line) : Prop where
  unequipped : st = .unequipped ↔ x.record.parties = []
  ringingParty : x.call.ringingParty ≠ none ↔ st = .ringing
  pending : x.call.originationPending = true → st = .originating
  permanentSignal : x.call.permanentSignal ≠ none ↔ st = .originating
  revertHold : x.call.revertHold ≠ none → st = .revertHold
  called : x.call.called ≠ none ↔ st.Reverting
  earlyPickups : x.record.earlyPickups ≤ 3 ∧ (st.Reverting → x.record.earlyPickups ≤ 2)
  notFaulted : x.record.condition = .faulted → st ≠ .ringing ∧ st ≠ .revertHold ∧ st ≠ .revertRinging ∧
    st ≠ .revertCheck

/-- A line's records are those of a line in the call state `st`. -/
structure LineFits (st : CallState) (x : Line) : Prop where
  ring : x.ringKind = st.ringKind
  scanner : ScannerLaw x
  dial : DialFits st x
  call : CallFits st x

/-- A line's records are those of its call state. -/
abbrev LineLaws (x : Line) : Prop := LineFits x.record.callState x

theorem CallState.ringKind_eq_some_iff (st : CallState) (k : AssignmentKind) :
    st.ringKind = some k ↔ (st = .ringing ∧ k = .plain) ∨ (st = .revertRinging ∧ k = .revert) := by
  cases st <;> cases k <;> simp [CallState.ringKind]

theorem CallState.ringKind_eq_none_iff (st : CallState) :
    st.ringKind = none ↔ st ≠ .ringing ∧ st ≠ .revertRinging := by
  cases st <;> simp [CallState.ringKind]

theorem Line.ringKind_of_asg {x : Line} {a : Assignment} (h : x.asg = some a) : x.ringKind = some a.kind := by
  rw [Line.ringKind, h]; rfl

theorem Line.ringKind_of_none {x : Line} (h : x.asg = none) : x.ringKind = none := by
  rw [Line.ringKind, h]; rfl

theorem CallLaws.line {s : State} (h : CallLaws s) (l : LineId) : LineLaws (s.line l) where
  ring := by
    have hwhile := h.assignments.while_ringing l
    have hkinds := h.assignments.kinds l
    rw [State.callState] at hwhile hkinds
    cases hasg : (s.line l).asg with
    | none =>
      rw [hasg] at hwhile
      rw [Line.ringKind_of_none hasg, eq_comm, CallState.ringKind_eq_none_iff]
      exact ⟨fun h => absurd (hwhile.2 (.inl h)) nofun, fun h => absurd (hwhile.2 (.inr h)) nofun⟩
    | some a =>
      have hk := hkinds a hasg
      rw [hasg] at hwhile
      rw [Line.ringKind_of_asg hasg, eq_comm, CallState.ringKind_eq_some_iff]
      rcases hwhile.1 rfl with hst | hst
      · exact .inl ⟨hst, hk.2 hst⟩
      · refine .inr ⟨hst, ?_⟩
        cases ha : a.kind with
        | plain => exact absurd ((hk.1 ha).symm.trans hst) nofun
        | revert => rfl
  scanner := h.scanner l
  dial := by
    obtain ⟨hp, hr, hq, hd, hc, hm, hi⟩ := h.dial l
    exact ⟨hp, hr, hq, hd, hc, hm, hi⟩
  call := by
    obtain ⟨hu, hr, hp, hs, hh, hc, he, hf⟩ := h.call l
    exact ⟨hu, hr, hp, hs, hh, hc, he, hf⟩

/-- A line that fits its call state has an assignment exactly while it rings, of the kind its state asks for. -/
theorem LineFits.asg_isSome {st : CallState} {x : Line} (h : LineFits st x) :
    x.asg.isSome = true ↔ (st = .ringing ∨ st = .revertRinging) := by
  have hring := h.ring
  cases hasg : x.asg with
  | none =>
    rw [Line.ringKind_of_none hasg, eq_comm, CallState.ringKind_eq_none_iff] at hring
    exact iff_of_false nofun fun h => h.elim hring.1 hring.2
  | some a =>
    rw [Line.ringKind_of_asg hasg, eq_comm, CallState.ringKind_eq_some_iff] at hring
    exact iff_of_true rfl (hring.imp And.left And.left)

theorem LineFits.asg_kind {st : CallState} {x : Line} (h : LineFits st x) {a : Assignment} (ha : x.asg = some a) :
    (a.kind = .plain ↔ st = .ringing) := by
  have hring := h.ring
  rw [Line.ringKind_of_asg ha, eq_comm, CallState.ringKind_eq_some_iff] at hring
  rcases hring with ⟨rfl, hk⟩ | ⟨rfl, hk⟩
  · exact iff_of_true hk rfl
  · rw [hk]; exact iff_of_false nofun nofun

/-! ### The job list (R110 to R113, R115, R116) -/

/-- The job list, the head and the backlog, but for the arbiter's choice: the clauses of `JobLaw` before its last. -/
structure JobBook (s : State) : Prop where
  onePerLine : (s.msu.jobs.map JobEntry.line).Nodup
  arrivals : (s.msu.jobs.map JobEntry.arrival).Pairwise (· < ·)
  counted : ∀ j ∈ s.msu.jobs, j.arrival < s.msu.arrivalCount
  numbered : ∀ r ∈ s.msu.running, r.number < s.msu.startCount
  entries : ∀ j ∈ s.msu.jobs, j.kind ≠ .insulation ∧ s.callState j.line = j.kind.state
  running : ∀ r ∈ s.msu.running, s.callState r.line = r.kind.state ∧ (s.line r.line).relay.phase = .silent
  listed : ∀ r ∈ s.msu.running, r.kind ≠ .insulation → ∃ j ∈ s.msu.jobs, j.line = r.line ∧ j.kind = r.kind
  spends : ∀ r ∈ s.msu.running, r.kind = .insulation → 1 ≤ s.msu.backlog
  backlog : s.msu.backlog ≤ 15
  mustSet : 12 ≤ s.msu.backlog → s.msu.mustRun = true
  mustHeld : s.msu.mustRun = true → 9 ≤ s.msu.backlog

theorem JobLaw.book {s : State} (h : JobLaw s) : JobBook s := by
  obtain ⟨h1, h2, h3, h4, h5, h6, h7, h8, h9, h10, h11, -⟩ := h
  exact ⟨h1, h2, h3, h4, h5, h6, h7, h8, h9, h10, h11⟩

theorem JobBook.law {s : State} (h : JobBook s) (hchosen : s.msu.running = none → s.runnableJobs = []) : JobLaw s := by
  obtain ⟨h1, h2, h3, h4, h5, h6, h7, h8, h9, h10, h11⟩ := h
  exact ⟨h1, h2, h3, h4, h5, h6, h7, h8, h9, h10, h11, hchosen⟩

theorem callLaws_of_lines {s : State} (h : ∀ l, LineLaws (s.line l)) (hjobs : JobLaw s) : CallLaws s where
  assignments := ⟨fun l => (h l).asg_isSome, fun l _ ha => (h l).asg_kind ha⟩
  jobs := hjobs
  scanner l := (h l).scanner
  dial l := by
    obtain ⟨hp, hr, hq, hd, hc, hm, hi⟩ := (h l).dial
    exact ⟨hp, hr, hq, hd, hc, hm, hi⟩
  call l := by
    obtain ⟨hu, hr, hp, hs, hh, hc, he, hf⟩ := (h l).call
    exact ⟨hu, hr, hp, hs, hh, hc, he, hf⟩

/-- A line with neither an entry in the job list nor the head. -/
structure Unjobbed (m : MeasurementUnit) (l : LineId) : Prop where
  jobs : ∀ j ∈ m.jobs, j.line ≠ l
  head : ∀ r ∈ m.running, r.line ≠ l

section Book

variable {s t : State} {l : LineId}

/-- A line in a call state that no job serves has none. -/
theorem JobBook.unjobbed (h : JobBook s) (hidle : s.callState l ≠ .idle) (horig : s.callState l ≠ .originating)
    (hcheck : s.callState l ≠ .revertCheck) : Unjobbed s.msu l := by
  have hkind (k : JobKind) (hk : s.callState l = k.state) : False := by
    cases k with
    | originId => exact horig hk
    | answerSide => exact hcheck hk
    | hostTest => exact hidle hk
    | insulation => exact hidle hk
  constructor
  · rintro j hj rfl
    exact hkind _ (h.entries j hj).2
  · rintro r hr rfl
    exact hkind _ (h.running r hr).1

theorem Unjobbed.of_dropped (m : MeasurementUnit) (l : LineId) : Unjobbed (m.dropJobs l) l where
  jobs j hj := by simpa using (List.mem_filter.1 hj).2
  head := MeasurementUnit.dropJobs_head

/-- A line's jobs stand through a change: it stays in its call state, and SILENT if it was, or it has none. -/
def JobsStand (s t : State) (l : LineId) : Prop :=
  (t.callState l = s.callState l ∧ ((s.line l).relay.phase = .silent → (t.line l).relay.phase = .silent)) ∨
    Unjobbed s.msu l

/-- The job list stands while every line with a job stays as it is. -/
theorem JobBook.of_stand (h : JobBook s) (hmsu : t.msu = s.msu) (hstand : ∀ l, JobsStand s t l) : JobBook t := by
  obtain ⟨h1, h2, h3, h4, h5, h6, h7, h8, h9, h10, h11⟩ := h
  rw [← hmsu] at h1 h2 h3 h4 h5 h6 h7 h8 h9 h10 h11
  refine ⟨h1, h2, h3, h4, fun j hj => ?_, fun r hr => ?_, h7, h8, h9, h10, h11⟩
  · obtain ⟨hk, hst⟩ := h5 j hj
    rcases hstand j.line with ⟨he, -⟩ | hno
    · exact ⟨hk, he.trans hst⟩
    · exact absurd rfl (hno.jobs j (hmsu ▸ hj))
  · obtain ⟨hst, hphase⟩ := h6 r hr
    rcases hstand r.line with ⟨he, hs⟩ | hno
    · exact ⟨he.trans hst, hs hphase⟩
    · exact absurd rfl (hno.head r (hmsu ▸ hr))

theorem JobsStand.of_line (h : t.line l = s.line l) : JobsStand s t l :=
  .inl ⟨by rw [State.callState, h]; rfl, by rw [h]; exact id⟩

/-- Only one line changes, and it has no job. -/
theorem JobBook.of_line (h : JobBook s) (hmsu : t.msu = s.msu) (hothers : OthersKept l s t)
    (hl : JobsStand s t l) : JobBook t :=
  h.of_stand hmsu fun m => if e : m = l then e ▸ hl else .of_line (hothers m e)

/-- A line's jobs leave the unit (R113). -/
theorem JobBook.dropJobs (h : JobBook s) (l : LineId) : JobBook { s with msu := s.msu.dropJobs l } where
  onePerLine := (List.filter_sublist.map _).nodup h.onePerLine
  arrivals := h.arrivals.sublist (List.filter_sublist.map _)
  counted j hj := h.counted j (List.mem_of_mem_filter hj)
  numbered r hr := h.numbered r (Option.mem_filter_iff.1 hr).1
  entries j hj := h.entries j (List.mem_of_mem_filter hj)
  running r hr := h.running r (Option.mem_filter_iff.1 hr).1
  listed r hr hk := by
    obtain ⟨hr, hne⟩ := Option.mem_filter_iff.1 hr
    obtain ⟨j, hj, hl, hkind⟩ := h.listed r hr hk
    exact ⟨j, List.mem_filter.2 ⟨hj, by rw [hl]; exact hne⟩, hl, hkind⟩
  spends r hr := h.spends r (Option.mem_filter_iff.1 hr).1
  backlog := h.backlog
  mustSet := h.mustSet
  mustHeld := h.mustHeld

/-- A line's jobs are dropped and it changes as it will (R113). -/
theorem JobBook.of_dropped (h : JobBook s) (hmsu : t.msu = s.msu.dropJobs l) (hothers : OthersKept l s t) :
    JobBook t :=
  JobBook.of_line (l := l) (h.dropJobs l) hmsu hothers (.inr (.of_dropped s.msu l))

/-- A job is requested on a line that has no entry in the list and is in the job's state (R111). -/
theorem JobBook.requestJob (h : JobBook s) {k : JobKind} (hfree : ∀ j ∈ s.msu.jobs, j.line ≠ l)
    (hk : k ≠ .insulation) (hst : s.callState l = k.state) : JobBook (s.requestJob l k) where
  onePerLine := by
    rw [State.requestJob_jobs, List.map_append, List.nodup_append]
    refine ⟨h.onePerLine, List.nodup_singleton _, fun m hm n hn => ?_⟩
    obtain ⟨j, hj, rfl⟩ := List.mem_map.1 hm
    obtain rfl := List.mem_singleton.1 hn
    exact hfree j hj
  arrivals := by
    rw [State.requestJob_jobs, List.map_append, List.pairwise_append]
    refine ⟨h.arrivals, List.pairwise_singleton _ _, fun m hm n hn => ?_⟩
    obtain ⟨j, hj, rfl⟩ := List.mem_map.1 hm
    obtain rfl := List.mem_singleton.1 hn
    exact h.counted j hj
  counted j hj := by
    rcases List.mem_append.1 hj with hj | hj
    · exact Nat.lt_succ_of_lt (h.counted j hj)
    · obtain rfl := List.mem_singleton.1 hj
      exact Nat.lt_succ_self _
  numbered := h.numbered
  entries j hj := by
    rcases List.mem_append.1 hj with hj | hj
    · exact h.entries j hj
    · obtain rfl := List.mem_singleton.1 hj
      exact ⟨hk, hst⟩
  running := h.running
  listed r hr hkind := by
    obtain ⟨j, hj, he⟩ := h.listed r hr hkind
    exact ⟨j, List.mem_append_left _ hj, he⟩
  spends := h.spends
  backlog := h.backlog
  mustSet := h.mustSet
  mustHeld := h.mustHeld

/-- A completed job leaves the head and its entry the list (R119). -/
theorem JobBook.releaseHead (h : JobBook s) (l : LineId) : JobBook (s.releaseHead l) where
  onePerLine := (List.filter_sublist.map _).nodup h.onePerLine
  arrivals := h.arrivals.sublist (List.filter_sublist.map _)
  counted j hj := h.counted j (List.mem_of_mem_filter hj)
  numbered := nofun
  entries j hj := h.entries j (List.mem_of_mem_filter hj)
  running := nofun
  listed := nofun
  spends := nofun
  backlog := h.backlog
  mustSet := h.mustSet
  mustHeld := h.mustHeld

/-- With the arbiter's choice the job list is complete: the head is free only while no job is runnable (R117). -/
theorem JobBook.arbitrate (h : JobBook s) : JobLaw s.arbitrate := by
  cases hfree : s.msu.running with
  | some r =>
    rw [State.arbitrate_busy s (by rw [hfree]; nofun)]
    exact h.law fun hnone => absurd (hnone.symm.trans hfree) nofun
  | none =>
    cases hc : s.chooseJob with
    | none =>
      rw [State.arbitrate_of_none hc]
      exact h.law fun _ => State.chooseJob_eq_none_iff.1 hc
    | some c =>
      obtain ⟨l, k⟩ := c
      obtain ⟨-, hrun, -⟩ := State.chooseJob_some hc
      rw [State.arbitrate_of_chosen hfree hc]
      obtain ⟨h1, h2, h3, -, h5, -, -, -, h9, h10, h11⟩ := h
      refine JobBook.law ⟨h1, h2, h3, ?_, h5, ?_, ?_, ?_, h9, h10, h11⟩ nofun
      · rintro r ⟨⟩; exact Nat.lt_succ_self _
      · rintro r ⟨⟩
        by_cases hk : k = .insulation
        · subst hk
          obtain ⟨hidle, -, hsilent⟩ := State.insulationEligible_iff.1 (State.runnable_insulation.1 hrun).2
          exact ⟨hidle, hsilent⟩
        · obtain ⟨j, hj, rfl, rfl, hsilent⟩ := (State.runnable_entry hk).1 hrun
          exact ⟨(h5 j hj).2, hsilent⟩
      · rintro r ⟨⟩ hk
        obtain ⟨j, hj, hl, hkind, -⟩ := (State.runnable_entry hk).1 hrun
        exact ⟨j, hj, hl, hkind⟩
      · rintro r ⟨⟩ hk
        obtain rfl : k = .insulation := hk
        exact Nat.pos_of_ne_zero (State.runnable_insulation.1 hrun).1

/-! ### The laws of all calls after an event -/

/-- No job becomes runnable: the unit stands, and no line becomes SILENT or IDLE. -/
theorem runnableJobs_of_fewer (h : s.runnableJobs = []) (hmsu : t.msu = s.msu)
    (hsilent : ∀ l, (t.line l).relay.phase = .silent → (s.line l).relay.phase = .silent)
    (hidle : ∀ l, t.callState l = .idle → s.callState l = .idle) : t.runnableJobs = [] := by
  rw [List.eq_nil_iff_forall_not_mem] at h ⊢
  intro e he
  obtain ⟨hrank, hrun⟩ := (t.mem_runnableJobs e).1 he
  refine h e ((s.mem_runnableJobs e).2 ⟨by rw [hrank, hmsu], ?_⟩)
  by_cases hk : e.2.2 = .insulation
  · rw [hk] at hrun ⊢
    obtain ⟨hb, hel⟩ := State.runnable_insulation.1 hrun
    obtain ⟨hi, hj, hs⟩ := State.insulationEligible_iff.1 hel
    rw [hmsu] at hb hj
    exact State.runnable_insulation.2 ⟨hb, State.insulationEligible_iff.2 ⟨hidle _ hi, hj, hsilent _ hs⟩⟩
  · obtain ⟨j, hj, hl, hkind, hs⟩ := (State.runnable_entry hk).1 hrun
    rw [hmsu] at hj
    exact (State.runnable_entry hk).2 ⟨j, hj, hl, hkind, hsilent _ hs⟩

end Book

end Sys2Proof.Machine
end

section
/-! PROOFS. Changes that leave every call as it stands: no line's call state, no job and none of the items that the laws
of calls speak of. One lemma for each operation of the blocks that is such a change. -/

namespace Sys2Proof.Machine

/-! ### The relation -/

/-- The dial reception record as it was, but that its digits may have been served and a marker owed. -/
structure DialStands (d e : DialRecord) : Prop where
  collection : e.collection = d.collection
  pulses : e.pulseCount = d.pulseCount
  received : e.received = d.received
  interdigit : e.interdigit = d.interdigit
  digits : e.digits = d.digits ∨ e.digits = []

theorem DialStands.refl (d : DialRecord) : DialStands d d := ⟨rfl, rfl, rfl, rfl, .inl rfl⟩

theorem DialStands.trans {d e f : DialRecord} (h : DialStands d e) (k : DialStands e f) : DialStands d f where
  collection := k.collection.trans h.collection
  pulses := k.pulses.trans h.pulses
  received := k.received.trans h.received
  interdigit := k.interdigit.trans h.interdigit
  digits := k.digits.elim (fun e => h.digits.imp e.trans e.trans) .inr

/-- The call of a line as it stood: its call state, its scanner, its call control record, whether it has an assignment
and of which kind, and whether it is SILENT. -/
structure LineStands (x y : Line) : Prop where
  ring : y.ringKind = x.ringKind
  state : y.record.callState = x.record.callState
  parties : y.record.parties = x.record.parties
  pickups : y.record.earlyPickups = x.record.earlyPickups
  faulted : y.record.condition = .faulted → x.record.condition = .faulted
  silent : y.relay.phase = .silent ↔ x.relay.phase = .silent
  scan : y.scan = x.scan
  dial : DialStands x.dial y.dial
  call : y.call = x.call

theorem LineStands.refl (x : Line) : LineStands x x := ⟨rfl, rfl, rfl, rfl, id, .rfl, rfl, .refl _, rfl⟩

theorem LineStands.trans {x y z : Line} (h : LineStands x y) (k : LineStands y z) : LineStands x z where
  ring := k.ring.trans h.ring
  state := k.state.trans h.state
  parties := k.parties.trans h.parties
  pickups := k.pickups.trans h.pickups
  faulted := h.faulted ∘ k.faulted
  silent := k.silent.trans h.silent
  scan := k.scan.trans h.scan
  dial := h.dial.trans k.dial
  call := k.call.trans h.call

theorem ScannerLaw.of_scan {x y : Line} (h : ScannerLaw x) (hscan : y.scan = x.scan)
    (hblind : y.relay.phase ≠ .silent → x.relay.phase ≠ .silent) : ScannerLaw y := by
  obtain ⟨hc, hb, hl, hf, hr⟩ := h
  rw [← hscan] at hc hb hl hf hr
  exact ⟨hc, hb, hl ∘ hblind, hf, hr⟩

theorem LineStands.fits {x y : Line} (h : LineStands x y) {st : CallState} (hx : LineFits st x) : LineFits st y where
  ring := h.ring.trans hx.ring
  scanner := hx.scanner.of_scan h.scan (mt h.silent.2)
  dial := by
    obtain ⟨hp, hr, hq, hd, hc, hm, hi⟩ := hx.dial
    obtain ⟨ec, ep, er, ei, ed⟩ := h.dial
    rw [← ec] at hc hm hi
    refine ⟨ep ▸ hp, er ▸ hr, ?_, ?_, hc, h.scan ▸ hm, ei ▸ hi⟩
    · rcases ed with ed | ed <;> rw [ed]
      · exact hq
      · exact Nat.zero_le _
    · rcases ed with ed | ed <;> rw [ed]
      · exact hd
      · exact fun d hd => absurd hd List.not_mem_nil
  call := by
    obtain ⟨hu, hr, hp, hs, hh, hc, he, hf⟩ := hx.call
    rw [← h.call] at hr hp hs hh hc
    exact ⟨h.parties ▸ hu, hr, hp, hs, hh, hc, h.pickups ▸ he, hf ∘ h.faulted⟩

/-- Every call as it stood, and the measurement unit with it. -/
structure CallsStand (s t : State) : Prop where
  msu : t.msu = s.msu
  lines : ∀ l, LineStands (s.line l) (t.line l)

theorem CallsStand.refl (s : State) : CallsStand s s := ⟨rfl, fun _ => .refl _⟩

theorem CallsStand.trans {s t u : State} (h : CallsStand s t) (k : CallsStand t u) : CallsStand s u :=
  ⟨k.msu.trans h.msu, fun l => (h.lines l).trans (k.lines l)⟩

theorem CallsStand.callState {s t : State} (h : CallsStand s t) (l : LineId) : t.callState l = s.callState l :=
  (h.lines l).state

theorem CallsStand.jobsStand {s t : State} (h : CallsStand s t) (l : LineId) : JobsStand s t l :=
  .inl ⟨h.callState l, (h.lines l).silent.2⟩

theorem CallsStand.lineLaws {s t : State} (h : CallsStand s t) {l : LineId} (hl : LineLaws (s.line l)) :
    LineLaws (t.line l) := by
  have hfits := (h.lines l).fits hl
  rwa [← (h.lines l).state] at hfits

/-- Calls that stand keep their laws. -/
theorem CallsStand.callLaws {s t : State} (h : CallsStand s t) (hs : CallLaws s) : CallLaws t := by
  refine callLaws_of_lines (fun l => h.lineLaws (hs.line l)) ((hs.jobs.book.of_stand h.msu h.jobsStand).law fun hfree => ?_)
  exact runnableJobs_of_fewer (hs.jobs.chosen (h.msu ▸ hfree)) h.msu (fun l => (h.lines l).silent.1)
    fun l hl => (h.callState l).symm.trans hl

/-! ### Changes of lines -/

theorem CallsStand.of_lines_eq {s t : State} (hmsu : t.msu = s.msu) (hlines : t.lines = s.lines) : CallsStand s t :=
  ⟨hmsu, fun l => by rw [State.line, State.line, hlines]; exact .refl _⟩

theorem CallsStand.modLine {s : State} {l : LineId} {f : Line → Line} (h : LineStands (s.line l) (f (s.line l))) :
    CallsStand s (s.modLine l f) :=
  ⟨rfl, fun m => by
    rw [State.modLine_line]
    split
    · rename_i e; rw [e]; exact h
    · exact .refl _⟩

theorem CallsStand.mapLines {s : State} {f : Line → Line} (h : ∀ l, LineStands (s.line l) (f (s.line l))) :
    CallsStand s (s.mapLines f) :=
  ⟨rfl, fun l => by rw [State.mapLines_line]; exact h l⟩

theorem CallsStand.foldl {α : Type} {f : State → α → State} (h : ∀ s a, CallsStand s (f s a)) (xs : List α)
    (s : State) : CallsStand s (xs.foldl f s) := by
  induction xs generalizing s with
  | nil => exact .refl s
  | cons x xs ih => exact (h s x).trans (ih _)

theorem CallsStand.modDet (s : State) (l : LineId) (f : DetectorRecord → DetectorRecord) :
    CallsStand s (s.modDet l f) :=
  .modLine ⟨rfl, rfl, rfl, rfl, id, .rfl, rfl, .refl _, rfl⟩

theorem CallsStand.modRecord_latched (s : State) (l : LineId) (f : LineRecord → Latches) :
    CallsStand s (s.modRecord l fun r => { r with latched := f r }) :=
  .modLine ⟨rfl, rfl, rfl, rfl, id, .rfl, rfl, .refl _, rfl⟩

theorem CallsStand.queueReport (s : State) (r : Report) : CallsStand s (s.queueReport r) := by
  rw [State.queueReport_eq]; exact .of_lines_eq rfl rfl

theorem CallsStand.modBus (s : State) (bus : Bus) (f : BusRecord → BusRecord) : CallsStand s (s.modBus bus f) := by
  cases bus <;> exact .of_lines_eq rfl rfl

theorem Line.earlyQuench_lineStands (cause : CutCause) (x : Line) : LineStands x (x.earlyQuench cause) := by
  unfold Line.earlyQuench
  split
  · rename_i h
    exact ⟨rfl, rfl, rfl, rfl, id, iff_of_false nofun (by rw [h]; nofun), rfl, .refl _, rfl⟩
  · rename_i h
    exact ⟨rfl, rfl, rfl, rfl, id, iff_of_false nofun (by rw [h]; nofun), rfl, .refl _, rfl⟩
  · exact .refl x
  · exact .refl x

theorem CallsStand.earlyQuench (s : State) (l : LineId) (cause : CutCause) : CallsStand s (s.earlyQuench l cause) :=
  .modLine (Line.earlyQuench_lineStands cause _)

theorem CallsStand.reportIfChanged (l : LineId) (b s : State) : CallsStand s (reportIfChanged l b s) := by
  rcases reportIfChanged_cases l b s with e | e | e <;> rw [e]
  · exact .refl s
  · exact .queueReport s _
  · exact .modRecord_latched s l _

theorem CallsStand.markerEvent (s : State) (l : LineId) : CallsStand s (s.markerEvent l) := by
  unfold State.markerEvent
  split
  · exact .refl s
  · split
    · exact .queueReport s _
    · exact .modLine ⟨rfl, rfl, rfl, rfl, id, .rfl, rfl, ⟨rfl, rfl, rfl, rfl, .inl rfl⟩, rfl⟩

/-! ### Trip records and the condition (R6, R73) -/

/-- TRIP_MARGIN never makes a line FAULTED. -/
theorem agreeTripMargin_faulted {x : Line} (h : (agreeTripMargin x).record.condition = .faulted) :
    x.record.condition = .faulted := by
  rw [agreeTripMargin_condition] at h
  split at h
  · exact h
  · split at h
    · split at h
      · exact absurd h nofun
      · exact h
    · split at h
      · exact absurd h nofun
      · exact h

theorem agreeTripMargin_lineStands (x : Line) : LineStands x (agreeTripMargin x) := by
  refine ⟨?_, ?_, ?_, ?_, agreeTripMargin_faulted, ?_, ?_, ?_, ?_⟩ <;> rw [agreeTripMargin_eq]
  · rfl
  · exact .refl _

theorem updateSide_lineStands (p : Params) (sd : Side) (f : SideRecord → SideRecord) (x : Line) :
    LineStands x (updateSide p sd f x) := by
  refine LineStands.trans ?_ (agreeTripMargin_lineStands _)
  exact ⟨rfl, rfl, rfl, rfl, id, .rfl, rfl, .refl _, rfl⟩

theorem updateSides_lineStands (p : Params) (f g : SideRecord → SideRecord) (x : Line) :
    LineStands x (updateSides p f g x) := by
  refine LineStands.trans ?_ (agreeTripMargin_lineStands _)
  exact ⟨rfl, rfl, rfl, rfl, id, .rfl, rfl, .refl _, rfl⟩

theorem CallsStand.recompute (s : State) (l : LineId) : CallsStand s (s.recompute l) :=
  (CallsStand.modLine (updateSides_lineStands _ _ _ _)).trans (.reportIfChanged l s _)

theorem Line.ringEnded_lineStands (p : Params) (x : Line) : LineStands x (x.ringEnded p) := by
  unfold Line.ringEnded
  split
  · dsimp only
    split
    · split
      · exact ⟨rfl, rfl, rfl, rfl, id, .rfl, rfl, .refl _, rfl⟩
      · exact (updateSide_lineStands _ _ _ x).trans ⟨rfl, rfl, rfl, rfl, id, .rfl, rfl, .refl _, rfl⟩
    · exact ⟨rfl, rfl, rfl, rfl, id, .rfl, rfl, .refl _, rfl⟩
  · exact ⟨rfl, rfl, rfl, rfl, id, .rfl, rfl, .refl _, rfl⟩
  · exact .refl x
  · exact .refl x

theorem CallsStand.raiseMargin (s : State) (l : LineId) (sd : Side) : CallsStand s (s.raiseMargin l sd) := by
  have hraise : CallsStand s (s.modLine l (updateSide s.params sd SideRecord.raiseMargin)) :=
    .modLine (updateSide_lineStands _ _ _ _)
  refine (hraise.trans ?_).trans (.reportIfChanged l _ _)
  unfold State.reportNoise
  split
  · exact .queueReport _ _
  · exact .modRecord_latched _ l _

/-! ### The planner and the sequencer -/

theorem CallsStand.setAsg {s : State} {l : LineId} {a b : Assignment} (ha : (s.line l).asg = some a)
    (hkind : b.kind = a.kind) : CallsStand s (s.setAsg l (some b)) :=
  .modLine ⟨by rw [Line.ringKind_of_asg ha]; exact congrArg some hkind, rfl, rfl, rfl, id, .rfl, rfl, .refl _, rfl⟩

theorem CallsStand.place {s : State} {l : LineId} {a : Assignment} (ha : (s.line l).asg = some a) (bus : Bus)
    (o : Slot) : CallsStand s (s.place l a bus o) := by
  have hloads := CallsStand.modBus s bus fun r =>
    { r with loads := tabulate fun g => r.loads.get g + loadAt s.pattern a o g }
  have hasg : ((s.addLoads a bus o).line l).asg = some a := by rw [State.addLoads, State.modBus_line]; exact ha
  exact (hloads.trans (.setAsg (b := { a with placement := .placed bus o s.placedCount }) hasg rfl)).trans
    (.of_lines_eq rfl rfl)

theorem CallsStand.joinWaiting {s : State} {l : LineId} {a : Assignment} (ha : (s.line l).asg = some a) :
    CallsStand s (s.joinWaiting l a) :=
  (CallsStand.setAsg (b := { a with placement := .waiting, waited := 0 }) ha rfl).trans (.of_lines_eq rfl rfl)

theorem CallsStand.unload (s : State) (l : LineId) : CallsStand s (s.unload l) := by
  unfold State.unload
  split
  · split
    · exact .modBus s _ _
    · exact .refl s
  · exact .refl s

theorem CallsStand.rehome (s : State) (l : LineId) : CallsStand s (s.rehome l) := by
  unfold State.rehome
  split
  · rename_i a ha
    split
    · split
      · exact .place ha _ _
      · exact .joinWaiting ha
    · exact .refl s
  · exact .refl s

theorem CallsStand.shed (bus : Bus) (ls : List LineId) (s : State) : CallsStand s (shed bus ls s).2 := by
  induction ls generalizing s with
  | nil => exact .refl s
  | cons l ls ih =>
    unfold Machine.shed
    split
    · exact .refl s
    · exact (CallsStand.unload s l).trans (ih _)

theorem CallsStand.shedBus (s : State) (bus : Bus) : CallsStand s (s.shedBus bus) :=
  ((CallsStand.shed bus _ s).trans (.foldl (fun s l => .earlyQuench s l .budget) _ _)).trans (.foldl .rehome _ _)

theorem CallsStand.quenchBus (s : State) (bus : Bus) : CallsStand s (s.quenchBus bus) :=
  .foldl (fun s l => by split; exacts [.earlyQuench s l .busFault, .refl s]) _ _

theorem CallsStand.displaceBus (s : State) (bus : Bus) : CallsStand s (s.displaceBus bus) :=
  (CallsStand.foldl .unload _ _).trans (.foldl .rehome _ _)

theorem CallsStand.reportBus (s : State) (bus : Bus) : CallsStand s (s.reportBus bus) := by
  unfold State.reportBus
  split
  · exact .queueReport s _
  · exact .modBus s bus _

theorem CallsStand.walk (ls : List LineId) (s : State) : CallsStand s (walk ls s) := by
  induction ls generalizing s with
  | nil => exact .refl s
  | cons l ls ih =>
    unfold Machine.walk
    split
    · exact ih s
    · rename_i a ha
      split
      · exact (CallsStand.place ha _ _).trans (ih _)
      · split
        · exact .refl s
        · exact ih s

theorem CallsStand.mapAssignments (s : State) {f : Assignment → Assignment} (hf : ∀ a, (f a).kind = a.kind) :
    CallsStand s (s.mapAssignments f) := by
  refine .mapLines fun l => ⟨?_, rfl, rfl, rfl, id, .rfl, rfl, .refl _, rfl⟩
  unfold Line.ringKind
  rw [Option.map_map]
  exact congrArg (Option.map · (s.line l).asg) (funext hf)

theorem Assignment.age_kind (a : Assignment) : a.age.kind = a.kind := by
  unfold Assignment.age; split <;> rfl

theorem Assignment.countDown_kind (a : Assignment) : a.countDown.kind = a.kind := by
  unfold Assignment.countDown; split <;> rfl

/-! ### The link, the settings and the reports -/

theorem CallsStand.reply (kind : Byte) (a : Answer) : CallsStand a.state (reply kind a) := by
  unfold Machine.reply
  split
  · exact .refl _
  · exact .of_lines_eq rfl rfl

theorem CallsStand.serve (s : State) (r : Report) : CallsStand s (s.serve r) := by
  unfold State.serve
  split
  · exact .modLine ⟨rfl, rfl, rfl, rfl, id, .rfl, rfl, ⟨rfl, rfl, rfl, rfl, .inr rfl⟩, rfl⟩
  · exact .refl s

theorem CallsStand.pollFill (n room : Nat) (s : State) : CallsStand s (pollFill n room s).2.2 := by
  induction n generalizing room s with
  | zero => exact .refl s
  | succ n ih =>
    unfold Machine.pollFill
    split
    · exact .refl s
    · rename_i r rest hq
      split
      · have hrest : CallsStand s { s with reports := { s.reports with queue := rest } } := .of_lines_eq rfl rfl
        exact (hrest.trans (.serve _ r)).trans (ih _ _)
      · exact .refl s

/-! ### Commands and events that leave every call as it stands -/

theorem pollAnswer_callsStand (s : State) : CallsStand s (pollAnswer s).state := by
  rw [pollAnswer_eq]; exact .pollFill _ _ s

theorem setReportsAnswer_callsStand (enables : Byte) (s : State) : CallsStand s (setReportsAnswer enables s).state :=
  .of_lines_eq rfl rfl

theorem setParametersAnswer_callsStand (mask : DByte) (values : Vector DByte 13) (s : State) :
    CallsStand s (setParametersAnswer mask values s).state := by
  have hset : CallsStand s { s with params := s.params.set mask values } := .of_lines_eq rfl rfl
  show CallsStand s (setParametersAccepted mask values s)
  by_cases hmoved : (s.params.set mask values).tmin ≠ s.params.tmin ∨ (s.params.set mask values).tmax ≠ s.params.tmax
  · rw [setParametersAccepted_of_moved hmoved]; exact hset.trans (.foldl .recompute _ _)
  · simp only [ne_eq, not_or, not_not] at hmoved
    rw [setParametersAccepted_of_limits hmoved.1 hmoved.2]; exact hset

theorem readLineAnswer_callsStand (line : Byte) (s : State) : CallsStand s (readLineAnswer line s).state := by
  unfold readLineAnswer
  split
  · exact .refl s
  · dsimp only
    exact .modRecord_latched s _ fun _ => .clear

theorem setCodeAnswer_callsStand (code : Byte) (bursts : List BurstField) (s : State) :
    CallsStand s (setCodeAnswer code bursts s).state := by
  unfold setCodeAnswer
  split
  · exact .refl s
  · dsimp only
    split
    · exact .refl s
    · exact .of_lines_eq rfl rfl

theorem setBusAnswer_callsStand (bus budget : Byte) (s : State) : CallsStand s (setBusAnswer bus budget s).state := by
  unfold setBusAnswer
  split
  · exact .refl s
  · exact (CallsStand.modBus s _ _).trans (.shedBus _ _)

theorem readScheduleAnswer_callsStand (bus : Byte) (s : State) : CallsStand s (readScheduleAnswer bus s).state := by
  unfold readScheduleAnswer
  split
  · exact .refl s
  · dsimp only
    exact .modBus s _ _

theorem armExpiryStep_callsStand (l : LineId) (s : State) : CallsStand s (armExpiryStep l s) := by
  unfold armExpiryStep
  split
  · rename_i h
    exact .modLine ⟨rfl, rfl, rfl, rfl, id, iff_of_false nofun (by rw [h]; nofun), rfl, .refl _, rfl⟩
  · exact .refl s

theorem ringEndStep_callsStand (l : LineId) (s : State) : CallsStand s (ringEndStep l s) := by
  unfold ringEndStep
  split
  · rename_i h
    have hquench : LineStands (s.line l) { s.line l with relay := (s.line l).relay.quench .normal } :=
      ⟨rfl, rfl, rfl, rfl, id, iff_of_false nofun (by rw [h.1]; nofun), rfl, .refl _, rfl⟩
    have hended : CallsStand s (s.burstEnded l) := .modLine (hquench.trans (Line.ringEnded_lineStands _ _))
    exact hended.trans (.reportIfChanged l _ _)
  · exact .refl s

theorem verifyTimerExpiryStep_callsStand (l : LineId) (s : State) : CallsStand s (verifyTimerExpiryStep l s) := by
  have hend := CallsStand.modDet s l DetectorRecord.endVerify
  unfold verifyTimerExpiryStep
  split
  · unfold verifyExpires
    dsimp only
    split
    · exact hend.trans (.raiseMargin _ l _)
    · exact hend
  · exact .refl s

theorem sourceGoodChangeStep_callsStand (bus : Bus) (good : Bool) (s : State) :
    CallsStand s (sourceGoodChangeStep bus good s) := .modBus s bus _

theorem busFaultStep_callsStand (bus : Bus) (s : State) : CallsStand s (busFaultStep bus s) := by
  unfold busFaultStep
  split
  · exact (((CallsStand.modBus s bus _).trans (.quenchBus _ bus)).trans (.displaceBus _ bus)).trans (.reportBus _ bus)
  · exact .refl s

theorem busRecoveryStep_callsStand (bus : Bus) (s : State) : CallsStand s (busRecoveryStep bus s) := by
  unfold busRecoveryStep
  split
  · exact (CallsStand.modBus s bus _).trans (.reportBus _ bus)
  · exact .refl s

end Sys2Proof.Machine
end

section
/-! PROOFS. How the records of a line follow its call state: the transitions of R11, R13, R15, R18, R99, R131 to R158. -/

namespace Sys2Proof.Machine

/-! ### Dial reception (R99, R105) -/

section DialFits

variable {st st' : CallState} {x y : Line}

/-- Between states that are not ORIGINATING the record stands. -/
theorem DialFits.move (h : DialFits st x) (hst : st ≠ .originating) (hst' : st' ≠ .originating)
    (hdial : y.dial = x.dial) (hmake : y.scan.makeTimer = x.scan.makeTimer) : DialFits st' y := by
  obtain ⟨hp, hr, hq, hd, hc, hm, hi⟩ := h
  rw [← hdial] at hp hr hq hd hc hm hi
  rw [← hmake] at hm
  exact ⟨hp, hr, hq, hd, iff_of_false (fun h => hst (hc.1 h)) hst', hm, hi⟩

/-- The collection of a line has ended; its digits stand or are emptied. -/
theorem DialFits.ended (h : DialFits st x) (hst' : st' ≠ .originating) (hc : y.dial.collection = .off)
    (hp : y.dial.pulseCount = 0) (hr : y.dial.received = x.dial.received) (hi : y.dial.interdigit = none)
    (hd : y.dial.digits = x.dial.digits ∨ y.dial.digits = []) (hm : y.scan.makeTimer = none) : DialFits st' y where
  pulses := by rw [hp]; exact Nat.zero_le _
  received := hr ▸ h.received
  queue := by rcases hd with hd | hd <;> rw [hd]; exacts [h.queue, Nat.zero_le _]
  digits := by rcases hd with hd | hd <;> rw [hd]; exacts [h.digits, fun _ h => absurd h List.not_mem_nil]
  collection := iff_of_false (fun h => h hc) hst'
  makeTimer h := absurd hm h
  interdigit h := absurd hi h

/-- A collection of a line has opened; its digits stand or are emptied. -/
theorem DialFits.reopened (h : DialFits st x) (hc : y.dial.collection = .opened) (hp : y.dial.pulseCount = 0)
    (hr : y.dial.received = 0) (hd : y.dial.digits = x.dial.digits ∨ y.dial.digits = []) :
    DialFits .originating y where
  pulses := by rw [hp]; exact Nat.zero_le _
  received := by rw [hr]; exact Nat.zero_le _
  queue := by rcases hd with hd | hd <;> rw [hd]; exacts [h.queue, Nat.zero_le _]
  digits := by rcases hd with hd | hd <;> rw [hd]; exacts [h.digits, fun _ h => absurd h List.not_mem_nil]
  collection := iff_of_true (by rw [hc]; nofun) rfl
  makeTimer _ := hc
  interdigit _ := hc

/-- A line out of ORIGINATING has no collection, and its dial timers do not run. -/
theorem DialFits.off (h : DialFits st x) (hst : st ≠ .originating) :
    x.dial.collection = .off ∧ x.scan.makeTimer = none ∧ x.dial.interdigit = none := by
  have hoff : x.dial.collection = .off := by
    by_contra hne
    exact hst (h.collection.1 hne)
  refine ⟨hoff, ?_, ?_⟩
  · by_contra hne
    exact absurd (hoff.symm.trans (h.makeTimer hne)) nofun
  · by_contra hne
    exact absurd (hoff.symm.trans (h.interdigit hne)) nofun

end DialFits

/-! ### Call control (R130, R147) -/

/-- Call control's record holds nothing of a call. -/
structure CallRecord.Clear (c : CallRecord) : Prop where
  ringingParty : c.ringingParty = none
  pending : c.originationPending = false
  permanentSignal : c.permanentSignal = none
  revertHold : c.revertHold = none
  called : c.called = none

/-- The call states in which call control holds nothing of a call. -/
abbrev CallState.Settled (st : CallState) : Prop :=
  st = .unequipped ∨ st = .blocked ∨ st = .idle ∨ st = .connected ∨ st = .parked

section CallFits

variable {st st' : CallState} {x y : Line}

theorem CallState.Settled.not_calling (h : st.Settled) :
    st ≠ .ringing ∧ st ≠ .originating ∧ st ≠ .revertHold ∧ st ≠ .revertRinging ∧ st ≠ .revertCheck := by
  rcases h with rfl | rfl | rfl | rfl | rfl <;> exact ⟨nofun, nofun, nofun, nofun, nofun⟩

theorem CallState.not_reverting (hh : st ≠ .revertHold) (hr : st ≠ .revertRinging) (hc : st ≠ .revertCheck) :
    ¬st.Reverting := fun h => h.elim hh fun h => h.elim hr hc

theorem CallFits.clear (h : CallFits st x) (hst : st.Settled) : x.call.Clear := by
  obtain ⟨hring, horig, hhold, hrr, hcheck⟩ := hst.not_calling
  refine ⟨?_, ?_, ?_, ?_, ?_⟩
  · by_contra hne; exact hring (h.ringingParty.1 hne)
  · by_contra hne; exact horig (h.pending (by simpa using hne))
  · by_contra hne; exact horig (h.permanentSignal.1 hne)
  · by_contra hne; exact hhold (h.revertHold hne)
  · by_contra hne; exact CallState.not_reverting hhold hrr hcheck (h.called.1 hne)

theorem CallFits.of_clear (hst : st.Settled) (hcall : y.call.Clear) (hparties : st = .unequipped ↔ y.record.parties = [])
    (hpickups : y.record.earlyPickups ≤ 3) : CallFits st y := by
  obtain ⟨hring, horig, hhold, hrr, hcheck⟩ := hst.not_calling
  obtain ⟨c1, c2, c3, c4, c5⟩ := hcall
  exact ⟨hparties, iff_of_false (fun h => h c1) hring, fun h => absurd (c2.symm.trans h) nofun,
    iff_of_false (fun h => h c3) horig, fun h => absurd c4 h,
    iff_of_false (fun h => h c5) (CallState.not_reverting hhold hrr hcheck),
    ⟨hpickups, fun h => absurd h (CallState.not_reverting hhold hrr hcheck)⟩, fun _ => ⟨hring, hhold, hrr, hcheck⟩⟩

/-- The party table of an equipped line is not empty, in whichever equipped state it is. -/
theorem CallFits.equipped (h : CallFits st x) (hst : st ≠ .unequipped) (hst' : st' ≠ .unequipped)
    (hparties : y.record.parties = x.record.parties) : st' = .unequipped ↔ y.record.parties = [] :=
  iff_of_false hst' fun he => hst (h.unequipped.2 (hparties ▸ he))

end CallFits

/-! ### The scanner (R92 to R96) -/

/-- A line enters a call state: the closed-hold timer may start, on a closed loop that is not blind (R96). -/
theorem ScannerLaw.enter {x : Line} (h : ScannerLaw x) (st : CallState) : ScannerLaw (x.enter st) := by
  obtain ⟨hc, hb, hl, hf, hr⟩ := h
  unfold Line.enter
  dsimp only
  split
  · rename_i hstart
    obtain ⟨-, hclosed, hblind, -, -⟩ := hstart
    refine ⟨fun _ => hclosed, hb, fun hphase => ?_, hf, hr⟩
    simp [Line.blind] at hblind
    exact absurd hblind hphase
  · exact ⟨hc, hb, hl, hf, hr⟩

/-- The make timer and the closed-hold and break timers may stop at any time. -/
theorem ScannerLaw.stopTimers {x y : Line} (h : ScannerLaw x) (hclosed : y.scan.closed = x.scan.closed)
    (hhold : y.scan.closedHold = x.scan.closedHold ∨ y.scan.closedHold = none)
    (hbreak : y.scan.breakTimer = x.scan.breakTimer ∨ y.scan.breakTimer = none)
    (hfilter : y.scan.filterCount = x.scan.filterCount) (hre : y.scan.reacquiring = x.scan.reacquiring)
    (hcount : y.scan.reacquireCount = x.scan.reacquireCount)
    (hblind : y.relay.phase ≠ .silent → x.relay.phase ≠ .silent) : ScannerLaw y where
  closedHold hne := hclosed ▸ hhold.elim (fun e => h.closedHold (e ▸ hne)) fun e => absurd e hne
  breakTimer hne := hclosed ▸ hbreak.elim (fun e => h.breakTimer (e ▸ hne)) fun e => absurd e hne
  blind hphase := by
    obtain ⟨h1, h2, h3, h4⟩ := h.blind (hblind hphase)
    exact ⟨hhold.elim (·.trans h1) id, hbreak.elim (·.trans h2) id, hre.trans h3, hfilter.trans h4⟩
  filter := hfilter ▸ h.filter
  reacquire := by rw [hcount, hre]; exact h.reacquire

/-! ### A line enters a state -/

/-- A line whose records fit a state is in it once it enters it. -/
theorem LineFits.enter {st : CallState} {x : Line} (h : LineFits st x) : LineLaws (x.enter st) := by
  have hscanner := h.scanner.enter st
  obtain ⟨hring, -, ⟨hp, hr, hq, hd, hc, hm, hi⟩, ⟨gu, gr, gp, gs, gh, gc, ge, gf⟩⟩ := h
  have heq := (Line.enter_eq st x).1
  generalize x.enter st = y at hscanner heq
  have hstate : y.record.callState = st := by rw [heq]
  rw [LineLaws, hstate]
  refine ⟨?_, hscanner, ?_, ?_⟩ <;> rw [heq]
  · exact hring
  · exact ⟨hp, hr, hq, hd, hc, hm, hi⟩
  · exact ⟨gu, gr, gp, gs, gh, gc, ge, gf⟩

section Settled

variable {st st' : CallState} {x y : Line}

theorem CallState.Settled.ringKind (h : st.Settled) : st.ringKind = none := by
  obtain ⟨hr, -, -, hrr, -⟩ := h.not_calling
  exact (CallState.ringKind_eq_none_iff st).2 ⟨hr, hrr⟩

/-- A settled line may be put into any other settled state of an equipped line. -/
theorem LineFits.settle (h : LineFits st x) (hst : st.Settled) (hst' : st'.Settled) (he : st ≠ .unequipped)
    (he' : st' ≠ .unequipped) : LineFits st' x where
  ring := h.ring.trans (hst.ringKind.trans hst'.ringKind.symm)
  scanner := h.scanner
  dial := h.dial.move hst.not_calling.2.1 hst'.not_calling.2.1 rfl rfl
  call := .of_clear hst' (h.call.clear hst) (h.call.equipped he he' rfl) h.call.earlyPickups.1

/-- What the removal of a line's assignment leaves of the line. -/
structure RingRemoved (x y : Line) : Prop where
  asg : y.asg = none
  record : y.record = x.record
  scan : y.scan = x.scan
  dial : y.dial = x.dial
  call : y.call = x.call
  blind : y.relay.phase ≠ .silent → x.relay.phase ≠ .silent
  silent : x.relay.phase = .silent → y.relay.phase = .silent

theorem State.removeAssignment_removed (s : State) (l : LineId) (c : CutCause) :
    RingRemoved (s.line l) ((s.removeAssignment l c).line l) := by
  have heq := s.removeAssignment_line_eq l c
  refine ⟨?_, ?_, ?_, ?_, ?_, fun h hs => h ?_, fun hs => ?_⟩
  · rw [heq]
  · rw [heq]
  · rw [heq]
  · rw [heq]
  · rw [heq]
  · rw [State.removeAssignment_relay_of_undriven c (.inl hs)]; exact hs
  · rw [State.removeAssignment_relay_of_undriven c (.inl hs)]; exact hs

theorem RingRemoved.scannerLaw (h : RingRemoved x y) (hx : ScannerLaw x) : ScannerLaw y :=
  hx.of_scan h.scan h.blind

/-- An ordinary ring ends: the assignment is removed, and the ringing party with it. -/
theorem RingRemoved.of_ringing (h : RingRemoved x y) (hx : LineFits .ringing x) (hst : st.Settled)
    (he : st ≠ .unequipped) : LineFits st { y with call := { y.call with ringingParty := none } } where
  ring := (Line.ringKind_of_none (x := { y with call := { y.call with ringingParty := none } }) h.asg).trans
    hst.ringKind.symm
  scanner := (h.scannerLaw hx.scanner).of_scan rfl id
  dial := hx.dial.move nofun hst.not_calling.2.1 h.dial (by rw [h.scan])
  call := by
    obtain ⟨hu, hr, hp, hs, hh, hc, hpick, hf⟩ := hx.call
    refine .of_clear hst ⟨rfl, ?_, ?_, ?_, ?_⟩ (hx.call.equipped nofun he (by rw [h.record])) (by rw [h.record]; exact hpick.1)
    · by_contra hne; exact absurd (hp (by rw [← h.call]; simpa using hne)) nofun
    · by_contra hne; exact absurd (hs.1 (h.call ▸ hne)) nofun
    · by_contra hne; exact absurd (hh (h.call ▸ hne)) nofun
    · by_contra hne
      exact CallState.not_reverting (st := .ringing) nofun nofun nofun (hc.1 (h.call ▸ hne))

/-- A reverting ring ends: the assignment is removed, and the reverting call's items with it. -/
theorem RingRemoved.of_revertRinging (h : RingRemoved x y) (hx : LineFits .revertRinging x) (hst : st.Settled)
    (he : st ≠ .unequipped) :
    LineFits st { y with call := { y.call with called := none, caller := none, recallOn := false } } where
  ring := (Line.ringKind_of_none (x := { y with call := { y.call with called := none } }) h.asg).trans
    hst.ringKind.symm
  scanner := (h.scannerLaw hx.scanner).of_scan rfl id
  dial := hx.dial.move nofun hst.not_calling.2.1 h.dial (by rw [h.scan])
  call := by
    obtain ⟨hu, hr, hp, hs, hh, hc, hpick, hf⟩ := hx.call
    refine .of_clear hst ⟨?_, ?_, ?_, ?_, rfl⟩ (hx.call.equipped nofun he (by rw [h.record])) (by rw [h.record]; exact hpick.1)
    · by_contra hne; exact absurd (hr.1 (h.call ▸ hne)) nofun
    · by_contra hne; exact absurd (hp (by rw [← h.call]; simpa using hne)) nofun
    · by_contra hne; exact absurd (hs.1 (h.call ▸ hne)) nofun
    · by_contra hne; exact absurd (hh (h.call ▸ hne)) nofun

/-- A reverting ring answered: the side test's state keeps the reverting call's items. -/
theorem RingRemoved.to_revertCheck (h : RingRemoved x y) (hx : LineFits .revertRinging x) :
    LineFits .revertCheck y where
  ring := Line.ringKind_of_none h.asg
  scanner := h.scannerLaw hx.scanner
  dial := hx.dial.move nofun nofun h.dial (by rw [h.scan])
  call := by
    have hequipped : CallState.revertCheck = .unequipped ↔ y.record.parties = [] :=
      hx.call.equipped nofun nofun (by rw [h.record])
    obtain ⟨hu, hr, hp, hs, hh, hc, hpick, hf⟩ := hx.call
    rw [← h.call] at hr hp hs hh hc
    rw [← h.record] at hpick hf
    exact ⟨hequipped, iff_of_false (fun h => absurd (hr.1 h) nofun) nofun, fun h => absurd (hp h) nofun,
      iff_of_false (fun h => absurd (hs.1 h) nofun) nofun, fun h => absurd (hh h) nofun,
      iff_of_true (hc.2 (.inr (.inl rfl))) (.inr (.inr rfl)), ⟨hpick.1, fun _ => hpick.2 (.inr (.inl rfl))⟩,
      fun h => absurd rfl (hf h).2.2.1⟩

end Settled

end Sys2Proof.Machine
end

section
/-! PROOFS. The laws of calls through every event of a line: its records follow its call state, and its jobs leave or join
the list with it (R5, R110 to R113, R130 to R158). -/

namespace Sys2Proof.Machine

/-! ### Transitions of one line -/

/-- A line that has left ORIGINATING, before it enters its next state (R133, R135). -/
def Line.leftOriginating (x : Line) : Line := { x with
  dial := { x.dial with
    collection := .off, pulseCount := 0, interdigit := none
    originationReported := x.dial.originationReported || x.call.originationPending
    markerOwed := x.dial.markerOwed && !x.call.originationPending }
  scan := { x.scan with makeTimer := none }
  call := { x.call with originationPending := false, permanentSignal := none } }

theorem State.leaveOriginating_left (s : State) (l : LineId) :
    (s.leaveOriginating l).line l = (s.line l).leftOriginating := s.leaveOriginating_line l

section Transitions

variable {st : CallState} {x y : Line}

theorem LineFits.left_scanner (h : LineFits .originating x) : ScannerLaw x.leftOriginating :=
  h.scanner.stopTimers rfl (.inl rfl) (.inl rfl) rfl rfl rfl id

theorem LineFits.left_dial (h : LineFits .originating x) (hst : st ≠ .originating) : DialFits st x.leftOriginating :=
  h.dial.ended hst rfl rfl rfl rfl (.inl rfl) rfl

theorem LineFits.left_clear (h : LineFits .originating x) : x.leftOriginating.call.Clear := by
  obtain ⟨hu, hr, hp, hs, hh, hc, he, hf⟩ := h.call
  refine ⟨?_, rfl, rfl, ?_, ?_⟩
  · by_contra hne; exact absurd (hr.1 hne) nofun
  · by_contra hne; exact absurd (hh hne) nofun
  · by_contra hne; exact CallState.not_reverting (st := .originating) nofun nofun nofun (hc.1 hne)

/-- A line that leaves ORIGINATING may enter any settled state of an equipped line. -/
theorem LineFits.left (h : LineFits .originating x) (hst : st.Settled) (he : st ≠ .unequipped) :
    LineFits st x.leftOriginating where
  ring := h.ring.trans hst.ringKind.symm
  scanner := h.left_scanner
  dial := h.left_dial hst.not_calling.2.1
  call := .of_clear hst h.left_clear (h.call.equipped nofun he rfl) h.call.earlyPickups.1

/-- A line that leaves ORIGINATING for a reverting call (R149). -/
theorem LineFits.held (h : LineFits .originating x) (hgood : x.record.condition ≠ .faulted)
    (called caller : PartyNo) (recallOn : Bool) (n : Nat) :
    LineFits .revertHold { x.leftOriginating with
      record := { x.record with earlyPickups := 0 }
      call := { x.leftOriginating.call with
        called := some called, caller := some caller, recallOn := recallOn, revertHold := some n } } where
  ring := h.ring
  scanner := h.left_scanner.of_scan rfl id
  dial := (h.left_dial (st := .revertHold) (by nofun)).move nofun nofun rfl rfl
  call := by
    obtain ⟨c1, c2, c3, -, -⟩ := h.left_clear
    exact ⟨h.call.equipped nofun nofun rfl, iff_of_false (fun h => h c1) nofun, fun h => absurd (c2.symm.trans h) nofun,
      iff_of_false (fun h => h c3) nofun, fun _ => rfl, iff_of_true nofun (.inl rfl), ⟨Nat.zero_le _, fun _ => Nat.zero_le _⟩,
      fun h => absurd h hgood⟩

/-- What a line in a state of a reverting call that does not ring holds of the call. -/
theorem LineFits.holding (h : LineFits st x) (hst : st = .revertHold ∨ st = .revertCheck) :
    x.ringKind = none ∧ x.call.ringingParty = none ∧ x.call.originationPending = false ∧
      x.call.permanentSignal = none ∧ x.call.called ≠ none ∧ x.record.earlyPickups ≤ 2 ∧
      x.record.condition ≠ .faulted := by
  obtain ⟨hu, hr, hp, hs, hh, hc, he, hf⟩ := h.call
  have hrev : st.Reverting := hst.imp id .inr
  have hkind : st.ringKind = none := by rcases hst with rfl | rfl <;> rfl
  have hring : st ≠ .ringing := by rcases hst with rfl | rfl <;> nofun
  have horig : st ≠ .originating := by rcases hst with rfl | rfl <;> nofun
  refine ⟨h.ring.trans hkind, ?_, ?_, ?_, hc.2 hrev, he.2 hrev, fun hfault => ?_⟩
  · by_contra hne; exact hring (hr.1 hne)
  · by_contra hne; exact horig (hp (by simpa using hne))
  · by_contra hne; exact horig (hs.1 hne)
  · obtain ⟨-, h1, -, h2⟩ := hf hfault
    exact hst.elim h1 h2

theorem LineFits.equipped_of_holding (h : LineFits st x) (hst : st = .revertHold ∨ st = .revertCheck) :
    st ≠ .unequipped ∧ st ≠ .originating := by
  rcases hst with rfl | rfl <;> exact ⟨nofun, nofun⟩

/-- A reverting call gives the line back to its caller (R151, R156, R158). -/
theorem LineFits.returned (h : LineFits st x) (hst : st = .revertHold ∨ st = .revertCheck) (n : Nat) (k : Nat)
    (hk : k ≤ 3) : LineFits .originating { x with
      record := { x.record with callState := .originating, earlyPickups := k }
      dial := { x.dial with collection := .opened, pulseCount := 0, received := 0 }
      call := { x.call with
        called := none, caller := none, recallOn := false, revertHold := none, permanentSignal := some n } } := by
  obtain ⟨hkind, hring, hpend, hsig, -, -, -⟩ := h.holding hst
  exact {
    ring := hkind
    scanner := h.scanner.of_scan rfl id
    dial := h.dial.reopened rfl rfl rfl (.inl rfl)
    call := ⟨h.call.equipped (h.equipped_of_holding hst).1 nofun rfl, iff_of_false (fun h => h hring) nofun,
      fun _ => rfl, iff_of_true nofun rfl, fun h => absurd rfl h,
      iff_of_false (fun h => h rfl) (CallState.not_reverting nofun nofun nofun),
      ⟨hk, fun h => absurd h (CallState.not_reverting nofun nofun nofun)⟩, fun _ => ⟨nofun, nofun, nofun, nofun⟩⟩ }

/-- A reverting call begins to ring (R150, R157). -/
theorem LineFits.revertBegins (h : LineFits st x) (hst : st = .revertHold ∨ st = .revertCheck)
    (hasg : y.ringKind = some .revert) (hy : y = { x with asg := y.asg })
    (hhold : st = .revertHold → x.call.revertHold = none) : LineFits .revertRinging y := by
  obtain ⟨-, hring, hpend, hsig, hcalled, hpick, hgood⟩ := h.holding hst
  have hrh : x.call.revertHold = none := by
    by_contra hne; exact hne (hhold (h.call.revertHold hne))
  have hscan : y.scan = x.scan := by rw [hy]
  have hcall : y.call = x.call := by rw [hy]
  have hrecord : y.record = x.record := by rw [hy]
  refine ⟨hasg, h.scanner.of_scan hscan (by rw [hy]; exact id),
    h.dial.move (h.equipped_of_holding hst).2 nofun (by rw [hy]) (by rw [hscan]),
    ⟨h.call.equipped (h.equipped_of_holding hst).1 nofun (by rw [hrecord]), ?_, ?_, ?_, ?_, ?_, ?_, ?_⟩⟩
  · exact iff_of_false (fun h => h (hcall ▸ hring)) nofun
  · rw [hcall, hpend]; exact nofun
  · exact iff_of_false (fun h => h (hcall ▸ hsig)) nofun
  · rw [hcall, hrh]; exact fun h => absurd rfl h
  · exact iff_of_true (hcall ▸ hcalled) (.inr (.inl rfl))
  · rw [hrecord]; exact ⟨hpick.trans (by decide), fun _ => hpick⟩
  · rw [hrecord]; exact fun h => absurd h hgood

/-- A reverting call ends on a line that does not ring (R155, R158). -/
theorem LineFits.revertEnds (h : LineFits .revertCheck x) (hst : st.Settled) (he : st ≠ .unequipped) :
    LineFits st { x with call := { x.call with called := none, caller := none, recallOn := false } } := by
  obtain ⟨hkind, hring, hpend, hsig, -, hpick, -⟩ := h.holding (.inr rfl)
  have hrh : x.call.revertHold = none := by
    by_contra hne; exact absurd (h.call.revertHold hne) nofun
  exact {
    ring := hkind.trans hst.ringKind.symm
    scanner := h.scanner.of_scan rfl id
    dial := h.dial.move nofun hst.not_calling.2.1 rfl rfl
    call := .of_clear hst ⟨hring, hpend, hsig, hrh, rfl⟩ (h.call.equipped nofun he rfl) (hpick.trans (by decide)) }

/-- An early pickup below the limit holds the line again (R156). -/
theorem LineFits.heldAgain (h : LineFits .revertCheck x) (k n : Nat) (hk : k ≤ 2) : LineFits .revertHold { x with
    record := { x.record with callState := .revertHold, earlyPickups := k }
    call := { x.call with revertHold := some n } } := by
  obtain ⟨hkind, hring, hpend, hsig, hcalled, -, hgood⟩ := h.holding (.inr rfl)
  exact {
    ring := hkind
    scanner := h.scanner.of_scan rfl id
    dial := h.dial.move nofun nofun rfl rfl
    call := ⟨h.call.equipped nofun nofun rfl, iff_of_false (fun h => h hring) nofun,
      fun h => absurd (hpend.symm.trans h) nofun, iff_of_false (fun h => h hsig) nofun, fun _ => rfl,
      iff_of_true hcalled (.inl rfl), ⟨hk.trans (by decide), fun _ => hk⟩, fun h => absurd h hgood⟩ }

/-- An ordinary ring begins on an IDLE line (R138). -/
theorem LineFits.ringBegins (h : LineFits .idle x) (hgood : x.record.condition ≠ .faulted) (n : PartyNo)
    (hasg : y.ringKind = some .plain)
    (hy : y = { x with asg := y.asg, call := { x.call with ringingParty := some n } }) : LineFits .ringing y := by
  obtain ⟨c1, c2, c3, c4, c5⟩ := h.call.clear (.inr (.inr (.inl rfl)))
  have hscan : y.scan = x.scan := by rw [hy]
  have hcall : y.call = { x.call with ringingParty := some n } := by rw [hy]
  have hrecord : y.record = x.record := by rw [hy]
  refine ⟨hasg, h.scanner.of_scan hscan (by rw [hy]; exact id),
    h.dial.move nofun nofun (by rw [hy]) (by rw [hscan]),
    ⟨h.call.equipped nofun nofun (by rw [hrecord]), ?_, ?_, ?_, ?_, ?_, ?_, ?_⟩⟩
  · rw [hcall]; exact iff_of_true nofun rfl
  · rw [hcall]; exact fun h => absurd (c2.symm.trans h) nofun
  · rw [hcall]; exact iff_of_false (fun h => h c3) nofun
  · rw [hcall]; exact fun h => absurd c4 h
  · rw [hcall]; exact iff_of_false (fun h => h c5) (CallState.not_reverting nofun nofun nofun)
  · rw [hrecord]; exact ⟨h.call.earlyPickups.1, fun h => absurd h (CallState.not_reverting nofun nofun nofun)⟩
  · rw [hrecord]; exact fun h => absurd h hgood

/-- An origination begins on an IDLE line (R99, R131). -/
theorem LineFits.originates (h : LineFits .idle x) (n : Nat) (pending : Bool) (d : DialRecord)
    (hd : d.collection = .opened ∧ d.pulseCount = 0 ∧ d.received = 0 ∧ d.digits = []) :
    LineFits .originating { x with
      record := { x.record with callState := .originating }
      dial := d
      scan := { x.scan with makeTimer := none }
      call := { x.call with originationPending := pending, permanentSignal := some n } } := by
  obtain ⟨c1, c2, c3, c4, c5⟩ := h.call.clear (.inr (.inr (.inl rfl)))
  obtain ⟨d1, d2, d3, d4⟩ := hd
  exact {
    ring := h.ring
    scanner := h.scanner.stopTimers rfl (.inl rfl) (.inl rfl) rfl rfl rfl id
    dial := h.dial.reopened d1 d2 d3 (.inr d4)
    call := ⟨h.call.equipped nofun nofun rfl, iff_of_false (fun h => h c1) nofun, fun _ => rfl, iff_of_true nofun rfl,
      fun h => absurd c4 h, iff_of_false (fun h => h c5) (CallState.not_reverting nofun nofun nofun),
      ⟨h.call.earlyPickups.1, fun h => absurd h (CallState.not_reverting nofun nofun nofun)⟩,
      fun _ => ⟨nofun, nofun, nofun, nofun⟩⟩ }

end Transitions

/-- A call state is entered by the loop and the relays: call control's record is carried along. -/
theorem Line.enter_withCall (st : CallState) (x : Line) (c : CallRecord) :
    { x.enter st with call := c } = Line.enter st { x with call := c } :=
  apply_ite (fun y : Line => { y with call := c }) _ _ _

/-! ### Events -/

/-- An event of one line under the laws of calls, before the arbiter's choice. -/
structure EventKept (l : LineId) (s t : State) : Prop where
  others : OthersKept l s t
  line : LineLaws (t.line l)
  book : JobBook t

/-- The laws of calls but for the arbiter's choice. -/
structure CallsBooked (s : State) : Prop where
  line : ∀ l, LineLaws (s.line l)
  book : JobBook s

theorem CallLaws.booked {s : State} (h : CallLaws s) : CallsBooked s := ⟨h.line, h.jobs.book⟩

/-- The arbiter's choice completes the laws of calls. -/
theorem CallsBooked.arbitrate {s : State} (h : CallsBooked s) : CallLaws s.arbitrate :=
  callLaws_of_lines (fun m => by rw [State.arbitrate_line]; exact h.line m) h.book.arbitrate

theorem CallsStand.booked {s t : State} (h : CallsStand s t) (hs : CallsBooked s) : CallsBooked t :=
  ⟨fun l => h.lineLaws (hs.line l), hs.book.of_stand h.msu h.jobsStand⟩

theorem EventKept.booked {l : LineId} {s t : State} (h : EventKept l s t) (hs : CallsBooked s) : CallsBooked t where
  line m := by
    by_cases e : m = l
    · rw [e]; exact h.line
    · rw [h.others m e]; exact hs.line m
  book := h.book

theorem EventKept.callLaws {l : LineId} {s t : State} (h : EventKept l s t) (hs : CallsBooked s) :
    CallLaws t.arbitrate := (h.booked hs).arbitrate

/-- A report or a latch behind the event. -/
theorem EventKept.stand {l : LineId} {s t u : State} (h : EventKept l s t) (k : CallsStand t u)
    (hothers : OthersKept l t u) : EventKept l s u :=
  ⟨h.others.trans hothers, k.lineLaws h.line, h.book.of_stand k.msu k.jobsStand⟩

section Events

variable {s : State} {l : LineId} (h : CallsBooked s)
include h

theorem CallsBooked.fits {st : CallState} (hst : s.callState l = st) : LineFits st (s.line l) := hst ▸ h.line l

theorem CallsBooked.unjobbed (hidle : s.callState l ≠ .idle) (horig : s.callState l ≠ .originating)
    (hcheck : s.callState l ≠ .revertCheck) : Unjobbed s.msu l := h.book.unjobbed hidle horig hcheck

/-- The jobs of a line with none stand, whatever becomes of it. -/
theorem CallsBooked.book_of_unjobbed {t : State} (hno : Unjobbed s.msu l) (hmsu : t.msu = s.msu)
    (hothers : OthersKept l s t) : JobBook t := h.book.of_line hmsu hothers (.inr hno)

/-- The exit of a ring that is not answered by its caller's side test: the assignment is gone, and so is the ringing
party or the reverting call. -/
theorem expire_eventKept : EventKept l s (s.expire l) := by
  cases ha : (s.line l).asg with
  | none =>
    rw [State.expire_of_none ha]
    exact ⟨.refl l s, h.line l, h.book⟩
  | some a =>
    have hremoved := s.removeAssignment_removed l .removal
    have hstate := (h.line l).asg_isSome.1 (by rw [ha]; rfl)
    have hkind := (h.line l).asg_kind ha
    have hno : Unjobbed s.msu l := by
      refine h.unjobbed ?_ ?_ ?_ <;> rw [State.callState] <;> rcases hstate with hst | hst <;> rw [hst] <;> nofun
    refine ⟨s.expire_othersKept l, ?_, h.book_of_unjobbed hno (s.expire_msu l) (s.expire_othersKept l)⟩
    rw [State.expire_line ha]
    cases hk : a.kind with
    | plain =>
      have hfits := hremoved.of_ringing (h.fits (hkind.1 hk)) (st := .idle) (.inr (.inr (.inl rfl))) nofun
      have heq : { ((s.removeAssignment l .removal).line l).enter .idle with call := (s.line l).call.expired .plain } =
          Line.enter .idle { (s.removeAssignment l .removal).line l with
            call := { ((s.removeAssignment l .removal).line l).call with ringingParty := none } } := by
        rw [← hremoved.call]
        exact Line.enter_withCall _ _ _
      rw [heq]
      exact hfits.enter
    | revert =>
      have hst : s.callState l = .revertRinging :=
        hstate.resolve_left fun h => absurd ((hkind.2 h).symm.trans hk) nofun
      have hfits := hremoved.of_revertRinging (h.fits hst) (st := .idle) (.inr (.inr (.inl rfl))) nofun
      have heq : { ((s.removeAssignment l .removal).line l).enter .idle with call := (s.line l).call.expired .revert } =
          Line.enter .idle { (s.removeAssignment l .removal).line l with
            call := { ((s.removeAssignment l .removal).line l).call with
              called := none, caller := none, recallOn := false } } := by
        rw [← hremoved.call]
        exact Line.enter_withCall _ _ _
      rw [heq]
      exact hfits.enter

theorem answer_eventKept (source : AnswerSource) (side : Option Side) : EventKept l s (s.answer l source side) := by
  have hremoved := s.removeAssignment_removed l .removal
  have hothers := s.removeAssignment_othersKept l .removal
  by_cases hringing : s.callState l = .ringing
  · have hno : Unjobbed s.msu l := by refine h.unjobbed ?_ ?_ ?_ <;> rw [hringing] <;> nofun
    have hfits := hremoved.of_ringing (h.fits hringing) (st := .connected) (.inr (.inr (.inr (.inl rfl)))) nofun
    refine ⟨s.answer_othersKept l source side, ?_, ?_⟩
    · have hline := hfits.enter
      rw [Line.enter_plain .connected _ nofun nofun nofun] at hline
      rw [State.answer_line_connected source side hringing, ← hremoved.record, ← hremoved.call]
      exact hline
    · refine h.book_of_unjobbed hno ?_ (s.answer_othersKept l source side)
      rw [State.answer_msu_of_ringing source side hringing]
  by_cases hrevert : s.callState l = .revertRinging
  · have hno : Unjobbed s.msu l := by refine h.unjobbed ?_ ?_ ?_ <;> rw [hrevert] <;> nofun
    have hline := (hremoved.to_revertCheck (h.fits hrevert)).enter
    refine ⟨s.answer_othersKept l source side, ?_, ?_⟩
    · rw [State.answer_of_revertRinging source side hrevert, State.requestJob_line, State.setCallState_line_self]
      exact hline
    · rw [State.answer_of_revertRinging source side hrevert]
      refine JobBook.requestJob (h.book_of_unjobbed hno (by simp)
        (hothers.trans (State.setCallState_othersKept _ l _))) ?_ nofun ?_
      · rw [State.setCallState_msu, State.removeAssignment_msu]; exact hno.jobs
      · rw [State.callState, State.setCallState_line_self, Line.enter_callState]; rfl
  · rw [State.answer_of_not_rung source side hringing hrevert]
    exact ⟨.refl l s, h.line l, h.book⟩

end Events

end Sys2Proof.Machine
end

section
/-! PROOFS. The laws of calls through the commands of the link (R9 to R15, R123, R135 to R158). -/

namespace Sys2Proof.Machine

/-- An assignment is created of the kind asked for, placed or waiting. -/
theorem State.createAssignment_asg_kind (s : State) (l : LineId) (kind : AssignmentKind) (k0 : Stroke)
    (k1 : Option Stroke) (n : Nat) :
    ∃ a, ((s.createAssignment l kind k0 k1 n).line l).asg = some a ∧ a.kind = kind := by
  cases h : s.search (newAssignment kind k0 k1 n s.createdCount) with
  | none => exact ⟨_, State.createAssignment_asg_of_not_found h, rfl⟩
  | some p => exact ⟨_, State.createAssignment_asg_of_found (o := p.1) (bus := p.2) h, rfl⟩

/-! ### Configuration and service (R11, R13, R15, R92) -/

section Configuration

variable {st st' : CallState} {x y : Line}

/-- A line whose records fit a state is in it once its record says so. -/
theorem LineFits.inState (h : LineFits st x) :
    LineLaws { x with record := { x.record with callState := st } } := by
  obtain ⟨hring, ⟨sc, sb, sl, sf, sr⟩, ⟨hp, hr, hq, hd, hc, hm, hi⟩, ⟨gu, gr, gp, gs, gh, gc, ge, gf⟩⟩ := h
  exact ⟨hring, ⟨sc, sb, sl, sf, sr⟩, ⟨hp, hr, hq, hd, hc, hm, hi⟩, ⟨gu, gr, gp, gs, gh, gc, ge, gf⟩⟩

/-- A settled line with its configuration written fits any settled state that goes with the party table (R10, R11). -/
theorem LineFits.configured (h : LineFits st x) (hst : st.Settled) (hst' : st'.Settled) {ps : List Party}
    (hps : st' = .unequipped ↔ ps = []) (loads : PerSide Nat) (mode : DialMode) (n : Nat) :
    LineFits st' { x with record := { x.record with parties := ps, loads := loads, dialMode := mode, blockCount := n } } where
  ring := h.ring.trans (hst.ringKind.trans hst'.ringKind.symm)
  scanner := h.scanner.of_scan rfl id
  dial := h.dial.move hst.not_calling.2.1 hst'.not_calling.2.1 rfl rfl
  call := by
    obtain ⟨c1, c2, c3, c4, c5⟩ := h.call.clear hst
    exact .of_clear hst' ⟨c1, c2, c3, c4, c5⟩ hps h.call.earlyPickups.1

theorem writeLine_fits (h : LineFits st x) (hst : st.Settled) (hst' : st'.Settled) {ps : List Party}
    (hps : st' = .unequipped ↔ ps = []) (p : Params) (tip ring : Nat) (mode : DialMode) (n : Nat) :
    LineFits st' (writeLine p tip ring mode n ps x) := by
  have hsorted : st' = .unequipped ↔ sortBy (fun q : Party => q.number.val) ps = [] := by
    rw [hps]
    exact ⟨fun h => by rw [h]; rfl, fun h => List.length_eq_zero_iff.1 (by
      rw [← (sortBy_perm (fun q : Party => q.number.val) ps).length_eq, h]; rfl)⟩
  exact (updateSides_lineStands _ _ _ _).fits (h.configured hst hst' hsorted _ _ _)

theorem writeLine_state (p : Params) (tip ring : Nat) (mode : DialMode) (n : Nat) (ps : List Party) (x : Line) :
    (writeLine p tip ring mode n ps x).record.callState = x.record.callState ∧
      (writeLine p tip ring mode n ps x).relay = x.relay := by
  refine ⟨(updateSides_lineStands _ _ _ _).state, ?_⟩
  unfold writeLine updateSides
  rw [agreeTripMargin_eq]

/-- Sampling of a line that is equipped begins from the held state (R92). -/
theorem LineFits.samplingBegins (h : LineFits st x) : LineFits st { x with scan := x.scan.begin } where
  ring := h.ring
  scanner := by
    obtain ⟨hc, hb, hl, hf, hr⟩ := h.scanner
    exact ⟨hc, hb, fun hp => ⟨(hl hp).1, (hl hp).2.1, rfl, rfl⟩, Nat.zero_le _, ⟨Nat.zero_le _, fun _ => rfl⟩⟩
  dial := by
    obtain ⟨hp, hr, hq, hd, hc, hm, hi⟩ := h.dial
    exact ⟨hp, hr, hq, hd, hc, hm, hi⟩
  call := by
    obtain ⟨gu, gr, gp, gs, gh, gc, ge, gf⟩ := h.call
    exact ⟨gu, gr, gp, gs, gh, gc, ge, gf⟩

/-- A line made UNEQUIPPED: its digit queue emptied, its scanner frozen (R11, R92, R106). -/
theorem LineFits.unequips (h : LineFits .unequipped x) : LineFits .unequipped { x with
    dial := { x.dial with
      collection := .off, pulseCount := 0, interdigit := none, digits := [], errors := ⟨false, false, false⟩
      complete := false, markerOwed := false }
    scan := ScannerRecord.freeze { x.scan with makeTimer := none } } where
  ring := h.ring
  scanner := by
    obtain ⟨hc, hb, hl, hf, hr⟩ := h.scanner
    exact ⟨fun h => absurd rfl h, fun h => absurd rfl h, fun hp => ⟨rfl, rfl, rfl, (hl hp).2.2.2⟩, hf,
      ⟨Nat.zero_le _, fun _ => rfl⟩⟩
  dial := h.dial.ended nofun rfl rfl rfl rfl (.inr rfl) rfl
  call := by
    obtain ⟨gu, gr, gp, gs, gh, gc, ge, gf⟩ := h.call
    exact ⟨gu, gr, gp, gs, gh, gc, ge, gf⟩

/-- A line taken out of service has nothing left of a call (R13). -/
theorem LineFits.outOfService (h : LineFits st x) (hst : st ≠ .unequipped) (hremoved : RingRemoved x y) :
    LineFits .blocked { y with
      dial := { y.dial with
        collection := .off, pulseCount := 0, interdigit := none, digits := [], errors := ⟨false, false, false⟩
        complete := false, markerOwed := false }
      scan := { y.scan with makeTimer := none }
      call := .powerOn } where
  ring := Line.ringKind_of_none hremoved.asg
  scanner := (hremoved.scannerLaw h.scanner).stopTimers rfl (.inl rfl) (.inl rfl) rfl rfl rfl id
  dial := h.dial.ended nofun rfl rfl (by rw [hremoved.dial]) rfl (.inr rfl) rfl
  call := .of_clear (.inr (.inl rfl)) ⟨rfl, rfl, rfl, rfl, rfl⟩
    (h.call.equipped hst nofun (by rw [hremoved.record])) (by rw [hremoved.record]; exact h.call.earlyPickups.1)

theorem idleOrParked_settled (x : Line) : (idleOrParked x).Settled ∧ idleOrParked x ≠ .unequipped := by
  unfold idleOrParked
  split
  · exact ⟨.inr (.inr (.inr (.inr rfl))), nofun⟩
  · exact ⟨.inr (.inr (.inl rfl)), nofun⟩

end Configuration

section Commands

variable {s : State} {l : LineId} (h : CallsBooked s)
include h

/-- A change of one line that stays in its call state and in its relay phase. -/
theorem CallsBooked.event_of_same {t : State} (hmsu : t.msu = s.msu) (hothers : OthersKept l s t)
    (hline : LineLaws (t.line l)) (hstate : t.callState l = s.callState l)
    (hphase : (s.line l).relay.phase = .silent → (t.line l).relay.phase = .silent) : EventKept l s t :=
  ⟨hothers, hline, h.book.of_line hmsu hothers (.inl ⟨hstate, hphase⟩)⟩

theorem CallsBooked.event_of_unjobbed {t : State} (hno : Unjobbed s.msu l) (hmsu : t.msu = s.msu)
    (hothers : OthersKept l s t) (hline : LineLaws (t.line l)) : EventKept l s t :=
  ⟨hothers, hline, h.book_of_unjobbed hno hmsu hothers⟩

theorem CallsBooked.event_of_dropped {t : State} (hmsu : t.msu = s.msu.dropJobs l) (hothers : OthersKept l s t)
    (hline : LineLaws (t.line l)) : EventKept l s t :=
  ⟨hothers, hline, h.book.of_dropped hmsu hothers⟩

/-! ### CONFIGURE_LINE -/

theorem configureState_eventKept {p : Params} {tip ring n : Nat} {mode : DialMode} {ps : List Party}
    (hstate : s.callState l = .unequipped ∨ s.callState l = .idle ∨ s.callState l = .blocked) :
    EventKept l s (configureState l ps.isEmpty (s.modLine l (writeLine p tip ring mode n ps))) := by
  have hothers := s.modLine_othersKept l (writeLine p tip ring mode n ps)
  have hline := s.modLine_line_self l (writeLine p tip ring mode n ps)
  have hmsu := s.modLine_msu l (writeLine p tip ring mode n ps)
  obtain ⟨hstate', hrelay'⟩ := writeLine_state p tip ring mode n ps (s.line l)
  have hcs : (s.modLine l (writeLine p tip ring mode n ps)).callState l = s.callState l := by
    rw [State.callState, hline, hstate']; rfl
  have hempty : ps.isEmpty = true ↔ ps = [] := List.isEmpty_iff
  have hsettled : (s.callState l).Settled := by
    rcases hstate with h | h | h <;> rw [h]
    exacts [.inl rfl, .inr (.inr (.inl rfl)), .inr (.inl rfl)]
  have hfits (st' : CallState) (hst' : st'.Settled) (hps : st' = .unequipped ↔ ps = []) :
      LineFits st' ((s.modLine l (writeLine p tip ring mode n ps)).line l) := by
    rw [hline]; exact writeLine_fits (h.line l) hsettled hst' hps p tip ring mode n
  have hstay (hps : s.callState l = .unequipped ↔ ps = []) :
      EventKept l s (s.modLine l (writeLine p tip ring mode n ps)) := by
    refine h.event_of_same hmsu hothers ?_ hcs fun hs => by rw [hline, hrelay']; exact hs
    have hf := hfits _ hsettled hps
    rwa [← hcs] at hf
  generalize s.modLine l (writeLine p tip ring mode n ps) = t at *
  have hunequips (u : State) (hu : u.line l = t.line l) (hps : ps = []) :
      LineLaws ((((u.emptyDigits l).modScan l ScannerRecord.freeze).setCallState l .unequipped).line l) := by
    rw [State.setCallState_line_self, State.modScan_line_self, State.emptyDigits_line, hu]
    exact (hfits .unequipped (.inl rfl) (iff_of_true rfl hps)).unequips.enter
  unfold configureState
  rw [hcs]
  rcases hstate with hst | hst | hst <;> rw [hst]
  · have hno : Unjobbed s.msu l := by refine h.unjobbed ?_ ?_ ?_ <;> rw [hst] <;> nofun
    by_cases hps : ps = []
    · rw [hempty.2 hps]
      exact hstay (by rw [hst]; exact iff_of_true rfl hps)
    · have hne : ps.isEmpty = false := by simpa using hps
      obtain ⟨hset, hneq⟩ := idleOrParked_settled (t.line l)
      have hentered : EventKept l s ((t.modScan l ScannerRecord.begin).setCallState l (idleOrParked (t.line l))) := by
        refine h.event_of_unjobbed hno (by simp [hmsu])
          (hothers.trans ((State.modLine_othersKept _ l _).trans (State.setCallState_othersKept _ l _))) ?_
        rw [State.setCallState_line_self, State.modScan_line_self]
        exact (hfits _ hset (iff_of_false hneq hps)).samplingBegins.enter
      rw [hne]
      dsimp only
      rw [if_neg Bool.false_ne_true]
      split
      · exact hentered.stand (.queueReport _ _) (State.queueReport_othersKept _ l _)
      · exact hentered
  · by_cases hps : ps = []
    · rw [hempty.2 hps]
      refine h.event_of_dropped ?_ ?_ (hunequips _ (State.abortJobs_line t l l) hps)
      · simp [hmsu]
      · exact hothers.trans ((t.abortJobs_othersKept l).trans ((State.emptyDigits_othersKept _ l).trans
          ((State.modLine_othersKept _ l _).trans (State.setCallState_othersKept _ l _))))
    · have hne : ps.isEmpty = false := by simpa using hps
      rw [hne]
      exact hstay (by rw [hst]; exact iff_of_false nofun hps)
  · have hno : Unjobbed s.msu l := by refine h.unjobbed ?_ ?_ ?_ <;> rw [hst] <;> nofun
    by_cases hps : ps = []
    · rw [hempty.2 hps]
      refine h.event_of_unjobbed hno ?_ ?_ (hunequips t rfl hps)
      · simp [hmsu]
      · exact hothers.trans ((State.emptyDigits_othersKept _ l).trans
          ((State.modLine_othersKept _ l _).trans (State.setCallState_othersKept _ l _)))
    · have hne : ps.isEmpty = false := by simpa using hps
      rw [hne]
      exact hstay (by rw [hst]; exact iff_of_false nofun hps)

/-! ### BLOCK and UNBLOCK -/

theorem outOfService_eventKept (hst : s.callState l ≠ .unequipped) : EventKept l s (s.outOfService l) := by
  have hfits := (h.line l).outOfService hst (s.removeAssignment_removed l .removal)
  refine h.event_of_dropped ?_ (s.outOfService_othersKept l) ?_
  · simp [State.outOfService]
  · have hline := hfits.inState
    rw [State.removeAssignment_line_eq] at hline
    rw [State.outOfService_line]
    exact hline

theorem unblock_eventKept (hst : s.callState l = .blocked) : EventKept l s
    (if idleOrParked (s.line l) = .parked then
      (s.setCallState l (idleOrParked (s.line l))).queueReport (.parked l)
    else s.setCallState l (idleOrParked (s.line l))) := by
  have hno : Unjobbed s.msu l := by refine h.unjobbed ?_ ?_ ?_ <;> rw [hst] <;> nofun
  obtain ⟨hset, hne⟩ := idleOrParked_settled (s.line l)
  have hentered : EventKept l s (s.setCallState l (idleOrParked (s.line l))) := by
    refine h.event_of_unjobbed hno (State.setCallState_msu _ _ _) (s.setCallState_othersKept l _) ?_
    rw [State.setCallState_line_self]
    exact ((h.fits hst).settle (.inr (.inl rfl)) hset nofun hne).enter
  split
  · exact hentered.stand (.queueReport _ _) (State.queueReport_othersKept _ l _)
  · exact hentered

/-! ### TEST_LINE -/

theorem hostTest_eventKept (hst : s.callState l = .idle) (hnone : s.hasHostTest l = false) :
    EventKept l s (s.requestJob l .hostTest) := by
  refine ⟨s.requestJob_othersKept l l _, h.line l, h.book.requestJob (fun j hj hl => ?_) nofun hst⟩
  obtain ⟨hk, hjst⟩ := h.book.entries j hj
  rw [hl, hst] at hjst
  have hkind : j.kind = .hostTest := by
    cases hjk : j.kind with
    | hostTest => rfl
    | insulation => exact absurd hjk hk
    | originId => rw [hjk] at hjst; exact absurd hjst nofun
    | answerSide => rw [hjk] at hjst; exact absurd hjst nofun
  have hany : s.hasHostTest l = true :=
    List.any_eq_true.2 ⟨j, hj, by simp [hl, hkind]⟩
  exact absurd (hnone.symm.trans hany) nofun

/-! ### RING, CANCEL, CONNECT, RELEASE, REVERT -/

theorem rung_eventKept (hst : s.callState l = .idle) (hgood : (s.line l).record.condition ≠ .faulted) (p : Party)
    (n : Nat) : EventKept l s (s.rung l p n) := by
  refine h.event_of_dropped (State.rung_msu l p n s) (State.rung_othersKept l p n s) ?_
  rw [State.rung_line]
  refine ((h.fits hst).ringBegins hgood p.number ?_ rfl).enter
  have hcreated := State.createAssignment_asg_kind (s.ringOpened l p) l .plain ((s.line l).strokeOf p) none n
  obtain ⟨a, ha, hk⟩ := hcreated
  exact (Line.ringKind_of_asg ha).trans (congrArg some hk)

end Commands

end Sys2Proof.Machine
end

section
/-! PROOFS. The laws of calls through the events of one line: the commands of call control (R135 to R158), the timers
(R63, R96, R97, R134, R151), the samples of the trip detector (R78 to R82) and the completed jobs (R119 to R132, R155). -/

namespace Sys2Proof.Machine

/-- An event behind a change of its own line. -/
theorem EventKept.after {l : LineId} {s t u : State} (hothers : OthersKept l s t) (k : EventKept l t u) :
    EventKept l s u := ⟨hothers.trans k.others, k.line, k.book⟩

/-- The line as a reverting call's assignment is created on it. -/
theorem State.createAssignment_revert_ringKind (u : State) (l : LineId) (k0 : Stroke) (k1 : Option Stroke) (n : Nat) :
    ((u.createAssignment l .revert k0 k1 n).line l).ringKind = some .revert := by
  obtain ⟨a, ha, hk⟩ := u.createAssignment_asg_kind l .revert k0 k1 n
  exact (Line.ringKind_of_asg ha).trans (congrArg some hk)

/-- A line's records fit its call state as well once a QUENCH has ended on it (R63, R95). -/
theorem LineFits.quenchEnds {st : CallState} {x : Line} (h : LineFits st x) : LineFits st x.endQuench := by
  obtain ⟨hring, ⟨sc, sb, sl, sf, sr⟩, ⟨hp, hr, hq, hd, hc, hm, hi⟩, ⟨gu, gr, gp, gs, gh, gc, ge, gf⟩⟩ := h
  rw [Line.endQuench_eq]
  refine ⟨hring, ⟨?_, ?_, fun hne => absurd rfl hne, ?_, ?_⟩, ⟨hp, hr, hq, hd, hc, ?_, hi⟩,
    ⟨gu, gr, gp, gs, gh, gc, ge, gf⟩⟩ <;> dsimp only <;> split
  · exact sc
  · exact sc
  · exact sb
  · exact sb
  · exact sf
  · exact Nat.zero_le _
  · exact sr
  · exact ⟨Nat.zero_le _, nofun⟩
  · exact hm
  · exact hm

section Commands

variable {s : State} {l : LineId} (h : CallsBooked s)
include h

/-- A line with no job enters a state its records fit. -/
theorem CallsBooked.enters {t : State} {st : CallState} (hno : Unjobbed s.msu l) (hmsu : t.msu = s.msu)
    (hothers : OthersKept l s t) (hfits : LineFits st (t.line l)) : EventKept l s (t.setCallState l st) :=
  h.event_of_unjobbed hno (by rw [State.setCallState_msu, hmsu])
    (hothers.trans (State.setCallState_othersKept t l st)) (by rw [State.setCallState_line_self]; exact hfits.enter)

/-- A line whose jobs are dropped enters a state its records fit. -/
theorem CallsBooked.dropsAndEnters {t : State} {st : CallState} (hmsu : t.msu = s.msu.dropJobs l)
    (hothers : OthersKept l s t) (hfits : LineFits st (t.line l)) : EventKept l s (t.setCallState l st) :=
  h.event_of_dropped (by rw [State.setCallState_msu, hmsu])
    (hothers.trans (State.setCallState_othersKept t l st)) (by rw [State.setCallState_line_self]; exact hfits.enter)

/-! ### CONNECT, RELEASE and the other exits from ORIGINATING -/

theorem left_eventKept {st : CallState} (horig : s.callState l = .originating) (hst : st.Settled) (he : st ≠ .unequipped) :
    EventKept l s ((s.leaveOriginating l).setCallState l st) :=
  h.dropsAndEnters (s.leaveOriginating_msu l) (s.leaveOriginating_othersKept l)
    (by rw [State.leaveOriginating_left]; exact (h.fits horig).left hst he)

theorem signalParked_eventKept (horig : s.callState l = .originating) : EventKept l s (s.signalParked l) := by
  refine h.event_of_dropped (s.signalParked_msu l) (s.signalParked_othersKept l) ?_
  have hleft := (h.fits horig).left (st := .parked) (.inr (.inr (.inr (.inr rfl)))) nofun
  have hempty : LineFits .parked { (s.line l).leftOriginating with dial := { (s.line l).leftOriginating.dial with
      collection := .off, pulseCount := 0, interdigit := none, digits := [], errors := ⟨false, false, false⟩
      complete := false, markerOwed := false } } :=
    ⟨hleft.ring, hleft.scanner.of_scan rfl id, hleft.dial.ended nofun rfl rfl rfl rfl (.inr rfl) rfl,
      .of_clear (.inr (.inr (.inr (.inr rfl)))) (h.fits horig).left_clear hleft.call.unequipped
        hleft.call.earlyPickups.1⟩
  rw [State.signalParked_line]
  exact hempty.inState

theorem putDown_eventKept (hst : s.callState l = .connected) : EventKept l s (s.putDown l) := by
  have hno : Unjobbed s.msu l := by refine h.unjobbed ?_ ?_ ?_ <;> rw [hst] <;> nofun
  obtain ⟨hset, hne⟩ := idleOrParked_settled (s.line l)
  exact h.enters hno rfl (.refl l s) ((h.fits hst).settle (.inr (.inr (.inr (.inl rfl)))) hset nofun hne)

theorem revertHeld_eventKept (horig : s.callState l = .originating) (hgood : (s.line l).record.condition ≠ .faulted)
    (d c : PartyNo) (recallOn : Bool) : EventKept l s (s.revertHeld l d c recallOn) := by
  refine h.event_of_dropped (State.revertHeld_msu _ _ _ _ _) (State.revertHeld_othersKept _ _ _ _ _) ?_
  have hline := ((h.fits horig).held hgood d c recallOn (s.params.revertHoldS * 1000)).inState
  rw [State.revertHeld_line]
  exact hline

/-! ### CANCEL -/

theorem cancel_eventKept {t : State} (hc : cancelEffect l s = some t) : EventKept l s t := by
  have hremoved := s.removeAssignment_removed l .removal
  have hidle : CallState.idle.Settled := .inr (.inr (.inl rfl))
  by_cases h1 : s.callState l = .ringing
  · rw [cancelEffect_of_ringing h1] at hc
    cases hc
    have hno : Unjobbed s.msu l := by refine h.unjobbed ?_ ?_ ?_ <;> rw [h1] <;> nofun
    refine h.enters hno (by simp) ((s.removeAssignment_othersKept l _).trans (State.modLine_othersKept _ l _)) ?_
    rw [State.modCall_line_self]
    exact hremoved.of_ringing (h.fits h1) hidle nofun
  by_cases h2 : s.callState l = .revertRinging
  · rw [cancelEffect_of_revertRinging h2] at hc
    cases hc
    have hno : Unjobbed s.msu l := by refine h.unjobbed ?_ ?_ ?_ <;> rw [h2] <;> nofun
    refine h.enters hno (by simp [State.clearRevert])
      ((s.removeAssignment_othersKept l _).trans (State.clearRevert_othersKept _ l)) ?_
    rw [State.clearRevert_line]
    exact hremoved.of_revertRinging (h.fits h2) hidle nofun
  by_cases h3 : s.callState l = .revertHold
  · rw [cancelEffect_of_revertHold h3] at hc
    cases hc
    have hno : Unjobbed s.msu l := by refine h.unjobbed ?_ ?_ ?_ <;> rw [h3] <;> nofun
    refine h.event_of_unjobbed hno (s.returnToCaller_msu l) (s.returnToCaller_othersKept l) ?_
    rw [State.returnToCaller_line]
    exact (h.fits h3).returned (.inl rfl) _ _ (h.fits h3).call.earlyPickups.1
  by_cases h4 : s.callState l = .revertCheck
  · rw [cancelEffect_of_revertCheck h4] at hc
    cases hc
    refine h.dropsAndEnters (by simp [State.clearRevert]) ((s.abortJobs_othersKept l).trans (State.clearRevert_othersKept _ l)) ?_
    rw [State.clearRevert_line, State.abortJobs_line]
    exact (h.fits h4).revertEnds (.inr (.inr (.inr (.inr rfl)))) nofun
  · rw [cancelEffect_of_other (by simp [h1, h2, h3, h4])] at hc
    exact absurd hc nofun

/-! ### The break timer (R97) -/

theorem breakTaken_booked : CallsBooked (s.breakTaken l) := by
  have hk : EventKept l s (s.breakTaken l) := by
    refine h.event_of_same rfl (s.breakTaken_othersKept l) ?_ (s.breakTaken_callState l) ?_ <;> rw [State.breakTaken_line]
    · obtain ⟨hring, hscanner, ⟨hp, hr, hq, hd, hc, hm, hi⟩, ⟨gu, gr, gp, gs, gh, gc, ge, gf⟩⟩ := h.line l
      exact ⟨hring, hscanner.stopTimers rfl (.inl rfl) (.inr rfl) rfl rfl rfl id, ⟨hp, hr, hq, hd, hc, hm, hi⟩,
        ⟨gu, gr, gp, gs, gh, gc, ge, gf⟩⟩
    · exact id
  exact hk.booked h

theorem clearLine_eventKept {st : CallState} (hst : st = .connected ∨ st = .parked) (hl : s.callState l = st) :
    EventKept l s (s.clearLine l st) := by
  have hsettled : st.Settled ∧ st ≠ .unequipped := by
    rcases hst with rfl | rfl
    exacts [⟨.inr (.inr (.inr (.inl rfl))), nofun⟩, ⟨.inr (.inr (.inr (.inr rfl))), nofun⟩]
  have hno : Unjobbed s.msu l := by
    refine h.unjobbed ?_ ?_ ?_ <;> rw [hl] <;> rcases hst with e | e <;> rw [e] <;> nofun
  exact (h.enters hno rfl (.refl l s) ((h.fits hl).settle hsettled.1 (.inr (.inr (.inl rfl))) hsettled.2 nofun)).stand
    (.queueReport _ _) (State.queueReport_othersKept _ l _)

omit h in
theorem reverting_eventKept {u : State} {st : CallState} (hst : st = .revertHold ∨ st = .revertCheck)
    (hothers : OthersKept l s u) (hfits : LineFits st (u.line l)) (hstate : u.callState l = st)
    (hhold : (u.line l).call.revertHold = none) (hbook : JobBook u) (hno : Unjobbed u.msu l) :
    EventKept l s (u.beginReverting l) := by
  cases hk : (u.line l).revertStrokes with
  | none =>
    rw [State.beginReverting_of_none hk]
    refine ⟨hothers, ?_, hbook⟩
    rwa [← hstate] at hfits
  | some p =>
    have hothers' := u.beginReverting_othersKept l
    refine ⟨hothers.trans hothers', ?_, hbook.of_line (u.beginReverting_msu l) hothers' (.inr hno)⟩
    rw [State.beginReverting_of_strokes hk, State.setCallState_line_self]
    exact (hfits.revertBegins hst (State.createAssignment_revert_ringKind _ _ _ _ _) (State.createAssignment_line _ _ _ _ _ _)
      fun _ => hhold).enter

theorem breakReached_eventKept : EventKept l s (s.breakReached l) := by
  rcases (s.callState l).breakRow with h1 | h1 | (h1 | h1) | h1
  · rw [State.breakReached_of_originating h1]
    exact (left_eventKept h h1 (.inr (.inr (.inl rfl))) nofun).stand (.queueReport _ _) (State.queueReport_othersKept _ l _)
  · rw [State.breakReached_of_clear h1]
    exact clearLine_eventKept h h1 rfl
  · rw [State.breakReached_of_revertHold h1]
    have hno : Unjobbed s.msu l := by refine h.unjobbed ?_ ?_ ?_ <;> rw [h1] <;> nofun
    have hothers := s.modCall_othersKept l fun c => { c with revertHold := none }
    refine reverting_eventKept (.inl rfl) hothers ?_ ?_ ?_ ?_ ?_
    · rw [State.modCall_line_self]
      obtain ⟨hring, hscanner, hdial, ⟨gu, gr, gp, gs, gh, gc, ge, gf⟩⟩ := h.fits h1
      exact ⟨hring, hscanner.of_scan rfl id, hdial.move nofun nofun rfl rfl,
        ⟨gu, gr, gp, gs, fun hne => absurd rfl hne, gc, ge, gf⟩⟩
    · rw [State.callState, State.modCall_line_self]; exact h1
    · rw [State.modCall_line_self]
    · exact h.book.of_line rfl hothers (.inr hno)
    · exact hno
  · rw [State.breakReached_of_revertCheck h1]
    have hfits : LineFits .revertCheck ((s.abortJobs l).line l) := by rw [State.abortJobs_line]; exact h.fits h1
    refine reverting_eventKept (.inr rfl) (s.abortJobs_othersKept l) hfits ?_ ?_ ?_ ?_
    · rw [State.callState, State.abortJobs_line]; exact h1
    · by_contra hne; exact absurd (hfits.call.revertHold hne) nofun
    · exact h.book.of_dropped (s.abortJobs_msu l) (s.abortJobs_othersKept l)
    · rw [State.abortJobs_msu]; exact .of_dropped _ _
  · rw [State.breakReached_of_other h1]
    exact ⟨.refl l s, h.line l, h.book⟩

/-! ### The closed-hold timer (R96) -/

theorem holdTaken_booked : CallsBooked (s.holdTaken l) := by
  have hk : EventKept l s (s.holdTaken l) := by
    refine h.event_of_same rfl (s.holdTaken_othersKept l) ?_ (s.holdTaken_callState l) ?_ <;> rw [State.holdTaken_line]
    · obtain ⟨hring, hscanner, ⟨hp, hr, hq, hd, hc, hm, hi⟩, ⟨gu, gr, gp, gs, gh, gc, ge, gf⟩⟩ := h.line l
      exact ⟨hring, hscanner.stopTimers rfl (.inr rfl) (.inl rfl) rfl rfl rfl id, ⟨hp, hr, hq, hd, hc, hm, hi⟩,
        ⟨gu, gr, gp, gs, gh, gc, ge, gf⟩⟩
    · exact id
  exact hk.booked h

theorem originate_eventKept (hst : s.callState l = .idle) : EventKept l s (s.originate l) := by
  have hline : LineLaws ((s.originate l).line l) := by
    rw [State.originate_line]
    exact (h.fits hst).originates _ _ _ ⟨rfl, rfl, rfl, rfl⟩
  have hothers := s.originationOpened_othersKept l
  have hmsu : (s.originationOpened l).msu = s.msu.dropJobs l := by
    rw [State.originationOpened, State.startPermanentSignal, State.modCall_msu, State.openCollection_msu,
      State.setCallState_msu, State.abortJobs_msu]
  have hbook : JobBook (s.originationOpened l) := h.book.of_dropped hmsu hothers
  refine ⟨s.originate_othersKept l, hline, ?_⟩
  by_cases hfault : (s.line l).record.condition = .faulted
  · rw [State.originate_of_faulted hfault]
    exact hbook.of_line (State.originateDue_msu _ _ _ _) (State.originateDue_othersKept _ l _ _)
      (.inr (hmsu ▸ Unjobbed.of_dropped s.msu l))
  · rw [State.originate_of_good hfault]
    have hcalled : JobBook ((s.originationOpened l).modCall l fun c => { c with originationPending := true }) :=
      hbook.of_line rfl (State.modCall_othersKept _ l _) (.inr (hmsu ▸ Unjobbed.of_dropped s.msu l))
    refine hcalled.requestJob ?_ (by nofun) ?_
    · rw [State.modCall_msu, hmsu]; exact (Unjobbed.of_dropped s.msu l).jobs
    · rw [State.callState, State.modCall_line_self, State.originationOpened_line]; rfl

theorem heldClosed_eventKept : EventKept l s (s.heldClosed l) := by
  by_cases h1 : s.callState l = .idle
  · have heq : s.heldClosed l = s.originate l := by simp [State.heldClosed, h1]
    rw [heq]; exact originate_eventKept h h1
  by_cases h2 : s.callState l = .ringing ∨ s.callState l = .revertRinging
  · rw [State.heldClosed_of_rung h2]
    have hstand : CallsStand s (s.verifyEnded l) := by
      unfold State.verifyEnded
      split
      exacts [.modDet s l _, .refl s]
    obtain ⟨source, side, heq⟩ := s.silenceAnswer_answer l
    rw [heq]
    exact (answer_eventKept (hstand.booked h) source side).after (s.verifyEnded_othersKept l)
  · rw [not_or] at h2
    rw [State.heldClosed_of_other h1 h2.1 h2.2]
    exact ⟨.refl l s, h.line l, h.book⟩

/-! ### The end of a QUENCH (R63) -/

theorem quenchEnd_eventKept : EventKept l s (s.modLine l Line.endQuench) := by
  have hline := s.modLine_line_self l Line.endQuench
  have hstate : (s.line l).endQuench.record = (s.line l).record ∧ (s.line l).endQuench.relay.phase = .silent := by
    rw [Line.endQuench_eq]; exact ⟨rfl, rfl⟩
  refine h.event_of_same rfl (s.modLine_othersKept l _) ?_ ?_ ?_
  · rw [hline, LineLaws, hstate.1]; exact (h.line l).quenchEnds
  · rw [State.callState, hline, hstate.1]; rfl
  · intro _; rw [hline]; exact hstate.2

/-! ### Completed jobs (R119, R132, R155) -/

theorem releaseHead_booked : CallsBooked (s.releaseHead l) ∧ Unjobbed (s.releaseHead l).msu l :=
  ⟨⟨h.line, h.book.releaseHead l⟩, ⟨fun j hj => by simpa using (List.mem_filter.1 hj).2, nofun⟩⟩

theorem originIdDone_eventKept (r : IdResult) (gc : Option (PerSide Nat)) :
    EventKept l s ((s.releaseHead l).originateDue l r gc) := by
  have hb := (releaseHead_booked (l := l) h).1
  refine EventKept.after (s.releaseHead_othersKept l) (hb.event_of_same (State.originateDue_msu _ _ _ _)
    (State.originateDue_othersKept _ l r gc) ?_ ?_ ?_)
  · rw [State.originateDue_line]
    obtain ⟨hring, hscanner, ⟨hp, hr, hq, hd, hc, hm, hi⟩, ⟨gu, gr, gp, gs, gh, gc, ge, gf⟩⟩ := hb.line l
    exact ⟨hring, hscanner.of_scan rfl id, ⟨hp, hr, hq, hd, hc, hm, hi⟩, ⟨gu, gr, nofun, gs, gh, gc, ge, gf⟩⟩
  · rw [State.callState, State.originateDue_line]; rfl
  · rw [State.originateDue_line]; exact id

theorem decideAnswer_eventKept (hno : Unjobbed s.msu l) (hst : s.callState l = .revertCheck) (x : Option Side) :
    EventKept l s (s.decideAnswer l x) := by
  have hfits := h.fits hst
  have hkept := s.decideAnswer_kept l x
  have hpick := (hfits.holding (.inr rfl)).2.2.2.2.2.1
  refine h.event_of_unjobbed hno hkept.msu hkept.others ?_
  rcases s.decideAnswer_cases l x with ⟨source, heq⟩ | heq <;> rw [heq]
  · rw [State.revertAnswered_line]
    exact (hfits.revertEnds (.inr (.inr (.inr (.inl rfl)))) nofun).inState
  · rcases Nat.lt_or_ge (s.line l).record.earlyPickups 2 with hlt | hge
    · rw [State.earlyPickup_line_of_below _ _ hlt]
      exact hfits.heldAgain _ _ (by omega)
    · rw [State.earlyPickup_line_of_limit _ _ hge]
      exact hfits.returned (.inr rfl) _ _ (by omega)

/-- A test leaves the records of an IDLE line's call as they were; it may make the line FAULTED. -/
theorem tested_lineLaws (p : Params) (g : PerSide Nat) (hst : s.callState l = .idle) :
    LineLaws ((s.line l).tested p g) ∧ ((s.line l).tested p g).record.callState = .idle ∧
      ((s.line l).tested p g).relay = (s.line l).relay := by
  obtain ⟨hring, hscanner, ⟨hp, hr, hq, hd, hc, hm, hi⟩, ⟨gu, gr, gp, gs, gh, gc, ge, gf⟩⟩ := h.fits hst
  have hstate : (s.line l).record.callState = .idle := hst
  rw [LineLaws, Line.tested_eq]
  refine ⟨?_, hstate, rfl⟩
  dsimp only
  rw [hstate]
  exact ⟨hring, hscanner.of_scan rfl id, ⟨hp, hr, hq, hd, hc, hm, hi⟩,
    ⟨gu, gr, gp, gs, gh, gc, ge, fun _ => ⟨nofun, nofun, nofun, nofun⟩⟩⟩

theorem hostTested_eventKept (hst : s.callState l = .idle) (g : PerSide Nat) : EventKept l s (s.hostTested l g) := by
  have hb := (releaseHead_booked (l := l) h).1
  have hstored := s.hostTested_stored l g
  obtain ⟨hlaws, hidle, hrelay⟩ := tested_lineLaws h s.params g hst
  refine EventKept.after (s.releaseHead_othersKept l) (hb.event_of_same ?_ hstored.others ?_ ?_ ?_)
  · rw [State.hostTested, State.queueReport_msu, State.modLine_msu]
  · rw [hstored.line]; exact hlaws
  · rw [State.callState, hstored.line, hidle]; exact hst.symm
  · rw [hstored.line, hrelay]; exact id

end Commands

/-- A completed insulation test takes one off the backlog and leaves the head (R115, R116). -/
theorem JobBook.insulationDone {s : State} (h : JobBook s) :
    JobBook { s with msu := { s.msu.insulationDone with running := none } } := by
  obtain ⟨h1, h2, h3, -, h5, -, -, -, h9, h10, h11⟩ := h
  refine ⟨h1, h2, h3, nofun, h5, nofun, nofun, nofun, ?_, ?_, ?_⟩
  · exact (Nat.sub_le _ _).trans h9
  · intro hge
    have hset := h10 (hge.trans (Nat.sub_le _ _))
    have hge' : 12 ≤ s.msu.backlog - 1 := hge
    have hnot : ¬s.msu.backlog - 1 ≤ 8 := by omega
    simp [MeasurementUnit.insulationDone, hset, Config.mustClearAt, hnot]
  · intro hm
    obtain ⟨-, hmore⟩ : s.msu.mustRun = true ∧ 9 < s.msu.backlog := by
      simpa [MeasurementUnit.insulationDone, Config.mustClearAt] using hm
    exact Nat.le_sub_one_of_lt hmore

theorem insulated_eventKept {s : State} {l : LineId} (h : CallsBooked s) (hst : s.callState l = .idle)
    (g : PerSide Nat) : EventKept l s (s.insulated l g) := by
  have hstored := s.insulated_stored l g
  obtain ⟨hlaws, hidle, hrelay⟩ := tested_lineLaws h s.params g hst
  have hbook := h.book.insulationDone
  refine ⟨hstored.others, by rw [hstored.line]; exact hlaws, hbook.of_line rfl hstored.others (.inl ⟨?_, ?_⟩)⟩
  · rw [State.callState, hstored.line, hidle]; exact hst.symm
  · rw [hstored.line, hrelay]; exact id

end Sys2Proof.Machine
end

section
/-! PROOFS. The laws of calls through the loop samples (R93 to R98), the dial timers (R100 to R103) and the revert hold
(R151), after which the arbiter makes no choice. -/

namespace Sys2Proof.Machine

section Quiet

variable {s t : State} {l : LineId}

/-- An event that frees no job: the unit stands, and the line becomes neither SILENT nor IDLE. -/
theorem EventKept.quiet (k : EventKept l s t) (h : CallLaws s) (hmsu : t.msu = s.msu)
    (hsilent : (t.line l).relay.phase = .silent → (s.line l).relay.phase = .silent)
    (hidle : t.callState l = .idle → s.callState l = .idle) : CallLaws t := by
  refine callLaws_of_lines (k.booked h.booked).line (k.book.law fun hfree => ?_)
  refine runnableJobs_of_fewer (h.jobs.chosen (hmsu ▸ hfree)) hmsu (fun m => ?_) fun m => ?_
  · by_cases e : m = l
    · rw [e]; exact hsilent
    · rw [k.others m e]; exact id
  · by_cases e : m = l
    · rw [e]; exact hidle
    · rw [State.callState, k.others m e]; exact id

/-- A change of one line that keeps its record and its relays. -/
theorem CallLaws.of_change (h : CallLaws s) (hmsu : t.msu = s.msu) (hothers : OthersKept l s t)
    (hrecord : (t.line l).record = (s.line l).record) (hrelay : (t.line l).relay = (s.line l).relay)
    (hline : LineLaws (t.line l)) : CallLaws t := by
  have hstate : t.callState l = s.callState l := congrArg LineRecord.callState hrecord
  exact (h.booked.event_of_same hmsu hothers hline hstate (by rw [hrelay]; exact id)).quiet h hmsu
    (by rw [hrelay]; exact id) (by rw [hstate]; exact id)

end Quiet

/-! ### Samples of the loop (R93 to R95) -/

section Samples

variable {s : State} {l : LineId}

/-- The scanner's law of a line that is not blind. -/
theorem ScannerLaw.of_silent {x : Line} (hs : x.relay.phase = .silent) (hold : x.scan.closedHold ≠ none → x.scan.closed = true)
    (hbreak : x.scan.breakTimer ≠ none → x.scan.closed = false) (hfilter : x.scan.filterCount ≤ 2)
    (hre : x.scan.reacquireCount ≤ 2 ∧ (x.scan.reacquiring = false → x.scan.reacquireCount = 0)) : ScannerLaw x :=
  ⟨hold, hbreak, fun hne => absurd hs hne, hfilter, hre⟩

/-- A line's records fit its call state under a new scanner record, as long as no make timer starts. -/
theorem LineFits.scanned {st : CallState} {x : Line} (h : LineFits st x) {c : ScannerRecord}
    (hscan : ScannerLaw { x with scan := c }) (hmake : c.makeTimer = x.scan.makeTimer ∨ c.makeTimer = none) :
    LineFits st { x with scan := c } := by
  obtain ⟨hring, -, ⟨hp, hr, hq, hd, hc, hm, hi⟩, ⟨gu, gr, gp, gs, gh, gc, ge, gf⟩⟩ := h
  refine ⟨hring, hscan, ⟨hp, hr, hq, hd, hc, fun hne => ?_, hi⟩, ⟨gu, gr, gp, gs, gh, gc, ge, gf⟩⟩
  rcases hmake with e | e
  · exact hm (e ▸ hne)
  · exact absurd e hne

theorem CallLaws.modScan (h : CallLaws s) {f : ScannerRecord → ScannerRecord}
    (hscan : ScannerLaw { s.line l with scan := f (s.line l).scan })
    (hmake : (f (s.line l).scan).makeTimer = (s.line l).scan.makeTimer ∨ (f (s.line l).scan).makeTimer = none) :
    CallLaws (s.modScan l f) := by
  refine h.of_change rfl (s.modLine_othersKept l _) ?_ ?_ ?_ <;> rw [State.modScan_line_self]
  exact (h.line l).scanned hscan hmake

theorem sampled_callLaws (h : CallLaws s) (hs : (s.line l).relay.phase = .silent) : CallLaws (s.sampled l) := by
  obtain ⟨sc, sb, -, sf, sr⟩ := h.scanner l
  refine h.modScan (.of_silent hs sc (fun hne => sb fun hnone => hne ?_) sf sr) (.inl rfl)
  show Option.map _ (s.line l).scan.breakTimer = none
  rw [hnone]; rfl

/-- The scanner's record at a make. -/
theorem ScannerLaw.make {x : Line} (h : ScannerLaw x) (hs : x.relay.phase = .silent) :
    ScannerLaw { x with scan := x.scan.make } :=
  .of_silent hs (fun _ => rfl) (fun hne => absurd rfl hne) (Nat.zero_le _) h.reacquire

/-- The scanner's record at a break. -/
theorem ScannerLaw.break {x : Line} (h : ScannerLaw x) (hs : x.relay.phase = .silent) :
    ScannerLaw { x with scan := x.scan.break } :=
  .of_silent hs (fun hne => absurd rfl hne) (fun _ => rfl) (Nat.zero_le _) h.reacquire

theorem pulseCounted_callLaws (h : CallLaws s) (hopen : (s.line l).dial.collection = .opened) :
    CallLaws (s.pulseCounted l) := by
  have hline : (s.pulseCounted l).line l = _ := State.modLine_line_self s l _
  refine h.of_change rfl (s.modLine_othersKept l _) ?_ ?_ ?_ <;> rw [hline]
  obtain ⟨hring, hscanner, ⟨hp, hr, hq, hd, hc, hm, hi⟩, ⟨gu, gr, gp, gs, gh, gc, ge, gf⟩⟩ := h.line l
  exact ⟨hring, hscanner.stopTimers rfl (.inl rfl) (.inl rfl) rfl rfl rfl id,
    ⟨Nat.min_le_left _ _, hr, hq, hd, hc, fun _ => hopen, hi⟩, ⟨gu, gr, gp, gs, gh, gc, ge, gf⟩⟩

theorem trainSpoilt_callLaws (h : CallLaws s) : CallLaws (s.trainSpoilt l) := by
  have hline : (s.trainSpoilt l).line l = _ := State.modLine_line_self s l _
  refine h.of_change rfl (s.modLine_othersKept l _) ?_ ?_ ?_ <;> rw [hline]
  obtain ⟨hring, hscanner, ⟨hp, hr, hq, hd, hc, hm, hi⟩, ⟨gu, gr, gp, gs, gh, gc, ge, gf⟩⟩ := h.line l
  exact ⟨hring, hscanner.stopTimers rfl (.inl rfl) (.inl rfl) rfl rfl rfl id,
    ⟨Nat.zero_le _, hr, hq, hd, hc, fun hne => absurd rfl hne, hi⟩, ⟨gu, gr, gp, gs, gh, gc, ge, gf⟩⟩

theorem classifyBreak_callLaws (h : CallLaws s) (n : Nat) : CallLaws (s.classifyBreak l n) := by
  by_cases hopen : (s.line l).dial.collection = .opened
  · rcases s.classifyBreak_cases l n with e | e | e | e <;> rw [e]
    · rw [State.dialPulse_of_opened hopen]; exact pulseCounted_callLaws h hopen
    · rw [State.badBreak_of_opened hopen]; exact (CallsStand.markerEvent _ l).callLaws (trainSpoilt_callLaws h)
    · exact (CallsStand.queueReport s _).callLaws h
    · exact h
  · rcases s.classifyBreak_cases l n with e | e | e | e <;> rw [e]
    · rw [State.dialPulse_of_other hopen]; exact h
    · rw [State.badBreak_of_other hopen]; exact h
    · exact (CallsStand.queueReport s _).callLaws h
    · exact h

theorem filterSample_callLaws (h : CallLaws s) (hs : (s.line l).relay.phase = .silent) (closed : Bool) :
    CallLaws (s.filterSample l closed) := by
  have hk := sampled_callLaws h hs
  have hs' : ((s.sampled l).line l).relay.phase = .silent := by rw [State.sampled_line]; exact hs
  have hcount : ((s.sampled l).line l).scan.filterCount = (s.line l).scan.filterCount := by rw [State.sampled_line]
  have hlaw := hk.scanner l
  have hmake : CallLaws (s.closedLoop l) := hk.modScan (hlaw.make hs') (.inl rfl)
  by_cases hsame : closed = (s.line l).scan.closed
  · rw [State.filterSample_of_same hsame]
    exact hk.modScan (.of_silent hs' hlaw.closedHold hlaw.breakTimer (Nat.zero_le _) hlaw.reacquire) (.inl rfl)
  · rcases Nat.lt_or_ge (s.line l).scan.filterCount 2 with hlt | hge
    · rw [State.filterSample_of_counted hsame hlt]
      refine hk.modScan (.of_silent hs' hlaw.closedHold hlaw.breakTimer ?_ hlaw.reacquire) (.inl rfl)
      show ((s.sampled l).line l).scan.filterCount + 1 ≤ 2
      omega
    · cases closed with
      | false =>
        rw [State.filterSample_of_break (by simpa using Ne.symm hsame) hge]
        exact hk.modScan (hlaw.break hs') (.inr rfl)
      | true =>
        rw [State.filterSample_of_make (by simpa using Ne.symm hsame) hge]
        cases hb : (s.line l).scan.breakTimer with
        | none => rw [State.make_of_none hb]; exact hmake
        | some n =>
          rw [State.make_of_break (n := min 1050 (n + 5)) (by rw [hb]; rfl)]
          exact classifyBreak_callLaws hmake _

/-- The scanner's record at a sample while reacquiring (R95). -/
theorem ScannerLaw.reacquired {x : Line} (h : ScannerLaw x) (hs : x.relay.phase = .silent)
    (hr : x.scan.reacquiring = true) (b : Bool) :
    ScannerLaw { x with scan := x.scan.reacquire b } ∧
      ((x.scan.reacquire b).makeTimer = x.scan.makeTimer ∨ (x.scan.reacquire b).makeTimer = none) := by
  obtain ⟨sc, sb, -, sf, ⟨hle, -⟩⟩ := h
  have hre (hf : x.scan.reacquiring = false) : False := absurd (hr.symm.trans hf) nofun
  by_cases hnew : x.scan.reacquireCount = 0 ∨ b ≠ x.scan.lastSample
  · rw [ScannerRecord.reacquire_of_new hnew]
    exact ⟨.of_silent hs sc sb sf ⟨(by decide : 1 ≤ 2), fun hf => (hre hf).elim⟩, .inl rfl⟩
  · simp only [not_or, not_not] at hnew
    obtain ⟨hpos, hsame⟩ := hnew
    by_cases hone : x.scan.reacquireCount = 1
    · rw [ScannerRecord.reacquire_of_second hone hsame]
      exact ⟨.of_silent hs sc sb sf ⟨le_refl 2, fun hf => (hre hf).elim⟩, .inl rfl⟩
    · rw [ScannerRecord.reacquire_of_third (by omega) hsame]
      unfold ScannerRecord.reacquired
      dsimp only
      split <;> rename_i hc
      · exact ⟨.of_silent hs (fun hne => absurd (hc.symm.trans (sc hne)) nofun) (fun _ => hc) sf ⟨Nat.zero_le _, fun _ => rfl⟩,
          .inl rfl⟩
      · exact ⟨.of_silent hs (fun _ => rfl) (fun hne => absurd rfl hne) (Nat.zero_le _) ⟨Nat.zero_le _, fun _ => rfl⟩, .inl rfl⟩
      · exact ⟨.of_silent hs (fun _ => hc) (fun hne => absurd (hc.symm.trans (sb hne)) nofun) sf ⟨Nat.zero_le _, fun _ => rfl⟩,
          .inl rfl⟩
      · exact ⟨.of_silent hs (fun hne => absurd rfl hne) (fun _ => rfl) (Nat.zero_le _) ⟨Nat.zero_le _, fun _ => rfl⟩, .inr rfl⟩

theorem loopSampleStep_callLaws (h : CallLaws s) (closed : Bool) : CallLaws (loopSampleStep l closed s) := by
  unfold loopSampleStep
  split
  · rename_i hsampled
    split
    · rename_i hr
      obtain ⟨hscan, hmake⟩ := (h.scanner l).reacquired hsampled.2 hr closed
      exact h.modScan hscan hmake
    · exact filterSample_callLaws h hsampled.2 closed
  · exact h

/-! ### The dial timers (R100 to R102) -/

theorem makeTimed_callLaws (h : CallLaws s) : CallLaws (s.makeTimed l) :=
  h.modScan ((h.scanner l).stopTimers rfl (.inl rfl) (.inl rfl) rfl rfl rfl id) (.inr rfl)

theorem trainOverlong_callLaws (h : CallLaws s) : CallLaws (s.trainOverlong l) := by
  have hline : (s.trainOverlong l).line l = _ := State.modDial_line_self s l _
  refine h.of_change rfl (s.modLine_othersKept l _) ?_ ?_ ?_ <;> rw [hline]
  obtain ⟨hring, hscanner, ⟨hp, hr, hq, hd, hc, hm, hi⟩, ⟨gu, gr, gp, gs, gh, gc, ge, gf⟩⟩ := h.line l
  exact ⟨hring, hscanner.of_scan rfl id, ⟨Nat.zero_le _, hr, hq, hd, hc, hm, hi⟩, ⟨gu, gr, gp, gs, gh, gc, ge, gf⟩⟩

theorem completeBlock_callLaws (h : CallLaws s) (hopen : (s.line l).dial.collection = .opened) :
    CallLaws (s.completeBlock l) := by
  refine h.of_change rfl (s.modLine_othersKept l _) ?_ ?_ ?_ <;> rw [State.completeBlock_line]
  obtain ⟨hring, hscanner, ⟨hp, hr, hq, hd, hc, hm, hi⟩, ⟨gu, gr, gp, gs, gh, gc, ge, gf⟩⟩ := h.line l
  exact ⟨hring, hscanner.stopTimers rfl (.inl rfl) (.inl rfl) rfl rfl rfl id,
    ⟨Nat.zero_le _, hr, hq, hd, iff_of_true nofun (hc.1 (by rw [hopen]; nofun)), fun hne => absurd rfl hne,
      fun hne => absurd rfl hne⟩, ⟨gu, gr, gp, gs, gh, gc, ge, gf⟩⟩

/-- A digit goes to the queue, which stays within its 16 (R101). -/
theorem takeDigit_bounds {d : DialRecord} {digit : Nat} (hd : ∀ n ∈ d.digits, n ≤ 9) (hq : d.digits.length ≤ 16)
    (h : digit ≤ 9) :
    (∀ n ∈ (d.takeDigit digit).digits, n ≤ 9) ∧ (d.takeDigit digit).digits.length ≤ 16 := by
  rw [DialRecord.takeDigit_eq]
  dsimp only
  split
  · refine ⟨fun n hn => ?_, by simpa using by omega⟩
    rcases List.mem_append.1 hn with hn | hn
    · exact hd n hn
    · rw [List.mem_singleton.1 hn]; exact h
  · exact ⟨hd, hq⟩

theorem digitSettled_callLaws (h : CallLaws s) (hopen : (s.line l).dial.collection = .opened) {digit : Nat}
    (hdigit : digit ≤ 9) : CallLaws (s.digitSettled l digit) := by
  have hmsu : (s.digitSettled l digit).msu = s.msu := by rw [State.digitSettled_eq]
  obtain ⟨hring, hscanner, ⟨hp, hr, hq, hd, hc, hm, hi⟩, ⟨gu, gr, gp, gs, gh, gc, ge, gf⟩⟩ := h.line l
  have horig : (s.line l).record.callState = .originating := hc.1 (by rw [hopen]; nofun)
  obtain ⟨hdigits, hlength⟩ := takeDigit_bounds hd hq hdigit
  refine h.of_change hmsu (s.digitSettled_othersKept l digit) ?_ ?_ ?_ <;> rw [State.digitSettled_line]
  refine ⟨hring, ?_, ?_, ⟨gu, gr, gp, iff_of_true nofun horig, gh, gc, ge, gf⟩⟩
  · exact hscanner.stopTimers rfl (.inl rfl) (.inl rfl) rfl rfl rfl id
  · refine ⟨?_, ?_, hlength, hdigits, ?_, fun hne => ?_, fun hne => ?_⟩
    · rw [DialRecord.takeDigit_eq]; exact Nat.zero_le _
    · rw [DialRecord.takeDigit_eq]; exact Nat.min_le_left _ _
    · dsimp only
      split
      · exact iff_of_true nofun horig
      · exact hc
    · dsimp only at hne ⊢
      split at hne
      · exact absurd rfl hne
      · rename_i hn; rw [if_neg hn]; exact hopen
    · dsimp only at hne ⊢
      split at hne
      · exact absurd rfl hne
      · rename_i hn; rw [if_neg hn]; exact hopen

theorem makeTimerExpiryStep_callLaws (h : CallLaws s) : CallLaws (makeTimerExpiryStep l s) := by
  unfold makeTimerExpiryStep
  split
  · exact h
  · have hk : CallLaws (s.makeTimed l) := makeTimed_callLaws h
    dsimp only
    split
    · rename_i hopen
      have hopen' : ((s.makeTimed l).line l).dial.collection = .opened := hopen
      show CallLaws ((s.makeTimed l).trainEnds l)
      generalize s.makeTimed l = t at hk hopen'
      rcases Nat.eq_zero_or_pos (t.line l).dial.pulseCount with hz | hpos
      · rw [State.trainEnds_of_none hz]; exact hk
      · rcases Nat.lt_or_ge 10 (t.line l).dial.pulseCount with hlong | hdigit
        · rw [State.trainEnds_of_overlong hlong]
          exact (CallsStand.markerEvent _ l).callLaws (trainOverlong_callLaws hk)
        · rw [State.trainEnds_of_digit hpos hdigit, State.digitFormed_eq]
          have hsettled := digitSettled_callLaws hk hopen' (digit := (t.line l).dial.pulseCount % 10) (by omega)
          split
          · exact (CallsStand.markerEvent _ l).callLaws hsettled
          · exact hsettled
    · exact hk

theorem interdigitTimerExpiryStep_callLaws (h : CallLaws s) : CallLaws (interdigitTimerExpiryStep l s) := by
  unfold interdigitTimerExpiryStep
  split
  · exact h
  · rename_i hne
    exact (CallsStand.markerEvent _ l).callLaws (completeBlock_callLaws h ((h.line l).dial.interdigit hne))

/-! ### The revert-hold timer (R151) -/

theorem revertHoldExpiryStep_callLaws (h : CallLaws s) : CallLaws (revertHoldExpiryStep l s) := by
  unfold revertHoldExpiryStep
  split
  · rename_i hst
    have hno : Unjobbed s.msu l := by refine h.booked.unjobbed ?_ ?_ ?_ <;> rw [hst.1] <;> nofun
    have hfits := h.booked.fits hst.1
    have hline := s.returnToCaller_line l
    have hk : EventKept l s (s.returnToCaller l) := by
      refine h.booked.event_of_unjobbed hno (s.returnToCaller_msu l) (s.returnToCaller_othersKept l) ?_
      rw [hline]
      exact hfits.returned (.inl rfl) _ _ hfits.call.earlyPickups.1
    refine (CallsStand.queueReport _ _).callLaws (hk.quiet h (s.returnToCaller_msu l) ?_ ?_)
    · rw [hline]; exact id
    · rw [State.callState, hline]; exact nofun
  · exact h

end Samples

end Sys2Proof.Machine
end

section
/-! PROOFS. The laws of calls through the slot boundary (R42, R60), the test tick (R115) and RESTART (R18, R129), and
through every step. -/

namespace Sys2Proof.Machine

/-! ### An operation carried out line by line -/

/-- An operation that changes one line, carried out on several, changes each of them once. -/
theorem foldl_line {f : State → LineId → State} {g : Line → Line}
    (hf : ∀ (s : State) (l m : LineId), (f s l).line m = if m = l then g (s.line m) else s.line m) (ls : List LineId)
    (hls : ls.Nodup) (s : State) (m : LineId) : (ls.foldl f s).line m = if m ∈ ls then g (s.line m) else s.line m := by
  induction ls generalizing s with
  | nil => rfl
  | cons l ls ih =>
    obtain ⟨hl, hls⟩ := List.nodup_cons.1 hls
    rw [List.foldl_cons, ih hls, hf]
    by_cases e : m = l
    · rw [if_pos e, e, if_neg hl, if_pos List.mem_cons_self]
    · simp [e]

theorem allLines_nodup : allLines.Nodup := List.nodup_ofFn.2 Function.injective_id

/-- An operation that changes one line, carried out on all. -/
theorem foldl_allLines_line {f : State → LineId → State} {g : Line → Line}
    (hf : ∀ (s : State) (l m : LineId), (f s l).line m = if m = l then g (s.line m) else s.line m) (s : State) (m : LineId) :
    (allLines.foldl f s).line m = g (s.line m) := by
  rw [foldl_line hf allLines allLines_nodup, if_pos (mem_allLines m)]

/-- What an operation carried out line by line keeps, all of it keeps. -/
theorem foldl_kept {α β : Type} (π : State → β) {f : State → α → State} (hf : ∀ s a, π (f s a) = π s) (xs : List α)
    (s : State) : π (xs.foldl f s) = π s := by
  induction xs generalizing s with
  | nil => rfl
  | cons x xs ih => exact (ih _).trans (hf s x)

/-- What the removal of its assignment makes of a line (R47, R64, R87). -/
def Line.unassigned (c : CutCause) (x : Line) : Line :=
  match x.asg with
  | none => x
  | some a =>
    let y := match a.placement with
      | .placed .. => x.earlyQuench c
      | .waiting => x
    { y with asg := none, det := y.det.dropVerify }

theorem State.removeAssignment_line (c : CutCause) (s : State) (l m : LineId) :
    (s.removeAssignment l c).line m = if m = l then (s.line m).unassigned c else s.line m := by
  split
  · rename_i e
    rw [e, Line.unassigned]
    cases ha : (s.line l).asg with
    | none => rw [State.removeAssignment_of_none c ha]
    | some a =>
      cases hp : a.placement with
      | waiting => rw [State.removeAssignment_line_of_waiting c ha hp]; simp only [hp]
      | placed bus o n => rw [State.removeAssignment_line_of_placed c ha hp]; simp only [hp]
  · rename_i e
    exact s.removeAssignment_othersKept l c m e

theorem State.earlyQuench_line (c : CutCause) (s : State) (l m : LineId) :
    (s.earlyQuench l c).line m = if m = l then (s.line m).earlyQuench c else s.line m := by
  rw [State.earlyQuench, State.modLine_line]
  split
  · rename_i e; rw [e]
  · rfl

theorem State.endRinging_line (s : State) (l : LineId) :
    s.endRinging.line l = ((s.line l).unassigned .restart).earlyQuench .restart := by
  rw [State.endRinging, foldl_allLines_line (State.earlyQuench_line .restart),
    foldl_allLines_line (State.removeAssignment_line .restart)]

/-- Early QUENCH by RESTART: the relays in QUENCH if they were driven, and nothing else but the detector (R64, R71). -/
theorem Line.earlyQuench_restart (x : Line) : x.earlyQuench .restart = { x with
    relay := if x.relay.phase = .arm ∨ x.relay.phase = .ring then
        { x.relay with phase := .quench, quenchKind := some .early, timer := some 30 }
      else x.relay
    det := (x.earlyQuench .restart).det } := by
  rcases Line.earlyQuench_cases .restart x with ⟨h, e⟩ | ⟨h, e⟩ | ⟨h, e⟩ <;> rw [e]
  · rw [if_pos (.inl h)]
  · rw [if_pos (.inr h)]
  · rw [if_neg (by rcases h with h | h <;> rw [h] <;> decide)]

theorem Line.unassigned_eq (c : CutCause) (x : Line) :
    x.unassigned c = { x with asg := none, det := (x.unassigned c).det } ∨
      x.unassigned c = { x.earlyQuench c with asg := none, det := (x.unassigned c).det } := by
  unfold Line.unassigned
  split
  · rename_i ha; exact .inl (by rw [← ha])
  · dsimp only
    split
    · exact .inr rfl
    · exact .inl rfl

/-- A line at the end of its ringing: with no assignment, its relays in QUENCH if they were driven (R56, R71). -/
theorem Line.ringingEnded (x : Line) :
    (x.unassigned .restart).earlyQuench .restart = { x with
      asg := none
      relay := if x.relay.phase = .arm ∨ x.relay.phase = .ring then
          { x.relay with phase := .quench, quenchKind := some .early, timer := some 30 }
        else x.relay
      det := ((x.unassigned .restart).earlyQuench .restart).det } := by
  have hcut := (x.unassigned .restart).earlyQuench_restart
  generalize hy : (x.unassigned .restart).earlyQuench .restart = y at hcut
  rcases x.unassigned_eq .restart with h | h
  · rw [hcut, h]
  · have hquench := x.earlyQuench_restart
    rw [hcut, h, hquench]
    by_cases hd : x.relay.phase = .arm ∨ x.relay.phase = .ring <;> simp [hd]

@[simp] theorem State.endRinging_msu (s : State) : s.endRinging.msu = s.msu := by
  rw [State.endRinging, foldl_kept State.msu fun t l => State.earlyQuench_msu t l .restart,
    foldl_kept State.msu fun t l => State.removeAssignment_msu t l .restart]

/-! ### RESTART -/

/-- A line that RESTART has treated has nothing of a call (R18, R109, R146, R160). -/
theorem LineFits.restarts {st : CallState} {x y : Line} (h : LineFits st x) (hst : x.record.callState = st)
    (hasg : y.asg = none) (hrecord : y.record = x.record) (hscan : y.scan = x.scan)
    (hblind : y.relay.phase ≠ .silent → x.relay.phase ≠ .silent) : LineLaws y.restarted := by
  have hstate : y.restarted.record.callState.Settled ∧
      (y.restarted.record.callState = .unequipped ↔ x.record.callState = .unequipped) := by
    show (restartState y).Settled ∧ (restartState y = .unequipped ↔ _)
    unfold restartState
    obtain ⟨hset, hne⟩ := idleOrParked_settled y
    rw [hrecord]
    split
    · exact ⟨.inl rfl, iff_of_true rfl ‹_›⟩
    · exact ⟨.inr (.inl rfl), iff_of_false nofun (by rw [‹x.record.callState = .blocked›]; nofun)⟩
    · exact ⟨hset, iff_of_false hne ‹_›⟩
  obtain ⟨hset, hun⟩ := hstate
  generalize hst' : y.restarted.record.callState = st' at hset hun
  rw [LineLaws, hst']
  obtain ⟨-, -, hblindOf, hfilter, hre⟩ := h.scanner
  refine ⟨(Line.ringKind_of_none (x := y.restarted) hasg).trans hset.ringKind.symm, ?_, ?_, ?_⟩
  · refine ⟨fun hne => absurd rfl hne, fun hne => absurd rfl hne, fun hp => ?_, ?_, ?_⟩
    · obtain ⟨-, -, h3, h4⟩ := hblindOf (hblind hp)
      rw [← hscan] at h3 h4
      exact ⟨rfl, rfl, h3, h4⟩
    · rw [← hscan] at hfilter; exact hfilter
    · rw [← hscan] at hre; exact hre
  · exact ⟨Nat.zero_le _, Nat.zero_le _, Nat.zero_le _, fun _ h => absurd h List.not_mem_nil,
      iff_of_false (fun h => h rfl) hset.not_calling.2.1, fun h => absurd rfl h, fun h => absurd rfl h⟩
  · refine .of_clear hset ⟨rfl, rfl, rfl, rfl, rfl⟩ ?_ (Nat.zero_le _)
    show st' = .unequipped ↔ y.record.parties = []
    rw [hun, hst, h.call.unequipped, hrecord]

/-- A unit with no job keeps the clauses of its backlog. -/
theorem JobBook.cleared {s t : State} (h : JobBook s) (hmsu : t.msu = { s.msu with jobs := [], running := none }) :
    JobBook t := by
  obtain ⟨-, -, -, -, -, -, -, -, h9, h10, h11⟩ := h
  constructor <;> rw [hmsu]
  case backlog => exact h9
  case mustSet => exact h10
  case mustHeld => exact h11
  case onePerLine => exact List.nodup_nil
  case arrivals => exact List.Pairwise.nil
  all_goals nofun

theorem restartAll_callLaws {s : State} (h : CallLaws s) : CallLaws (restartAll s) := by
  have hline (l : LineId) : LineLaws ((s.endRinging.mapLines Line.restarted).line l) := by
    rw [State.mapLines_line, State.endRinging_line, Line.ringingEnded]
    refine (h.line l).restarts rfl rfl rfl rfl fun hp => ?_
    dsimp only at hp
    split at hp
    · rename_i hd; intro hs; rcases hd with hd | hd <;> exact absurd (hd.symm.trans hs) nofun
    · exact hp
  have hmsu : (s.endRinging.mapLines Line.restarted).msu = s.msu := by
    rw [State.mapLines_msu, State.endRinging_msu]
  unfold restartAll
  dsimp only
  generalize s.endRinging.mapLines Line.restarted = t at hline hmsu
  have hcleared : CallsBooked { t with msu := { t.msu with jobs := [], running := none }
                                       reports := { t.reports with queue := [.restarted], lost := false } } :=
    ⟨hline, h.jobs.book.cleared (by rw [← hmsu])⟩
  have hparked (u : State) (l : LineId) : CallsStand u (u.reportParked l) := by
    unfold State.reportParked
    split
    · exact .queueReport u _
    · exact .refl u
  exact ((CallsStand.foldl hparked _ _).booked hcleared).arbitrate

theorem restartStep_callLaws {s : State} (h : CallLaws s) (broadcast : Bool) : CallLaws (restartStep broadcast s) := by
  have hall := restartAll_callLaws h
  unfold restartStep
  generalize restartAll s = u at hall
  split
  · exact hall
  · exact (CallsStand.reply _ ⟨u, .ok, []⟩).callLaws hall

/-! ### The slot boundary (R42, R60 to R63) -/

theorem Line.endDueQuench_fits {st : CallState} {x : Line} (h : LineFits st x) (g : Slot) :
    LineFits st (x.endDueQuench g) := by
  unfold Line.endDueQuench
  split
  · exact h.quenchEnds
  · exact h

theorem Line.endDueQuench_keeps (g : Slot) (x : Line) : (x.endDueQuench g).record = x.record ∧
    (x.endDueQuench g).asg = x.asg ∧ (x.relay.phase = .silent → (x.endDueQuench g).relay.phase = .silent) := by
  unfold Line.endDueQuench
  split
  · rw [Line.endQuench_eq]; exact ⟨rfl, rfl, fun _ => rfl⟩
  · exact ⟨rfl, rfl, id⟩

/-- A burst begins on a line (R60, R95). -/
theorem LineFits.arms {st : CallState} {x : Line} (h : LineFits st x) (b : BurstStart) : LineFits st (x.arm b) := by
  obtain ⟨hring, hscanner, ⟨hp, hr, hq, hd, hc, hm, hi⟩, ⟨gu, gr, gp, gs, gh, gc, ge, gf⟩⟩ := h
  exact ⟨hring, ⟨fun hne => absurd rfl hne, fun hne => absurd rfl hne, fun _ => ⟨rfl, rfl, rfl, rfl⟩, Nat.zero_le _,
    Nat.zero_le _, fun _ => rfl⟩, ⟨hp, hr, hq, hd, hc, fun hne => absurd rfl hne, hi⟩, ⟨gu, gr, gp, gs, gh, gc, ge, gf⟩⟩

theorem LineFits.withQuiet {st : CallState} {x : Line} (h : LineFits st x) (q : Bool) :
    LineFits st { x with relay := { x.relay with quiet := q } } := by
  obtain ⟨hring, hscanner, ⟨hp, hr, hq, hd, hc, hm, hi⟩, ⟨gu, gr, gp, gs, gh, gc, ge, gf⟩⟩ := h
  exact ⟨hring, hscanner.of_scan rfl id, ⟨hp, hr, hq, hd, hc, hm, hi⟩, ⟨gu, gr, gp, gs, gh, gc, ge, gf⟩⟩

theorem LineFits.takesBoundary {st : CallState} {x : Line} (h : LineFits st x) (codes : CodeId → Pattern) (g : Slot) :
    LineFits st (x.takeBoundary codes g) := by
  have hended := Line.endDueQuench_fits h g
  unfold Line.takeBoundary
  dsimp only
  split
  · exact (hended.arms _).withQuiet _
  · exact hended.withQuiet _

/-- No burst begins on a line without an assignment. -/
theorem Line.takeBoundary_silent {x : Line} (hasg : x.asg = none) (hs : x.relay.phase = .silent)
    (codes : CodeId → Pattern) (g : Slot) : (x.takeBoundary codes g).relay.phase = .silent := by
  obtain ⟨-, ha, hsilent⟩ := x.endDueQuench_keeps g
  have hnone : (x.endDueQuench g).burstStart codes g = none := by
    rw [Line.burstStart, ha, hasg]; exact ite_self _
  unfold Line.takeBoundary
  dsimp only
  rw [hnone]
  exact hsilent hs

theorem sequencerBoundary_booked {s : State} (h : CallsBooked s) : CallsBooked s.sequencerBoundary := by
  have hline (l : LineId) : s.sequencerBoundary.line l = (s.line l).takeBoundary s.pattern s.slot :=
    State.mapLines_line _ _ _
  have hstate (l : LineId) : s.sequencerBoundary.callState l = s.callState l := by
    rw [State.callState, hline, Line.takeBoundary_kept]
    exact congrArg LineRecord.callState ((s.line l).endDueQuench_keeps s.slot).1
  refine ⟨fun l => ?_, h.book.of_stand rfl fun l => ?_⟩
  · have hfits := (h.line l).takesBoundary s.pattern s.slot
    rw [← hline] at hfits
    have hst : (s.line l).record.callState = (s.sequencerBoundary.line l).record.callState := (hstate l).symm
    rwa [hst] at hfits
  · by_cases ha : (s.line l).asg = none
    · exact .inl ⟨hstate l, fun hs => by rw [hline]; exact Line.takeBoundary_silent ha hs _ _⟩
    · refine .inr ?_
      have hring := (h.line l).asg_isSome.1 (Option.isSome_iff_ne_none.2 ha)
      refine h.unjobbed ?_ ?_ ?_ <;> rw [State.callState] <;> rcases hring with e | e <;> rw [e] <;> nofun

theorem plannerCount_booked {s : State} (h : CallsBooked s) : CallsBooked s.plannerCount := by
  have hexpire (ls : List LineId) (t : State) (ht : CallsBooked t) : CallsBooked (ls.foldl State.expire t) := by
    induction ls generalizing t with
    | nil => exact ht
    | cons l ls ih => exact ih _ ((expire_eventKept ht).booked ht)
  unfold State.plannerCount
  split
  · exact hexpire _ _ ((CallsStand.mapAssignments s Assignment.countDown_kind).booked h)
  · exact h

theorem slotBoundaryStep_callLaws {s : State} (h : CallLaws s) (sequencerFirst : Bool) :
    CallLaws (slotBoundaryStep sequencerFirst s) := by
  have hslot : CallsBooked { s with slot := s.slot + 1 } := 
    (CallsStand.of_lines_eq (s := s) (t := { s with slot := s.slot + 1 }) rfl rfl).booked h.booked
  have hage (t : State) : CallsStand t t.plannerAge := by
    unfold State.plannerAge
    split
    · exact .mapAssignments t Assignment.age_kind
    · exact .refl t
  have hbursts : CallsBooked (if sequencerFirst = true then
      ({ s with slot := s.slot + 1 } : State).sequencerBoundary.plannerCount
      else ({ s with slot := s.slot + 1 } : State).plannerCount.sequencerBoundary) := by
    split
    · exact plannerCount_booked (sequencerBoundary_booked hslot)
    · exact sequencerBoundary_booked (plannerCount_booked hslot)
  exact (((hage _).trans (.walk _ _)).booked hbursts).arbitrate

/-! ### The test tick (R115, R116) -/

theorem JobBook.tick {s : State} (h : JobBook s) (testTickS : Nat) :
    JobBook { s with msu := s.msu.tick testTickS } := by
  obtain ⟨h1, h2, h3, h4, h5, h6, h7, h8, h9, h10, h11⟩ := h
  have hbacklog : (s.msu.tick testTickS).backlog = min 15 (s.msu.backlog + 1) := rfl
  have hmust : (s.msu.tick testTickS).mustRun = (s.msu.mustRun || decide (12 ≤ min 15 (s.msu.backlog + 1))) := rfl
  refine ⟨h1, h2, h3, h4, h5, h6, h7, fun r hr hk => ?_, ?_, fun hge => ?_, fun hm => ?_⟩
  · have := h8 r hr hk
    show 1 ≤ (s.msu.tick testTickS).backlog
    omega
  · exact Nat.min_le_left _ _
  · show (s.msu.tick testTickS).mustRun = true
    rw [hmust, Bool.or_eq_true, decide_eq_true_eq]
    exact .inr hge
  · show 9 ≤ (s.msu.tick testTickS).backlog
    have hm' : s.msu.mustRun = true ∨ 12 ≤ min 15 (s.msu.backlog + 1) := by
      simpa only [hmust, Bool.or_eq_true, decide_eq_true_eq] using hm
    rcases hm' with hm' | hm'
    · have := h11 hm'
      omega
    · omega

theorem testTickStep_callLaws {s : State} (h : CallLaws s) : CallLaws (testTickStep s) :=
  CallsBooked.arbitrate ⟨h.line, h.jobs.book.tick s.params.testTickS⟩

/-! ### Commands -/

section Answers

variable {s : State} (h : CallLaws s)
include h

theorem configureLineAnswer_callLaws (line tip ring dialMode count : Byte) (fields : List PartyField) :
    CallLaws (configureLineAnswer line tip ring dialMode count fields s).state := by
  unfold configureLineAnswer
  split
  · exact h
  · split
    · exact h
    · rename_i l _
      split
      · rename_i hstate
        split
        · exact h
        · rename_i mode ps _
          have hk : EventKept l s (configureState l ps.isEmpty
              (s.modLine l (writeLine s.params tip.toNat ring.toNat mode count.toNat ps))) :=
            configureState_eventKept h.booked hstate
          exact (hk.stand (.reportIfChanged l s _) (reportIfChanged_othersKept l s _)).callLaws h.booked
      · exact h

theorem blockAnswer_callLaws (line : Byte) : CallLaws (blockAnswer line s).state := by
  unfold blockAnswer
  split
  · exact h
  · rename_i l _
    split
    · exact h
    · rename_i hun
      show CallLaws (blockAccepted l s)
      by_cases hb : s.callState l = .blocked
      · rw [blockAccepted_of_blocked hb]; exact h
      · rw [blockAccepted_eq hb]
        exact (outOfService_eventKept h.booked hun).callLaws h.booked

theorem unblockAnswer_callLaws (line : Byte) : CallLaws (unblockAnswer line s).state := by
  unfold unblockAnswer
  split
  · exact h
  · split
    · rename_i l _ hst
      exact (unblock_eventKept h.booked hst).callLaws h.booked
    · exact h

theorem testLineAnswer_callLaws (line : Byte) : CallLaws (testLineAnswer line s).state := by
  unfold testLineAnswer
  split
  · exact h
  · rename_i l _
    split
    · rename_i hst
      show CallLaws (testLineAccepted l s)
      unfold testLineAccepted
      split
      · exact h
      · rename_i hnone
        exact (hostTest_eventKept h.booked hst (by simpa using hnone)).callLaws h.booked
    · exact h

theorem ringAnswer_callLaws (line party cycles : Byte) : CallLaws (ringAnswer line party cycles s).state := by
  unfold ringAnswer
  split
  · exact h
  · rename_i l _
    split
    · exact h
    · rename_i hst
      split
      · exact h
      · split
        · exact h
        · rename_i hgood
          split
          · exact h
          · rename_i p _
            split
            · show CallLaws (ringAccepted l p _ s)
              rw [ringAccepted_eq]
              exact (rung_eventKept h.booked (not_not.1 hst) hgood p _).callLaws h.booked
            · exact h

theorem cancelAnswer_callLaws (line : Byte) : CallLaws (cancelAnswer line s).state := by
  unfold cancelAnswer
  split
  · exact h
  · split
    · exact h
    · rename_i hc
      exact (cancel_eventKept h.booked hc).callLaws h.booked

theorem connectAnswer_callLaws (line : Byte) : CallLaws (connectAnswer line s).state := by
  unfold connectAnswer
  split
  · exact h
  · split
    · rename_i hst
      exact (left_eventKept h.booked hst (.inr (.inr (.inr (.inl rfl)))) nofun).callLaws h.booked
    · exact h

theorem releaseAnswer_callLaws (line : Byte) : CallLaws (releaseAnswer line s).state := by
  unfold releaseAnswer
  split
  · exact h
  · split
    · rename_i l _ hst
      show CallLaws (releaseAccepted l s)
      rcases hst with hst | hst
      · obtain ⟨hset, hne⟩ := idleOrParked_settled ((s.leaveOriginating l).line l)
        rw [releaseAccepted_of_originating hst]
        exact (left_eventKept h.booked hst hset hne).callLaws h.booked
      · rw [releaseAccepted_of_connected hst]
        exact (putDown_eventKept h.booked hst).callLaws h.booked
    · exact h

theorem revertAnswer_callLaws (line called caller recallByte : Byte) :
    CallLaws (revertAnswer line called caller recallByte s).state := by
  unfold revertAnswer
  split
  · exact h
  · rename_i l _
    split
    · exact h
    · rename_i hst
      split
      · rename_i d r x _ _ _
        split
        · exact h
        · rename_i hnone
          have hgood : (s.line l).record.condition ≠ .faulted := by
            intro hfault
            unfold checkRevert at hnone
            rw [if_pos hfault] at hnone
            split at hnone <;> exact absurd hnone (by nofun)
          show CallLaws (revertAccepted l d r x s)
          rw [revertAccepted_eq]
          exact (revertHeld_eventKept h.booked (not_not.1 hst) hgood d r x).callLaws h.booked
      · exact h

end Answers

/-- A command keeps the laws of calls. -/
theorem runCommand_callLaws {s : State} (h : CallLaws s) (i : Instr) : CallLaws (runCommand i s) := by
  have hreply {k : Byte} {a : Answer} (ha : CallLaws a.state) : CallLaws (reply k a) := (CallsStand.reply k a).callLaws ha
  cases i with
  | poll => exact hreply ((pollAnswer_callsStand s).callLaws h)
  | restart b => exact restartStep_callLaws h b
  | setParameters mask values => exact hreply ((setParametersAnswer_callsStand mask values s).callLaws h)
  | setReports e => exact hreply ((setReportsAnswer_callsStand e s).callLaws h)
  | configureLine l t r m n ps => exact hreply (configureLineAnswer_callLaws h l t r m n ps)
  | block l => exact hreply (blockAnswer_callLaws h l)
  | unblock l => exact hreply (unblockAnswer_callLaws h l)
  | readLine l => exact hreply ((readLineAnswer_callsStand l s).callLaws h)
  | testLine l => exact hreply (testLineAnswer_callLaws h l)
  | setCode c bs => exact hreply ((setCodeAnswer_callsStand c bs s).callLaws h)
  | setBus b n => exact hreply ((setBusAnswer_callsStand b n s).callLaws h)
  | readSchedule b => exact hreply ((readScheduleAnswer_callsStand b s).callLaws h)
  | ring l p n => exact hreply (ringAnswer_callLaws h l p n)
  | cancel l => exact hreply (cancelAnswer_callLaws h l)
  | connect l => exact hreply (connectAnswer_callLaws h l)
  | release l => exact hreply (releaseAnswer_callLaws h l)
  | revert l d r x => exact hreply (revertAnswer_callLaws h l d r x)
  | unknownKind k p => exact hreply (a := refuse .unknownKind s) h
  | _ => exact h

/-! ### The link interface -/

/-- What a character on the pair can do: change the link's own record alone, be the last of a good broadcast RESTART, or
be the last of a frame handed to the command path, the receiver back in HUNT (R166 to R168). -/
theorem linkCharacterStep_cases (c : LinkChar) (s : State) :
    (∃ k, linkCharacterStep c s = { s with link := k }) ∨ linkCharacterStep c s = restartStep true s.toHunt ∨
      ∃ kind payload, linkCharacterStep c s = commandPath kind payload s.toHunt := by
  have hhunt (t : State) : ∃ r, huntCharacter c t = t.setReceiver r := by
    unfold huntCharacter
    split
    · exact ⟨_, rfl⟩
    · exact ⟨t.link.receiver, rfl⟩
  unfold linkCharacterStep
  split
  · obtain ⟨r, hr⟩ := hhunt s
    exact .inl ⟨_, hr⟩
  · unfold assembleCharacter
    split
    · exact .inl ⟨_, rfl⟩
    · split
      · obtain ⟨r, hr⟩ := hhunt s.toHunt
        exact .inl ⟨_, hr⟩
      · unfold assembleData
        dsimp only
        split
        · exact .inl ⟨_, rfl⟩
        · split
          · exact .inl ⟨_, rfl⟩
          · exact .inl ⟨_, rfl⟩
        · exact .inl ⟨_, rfl⟩
        · exact .inl ⟨_, rfl⟩
        · unfold frameComplete
          dsimp only
          split
          · exact .inl ⟨_, rfl⟩
          · split
            · split
              · exact .inr (.inl rfl)
              · exact .inl ⟨_, rfl⟩
            · split
              · exact .inr (.inr ⟨_, _, rfl⟩)
              · exact .inl ⟨_, rfl⟩

/-- The link's timers write the link's own record alone. -/
theorem linkTimers_link (s : State) : (∃ k, gapTimerExpiryStep s = { s with link := k }) ∧
    (∃ k, turnaroundExpiryStep s = { s with link := k }) ∧ ∃ k, replyEndStep s = { s with link := k } := by
  refine ⟨?_, ?_, ?_⟩
  · unfold gapTimerExpiryStep
    split
    exacts [⟨_, rfl⟩, ⟨s.link, rfl⟩]
  · unfold turnaroundExpiryStep
    split
    exacts [⟨_, rfl⟩, ⟨s.link, rfl⟩]
  · unfold replyEndStep
    split
    exacts [⟨_, rfl⟩, ⟨s.link, rfl⟩]

theorem CallLaws.withLink {s : State} (h : CallLaws s) (k : Link) : CallLaws { s with link := k } :=
  (CallsStand.of_lines_eq (s := s) (t := { s with link := k }) rfl rfl).callLaws h

theorem commandPath_callLaws {s : State} (h : CallLaws s) (kind : Byte) (payload : List Byte) :
    CallLaws (commandPath kind payload s) := by
  unfold commandPath
  split
  · exact runCommand_callLaws h _
  · exact (CallsStand.reply _ (refuse .badLength s)).callLaws h
  · exact (CallsStand.reply _ (refuse .unknownKind s)).callLaws h

theorem linkCharacterStep_callLaws {s : State} (h : CallLaws s) (c : LinkChar) : CallLaws (linkCharacterStep c s) := by
  have hunting : CallLaws s.toHunt := h.withLink _
  rcases linkCharacterStep_cases c s with ⟨k, e⟩ | e | ⟨kind, payload, e⟩ <;> rw [e]
  · exact h.withLink k
  · exact restartStep_callLaws hunting true
  · exact commandPath_callLaws hunting kind payload

/-! ### Events of one line -/

section Events

variable {s : State} (h : CallLaws s)
include h

theorem quenchEndStep_callLaws (l : LineId) : CallLaws (quenchEndStep l s) := by
  unfold quenchEndStep
  split
  · exact (quenchEnd_eventKept h.booked).callLaws h.booked
  · exact h

theorem assignmentExpiryStep_callLaws (l : LineId) : CallLaws (assignmentExpiryStep l s) := by
  unfold assignmentExpiryStep
  split
  · exact h
  · exact (expire_eventKept h.booked).callLaws h.booked

theorem closedHoldExpiryStep_callLaws (l : LineId) : CallLaws (closedHoldExpiryStep l s) := by
  unfold closedHoldExpiryStep
  split
  · exact h
  · have htaken : CallsBooked (s.holdTaken l) := holdTaken_booked h.booked
    exact (heldClosed_eventKept htaken).callLaws htaken

theorem breakTimerExpiryStep_callLaws (l : LineId) : CallLaws (breakTimerExpiryStep l s) := by
  unfold breakTimerExpiryStep
  split
  · exact h
  · have htaken : CallsBooked (s.breakTaken l) := breakTaken_booked h.booked
    exact (breakReached_eventKept htaken).callLaws htaken

theorem permanentSignalExpiryStep_callLaws (l : LineId) : CallLaws (permanentSignalExpiryStep l s) := by
  unfold permanentSignalExpiryStep
  split
  · rename_i hst
    rw [permanentSignalTaken_eq]
    exact (signalParked_eventKept h.booked hst.1).callLaws h.booked
  · exact h

theorem tripSampleStep_callLaws (l : LineId) (current : Nat) : CallLaws (tripSampleStep l current s) := by
  unfold tripSampleStep
  split
  · generalize min Config.sampleMax current = v
    cases hm : (s.line l).det.mode with
    | idle => rw [judgeSample_of_idle_or_verify (.inl hm)]; exact h
    | verify => rw [judgeSample_of_idle_or_verify (.inr hm)]; exact h
    | watch => rw [judgeSample_of_watch hm]; exact (CallsStand.modDet s l _).callLaws h
    | window =>
      have hsampled : CallsStand s (s.windowSampled l v) := .modDet s l _
      cases hv : ((s.windowSampled l v).line l).det.verdict s.params with
      | goesOn => rw [judgeSample_of_goesOn hm hv]; exact hsampled.callLaws h
      | unresolved =>
        rw [judgeSample_of_unresolved hm hv]
        exact (hsampled.trans ((CallsStand.earlyQuench _ l _).trans (.modDet _ l _))).callLaws h
      | trip =>
        rw [judgeSample_of_trip hm hv, State.confirmTrip_eq]
        have hcut : CallsBooked ((s.windowSampled l v).tripCut l) :=
          (hsampled.trans ((CallsStand.earlyQuench _ l _).trans (.modDet _ l _))).booked h.booked
        exact (answer_eventKept hcut _ _).callLaws hcut
  · exact h

/-- The line of a completing job is in the job's state. -/
theorem CallLaws.completing {tip ring : Reading} {l : LineId} {k : JobKind} (hc : s.completing tip ring = some (l, k)) :
    s.callState l = k.state := by
  obtain ⟨r, hr, -, -, rfl, rfl⟩ := (s.completing_iff tip ring l k).1 hc
  exact (h.jobs.running r hr).1

theorem originIdCompleteStep_callLaws (tip ring : Reading) : CallLaws (originIdCompleteStep tip ring s) := by
  unfold originIdCompleteStep
  split
  · exact (originIdDone_eventKept h.booked _ _).callLaws h.booked
  · exact h

theorem answerSideCompleteStep_callLaws (tip ring : Reading) : CallLaws (answerSideCompleteStep tip ring s) := by
  unfold answerSideCompleteStep
  split
  · rename_i l hc
    obtain ⟨hb, hno⟩ := releaseHead_booked (l := l) h.booked
    exact (decideAnswer_eventKept hb hno (h.completing hc) _).callLaws hb
  · exact h

theorem testCompleteStep_callLaws (tip ring : Reading) : CallLaws (testCompleteStep tip ring s) := by
  unfold testCompleteStep
  split
  · rename_i l hc
    rw [hostTestDone_eq]
    exact ((hostTested_eventKept h.booked (h.completing hc) _).stand (.reportIfChanged l s _)
      (reportIfChanged_othersKept l s _)).callLaws h.booked
  · rename_i l hc
    rw [insulationTestDone_eq]
    exact ((insulated_eventKept h.booked (h.completing hc) _).stand (.reportIfChanged l s _)
      (reportIfChanged_othersKept l s _)).callLaws h.booked
  · exact h

end Events

/-! ### Every step -/

theorem exec_callLaws {s : State} (h : CallLaws s) {c : Instr}
    (hc : ∀ address rate goodA goodB, c ≠ .powerOn address rate goodA goodB) :
    ∃ t, exec c s = .next t ∧ CallLaws t := by
  cases he : encodeCommand c with
  | some kp => exact ⟨_, exec_eq_runCommand he s, runCommand_callLaws h c⟩
  | none =>
  obtain ⟨⟨k₁, hgap⟩, ⟨k₂, hturn⟩, ⟨k₃, hend⟩⟩ := linkTimers_link s
  cases c with
  | powerOn address rate goodA goodB => exact absurd rfl (hc address rate goodA goodB)
  | restart broadcast => exact ⟨_, rfl, restartStep_callLaws h broadcast⟩
  | linkCharacter c => exact ⟨_, rfl, linkCharacterStep_callLaws h c⟩
  | gapTimerExpiry => exact ⟨_, rfl, hgap ▸ h.withLink k₁⟩
  | turnaroundExpiry => exact ⟨_, rfl, hturn ▸ h.withLink k₂⟩
  | replyEnd => exact ⟨_, rfl, hend ▸ h.withLink k₃⟩
  | slotBoundary first => exact ⟨_, rfl, slotBoundaryStep_callLaws h first⟩
  | assignmentExpiry l => exact ⟨_, rfl, assignmentExpiryStep_callLaws h l⟩
  | armExpiry l => exact ⟨_, rfl, (armExpiryStep_callsStand l s).callLaws h⟩
  | ringEnd l => exact ⟨_, rfl, (ringEndStep_callsStand l s).callLaws h⟩
  | quenchEnd l => exact ⟨_, rfl, quenchEndStep_callLaws h l⟩
  | tripSample l current => exact ⟨_, rfl, tripSampleStep_callLaws h l current⟩
  | verifyTimerExpiry l => exact ⟨_, rfl, (verifyTimerExpiryStep_callsStand l s).callLaws h⟩
  | loopSample l closed => exact ⟨_, rfl, loopSampleStep_callLaws h closed⟩
  | closedHoldExpiry l => exact ⟨_, rfl, closedHoldExpiryStep_callLaws h l⟩
  | breakTimerExpiry l => exact ⟨_, rfl, breakTimerExpiryStep_callLaws h l⟩
  | makeTimerExpiry l => exact ⟨_, rfl, makeTimerExpiryStep_callLaws h⟩
  | interdigitTimerExpiry l => exact ⟨_, rfl, interdigitTimerExpiryStep_callLaws h⟩
  | permanentSignalExpiry l => exact ⟨_, rfl, permanentSignalExpiryStep_callLaws h l⟩
  | revertHoldExpiry l => exact ⟨_, rfl, revertHoldExpiryStep_callLaws h⟩
  | testTick => exact ⟨_, rfl, testTickStep_callLaws h⟩
  | originIdComplete tip ring => exact ⟨_, rfl, originIdCompleteStep_callLaws h tip ring⟩
  | answerSideComplete tip ring => exact ⟨_, rfl, answerSideCompleteStep_callLaws h tip ring⟩
  | testComplete tip ring => exact ⟨_, rfl, testCompleteStep_callLaws h tip ring⟩
  | sourceGoodChange bus good => exact ⟨_, rfl, (sourceGoodChangeStep_callsStand bus good s).callLaws h⟩
  | busFault bus => exact ⟨_, rfl, (busFaultStep_callsStand bus s).callLaws h⟩
  | busRecovery bus => exact ⟨_, rfl, (busRecoveryStep_callsStand bus s).callLaws h⟩
  | _ => exact nomatch he

/-- The queue of commands is no part of the laws of calls. -/
theorem CallLaws.withPending {s : State} (h : CallLaws s) (p : List Instr) : CallLaws { s with pending := p } :=
  (CallsStand.of_lines_eq (s := s) (t := { s with pending := p }) rfl rfl).callLaws h

/-- Settles O12. Each event is one line's change under the laws (`EventKept`) or leaves every call as it stands
(`CallsStand`), and the arbiter's choice behind it restores the clause on the free head. -/
theorem stepKeepsTheCallLaws : Obligations.StepKeepsTheCallLaws := by
  unfold Obligations.StepKeepsTheCallLaws
  intro s t hs h
  unfold step at h
  split at h
  · exact Host.Outcome.next.inj h ▸ hs
  · rename_i i rest _
    by_cases hc : ∀ address rate goodA goodB, i ≠ .powerOn address rate goodA goodB
    · obtain ⟨u, hu, hlaws⟩ := exec_callLaws (hs.withPending rest) hc
      exact Host.Outcome.next.inj (hu.symm.trans h) ▸ hlaws
    · push Not at hc
      obtain ⟨address, rate, goodA, goodB, rfl⟩ := hc
      obtain rfl := Host.Outcome.next.inj h
      exact (State.powerOn_callLaws address rate goodA goodB).withPending rest

end Sys2Proof.Machine
end

section
/-! PROOFS. The ringing slots of an assignment (R21, R22, R26, R27) and the search of a placement (R36). -/

namespace Sys2Proof.Machine

/-! ### Ringing slots (R26, R27) -/

theorem placeOf_add (offset : Slot) {h : Nat} (hh : h < 24) : placeOf offset (offset + Fin.ofNat 24 h) = h := by
  rw [placeOf, add_sub_cancel_left]
  exact Nat.mod_eq_of_lt hh

theorem placeOf_succ (offset g : Slot) (h : placeOf offset g < 23) : placeOf offset (g + 1) = placeOf offset g + 1 := by
  have hlt : (g - offset).val + 1 < 24 := Nat.add_lt_add_right h 1
  rw [placeOf, add_sub_right_comm, Fin.val_add]
  exact Nat.mod_eq_of_lt hlt

theorem placeOf_lt (offset g : Slot) : placeOf offset g < 24 := (g - offset).isLt

/-- The stroke whose half of the cycle an assignment has at a place (R26). -/
def Assignment.strokeOfHalf (a : Assignment) (p : Nat) : Option Stroke := if p < 12 then some a.stroke0 else a.stroke1

section Strokes

variable (codes : CodeId → Pattern) (a : Assignment) (offset g : Slot)

/-- An assignment rings in a slot for the stroke whose half holds it, if that stroke's pattern rings there (R26). -/
theorem strokeAt_eq_some_iff (k : Stroke) : strokeAt codes a offset g = some k ↔
    a.strokeOfHalf (placeOf offset g) = some k ∧ ringsAt (codes k.code) (placeOf offset g % 12) = true := by
  have hlt := placeOf_lt offset g
  unfold strokeAt strokeOver Assignment.strokeOfHalf
  generalize placeOf offset g = p at hlt
  by_cases hp : p < 12
  · have hmod : p % 12 = p := Nat.mod_eq_of_lt hp
    simp only [if_pos hp, hmod]
    by_cases hr : ringsAt (codes a.stroke0.code) p = true
    · simp only [hr, if_true, Option.some.injEq]
      exact ⟨fun e => ⟨e, e ▸ hr⟩, And.left⟩
    · simp only [hr]
      exact ⟨nofun, fun ⟨e, h⟩ => absurd (Option.some.inj e ▸ h) hr⟩
  · have hmod : p % 12 = p - 12 := by omega
    simp only [if_neg hp, hmod]
    cases a.stroke1 with
    | none => simp
    | some m =>
      simp only [Option.map_some]
      by_cases hr : ringsAt (codes m.code) (p - 12) = true
      · simp only [hr, if_true, Option.some.injEq]
        exact ⟨fun e => ⟨e, e ▸ hr⟩, And.left⟩
      · simp only [hr]
        exact ⟨nofun, fun ⟨e, h⟩ => absurd (Option.some.inj e ▸ h) hr⟩

theorem ringsAt_iff (p : Pattern) (h : Nat) :
    ringsAt p h = true ↔ ∃ b ∈ p, b.start ≤ h ∧ h < b.start + b.length := by
  simp [ringsAt, Burst.rings]

/-- The strokes of a half's twelve slots. -/
theorem strokeAt_eq : strokeAt codes a offset g = (a.strokeOfHalf (placeOf offset g)).filter
    fun k => ringsAt (codes k.code) (placeOf offset g % 12) := by
  apply Option.ext
  intro k
  rw [strokeAt_eq_some_iff, Option.filter_eq_some_iff]

end Strokes

/-- Two bursts of a valid pattern in neighbouring slots are one burst (R22). -/
theorem Pattern.Valid.neighbours {p : Pattern} (hp : p.Valid) {h : Nat} (h0 : ringsAt p h = true)
    (h1 : ringsAt p (h + 1) = true) : ∃ b ∈ p, b.start ≤ h ∧ h + 1 < b.start + b.length := by
  obtain ⟨b, hb, hb1, hb2⟩ := (ringsAt_iff p h).1 h0
  obtain ⟨c, hc, hc1, hc2⟩ := (ringsAt_iff p (h + 1)).1 h1
  obtain ⟨i, hi, rfl⟩ := List.getElem_of_mem hb
  obtain ⟨j, hj, rfl⟩ := List.getElem_of_mem hc
  have hspaced := List.pairwise_iff_getElem.1 hp.parted
  rcases Nat.lt_trichotomy i j with hlt | rfl | hlt
  · have := hspaced i j hi hj hlt
    omega
  · exact ⟨_, hb, hb1, hc2⟩
  · have := hspaced j i hj hi hlt
    omega

/-- A valid pattern never rings in slot 11 of a half (R21). -/
theorem Pattern.Valid.lt_of_ringsAt {p : Pattern} (hp : p.Valid) {h : Nat} (hr : ringsAt p h = true) : h < 11 := by
  obtain ⟨b, hb, -, hlt⟩ := (ringsAt_iff p h).1 hr
  obtain ⟨-, -, -, hend⟩ := hp.bursts b hb
  omega

/-- Settles O23. -/
theorem ringingSlotsOfAnAssignment : Obligations.RingingSlotsOfAnAssignment := by
  unfold Obligations.RingingSlotsOfAnAssignment
  refine ⟨fun codes a offset h hh => ?_, fun codes a offset g hvalid h11 => ?_, fun codes a offset g hvalid k hk m hm => ?_⟩
  · have hmod : (12 + h) % 12 = h := by omega
    have h0 : strokeAt codes a offset (offset + Fin.ofNat 24 h) =
        (some a.stroke0).filter fun k => ringsAt (codes k.code) h := by
      rw [strokeAt_eq, placeOf_add offset (by omega), Nat.mod_eq_of_lt hh, Assignment.strokeOfHalf, if_pos hh]
    have h1 : strokeAt codes a offset (offset + Fin.ofNat 24 (12 + h)) =
        a.stroke1.filter fun k => ringsAt (codes k.code) h := by
      rw [strokeAt_eq, placeOf_add offset (by omega), hmod, Assignment.strokeOfHalf, if_neg (by omega)]
    refine ⟨h0.trans (Option.filter_some), fun hnone => ?_, fun k hk => ?_⟩
    · rw [h1, hnone]; rfl
    · rw [h1, hk]; exact Option.filter_some
  · by_contra hne
    obtain ⟨k, hk⟩ := Option.ne_none_iff_exists'.1 hne
    have hring := ((strokeAt_eq_some_iff codes a offset g k).1 hk).2
    have := (hvalid k.code).lt_of_ringsAt hring
    omega
  · obtain ⟨hhalf, hring⟩ := (strokeAt_eq_some_iff codes a offset g k).1 hk
    obtain ⟨hhalf', hring'⟩ := (strokeAt_eq_some_iff codes a offset (g + 1) m).1 hm
    have hlt := (hvalid k.code).lt_of_ringsAt hring
    have hplace := placeOf_lt offset g
    have hsucc := placeOf_succ offset g (by omega)
    have hmod : (placeOf offset g + 1) % 12 = placeOf offset g % 12 + 1 := by omega
    rw [hsucc] at hhalf' hring'
    rw [hmod] at hring'
    have hsame : a.strokeOfHalf (placeOf offset g + 1) = a.strokeOfHalf (placeOf offset g) := by
      unfold Assignment.strokeOfHalf
      exact if_congr (by omega) rfl rfl
    obtain rfl : m = k := Option.some.inj (hhalf'.symm.trans (hsame.trans hhalf))
    obtain ⟨b, hb, hb1, hb2⟩ := (hvalid m.code).neighbours hring hring'
    obtain ⟨-, -, -, hend⟩ := (hvalid m.code).bursts b hb
    exact ⟨rfl, by omega, hsucc, b, hb, hb1, hb2⟩

/-! ### The search of a placement (R36) -/

section Search

variable (s : State) (a : Assignment)

theorem State.fits_iff (bus : Bus) (o : Slot) : s.fits a bus o = true ↔
    ∀ g, (s.bus bus).loads.get g + loadAt s.pattern a o g ≤ (s.bus bus).budget := by
  have hmem (g : Slot) : g ∈ allSlots := List.mem_ofFn.2 ⟨g, rfl⟩
  rw [State.fits, List.all_eq_true]
  simp only [hmem, forall_const, decide_eq_true_eq]

theorem State.fits_eq_false_iff (bus : Bus) (o : Slot) : s.fits a bus o = false ↔
    ∃ g, (s.bus bus).budget < (s.bus bus).loads.get g + loadAt s.pattern a o g := by
  rw [← Bool.not_eq_true, State.fits_iff]
  push Not
  rfl

theorem State.mem_busesToTry (bus : Bus) : bus ∈ s.busesToTry ↔ (s.bus bus).status = .good := by
  unfold State.busesToTry
  rw [List.mem_filter, decide_eq_true_eq]
  refine and_iff_right ?_
  split <;> cases bus <;> decide

/-- How far behind the current slot's successor an offset is tried. -/
def State.turn (o : Slot) : Nat := (o - s.slot - 1).val

theorem State.turn_add (i : Nat) (h : i < 24) : s.turn (s.slot + 1 + Fin.ofNat 24 i) = i := by
  have harith : s.slot + 1 + Fin.ofNat 24 i - s.slot - 1 = Fin.ofNat 24 i := by abel
  rw [State.turn, harith]
  exact Nat.mod_eq_of_lt h

theorem State.offsetsToTry_ordered : s.offsetsToTry.Pairwise fun o p => s.turn o < s.turn p := by
  rw [State.offsetsToTry, List.pairwise_map]
  refine List.pairwise_lt_range.imp_of_mem fun {i j} hi hj hlt => ?_
  rw [s.turn_add i (List.mem_range.1 hi), s.turn_add j (List.mem_range.1 hj)]
  exact hlt

theorem State.mem_offsetsToTry (o : Slot) : o ∈ s.offsetsToTry := by
  refine List.mem_map.2 ⟨s.turn o, List.mem_range.2 (o - s.slot - 1).isLt, ?_⟩
  have hval : Fin.ofNat 24 (s.turn o) = o - s.slot - 1 := Fin.ext (Nat.mod_eq_of_lt (o - s.slot - 1).isLt)
  rw [hval]
  abel

/-- The bus an attempt takes at an offset: the first GOOD one that fits (R36). -/
theorem State.search_eq : s.search a =
    s.offsetsToTry.findSome? fun o => (s.busesToTry.find? fun bus => s.fits a bus o).map fun bus => (o, bus) := rfl

/-- The peak order of the two buses (R36). -/
theorem State.find_busesToTry {p : Bus → Bool} {bus : Bus} (h : s.busesToTry.find? p = some bus)
    (hgood : (s.bus (otherBus bus)).status = .good) (hother : p (otherBus bus) = true) :
    (s.bus bus).peak ≤ (s.bus (otherBus bus)).peak ∧
      ((s.bus bus).peak = (s.bus (otherBus bus)).peak → bus = .a) := by
  obtain ⟨-, pre, post, hsplit, hpre⟩ := List.find?_eq_some_iff_append.1 h
  have hfirst : otherBus bus ∉ pre := fun hm => absurd hother (by simpa using hpre _ hm)
  have hmem : otherBus bus ∈ s.busesToTry := (s.mem_busesToTry _).2 hgood
  have hsub : [bus, otherBus bus].Sublist s.busesToTry := by
    rw [hsplit] at hmem ⊢
    have hne : otherBus bus ≠ bus := by cases bus <;> decide
    have hin : otherBus bus ∈ post := by
      rcases List.mem_append.1 hmem with hm | hm
      · exact absurd hm hfirst
      · exact (List.mem_cons.1 hm).resolve_left hne
    exact ((List.singleton_sublist.2 hin).cons_cons bus).trans (List.sublist_append_right _ _)
  have hall := hsub.trans (List.filter_sublist (l := if s.busB.peak < s.busA.peak then [Bus.b, .a] else [.a, .b]))
  have hlength : [bus, otherBus bus] = if s.busB.peak < s.busA.peak then [Bus.b, .a] else [.a, .b] :=
    hall.eq_of_length (by split <;> rfl)
  split at hlength
  · rename_i hlt
    obtain rfl : bus = .b := (List.cons.inj hlength).1
    exact ⟨hlt.le, fun e => absurd (show s.busB.peak = s.busA.peak from e) hlt.ne⟩
  · rename_i hle
    obtain rfl : bus = .a := (List.cons.inj hlength).1
    exact ⟨Nat.le_of_not_lt hle, fun _ => rfl⟩

theorem State.find_fits_eq_none_iff (o : Slot) : s.busesToTry.find? (fun bus => s.fits a bus o) = none ↔
    ∀ bus, (s.bus bus).status = .good → s.fits a bus o = false := by
  simp only [List.find?_eq_none, State.mem_busesToTry, Bool.not_eq_true]

/-- Where a successful attempt places (R36). -/
theorem State.search_eq_some {o : Slot} {bus : Bus} (h : s.search a = some (o, bus)) :
    s.busesToTry.find? (fun bus => s.fits a bus o) = some bus ∧
      ∀ o', s.turn o' < s.turn o → s.busesToTry.find? (fun bus => s.fits a bus o') = none := by
  obtain ⟨pre, o₁, post, hsplit, hfound, hpre⟩ := List.findSome?_eq_some_iff.1 (s.search_eq a ▸ h)
  obtain ⟨bus₁, hbus, he⟩ := Option.map_eq_some_iff.1 hfound
  obtain ⟨rfl, rfl⟩ := Prod.mk.inj he
  refine ⟨hbus, fun o' hlt => ?_⟩
  have hmem := s.mem_offsetsToTry o'
  have hordered := s.offsetsToTry_ordered
  rw [hsplit] at hmem hordered
  rcases List.mem_append.1 hmem with hm | hm
  · exact Option.map_eq_none_iff.1 (hpre o' hm)
  · obtain ⟨-, hlater, -⟩ := List.pairwise_append.1 hordered
    rcases List.mem_cons.1 hm with rfl | hm
    · exact absurd hlt (Nat.lt_irrefl _)
    · exact absurd ((List.pairwise_cons.1 hlater).1 o' hm) (Nat.lt_asymm hlt)

theorem State.search_eq_none_iff : s.search a = none ↔
    ∀ bus o, (s.bus bus).status = .good → s.fits a bus o = false := by
  rw [State.search_eq, List.findSome?_eq_none_iff]
  simp only [Option.map_eq_none_iff, State.find_fits_eq_none_iff]
  exact ⟨fun h bus o => h o (s.mem_offsetsToTry o) bus, fun h o _ bus => h bus o⟩

/-- A placement is on a GOOD bus at an offset where it fits (R36). -/
theorem State.search_spec {o : Slot} {bus : Bus} (h : s.search a = some (o, bus)) :
    (s.bus bus).status = .good ∧ s.fits a bus o = true := by
  obtain ⟨hfind, -⟩ := s.search_eq_some a h
  exact ⟨(s.mem_busesToTry bus).1 (List.mem_of_find?_eq_some hfind), List.find?_some (p := fun bus => s.fits a bus o) hfind⟩

end Search

/-- Settles O24. -/
theorem placementIsTheFirstThatFits : Obligations.PlacementIsTheFirstThatFits := by
  unfold Obligations.PlacementIsTheFirstThatFits
  refine fun s a => ⟨fun h bus o hgood => ?_, fun o bus h => ?_⟩
  · exact (s.fits_eq_false_iff a bus o).1 ((s.search_eq_none_iff a).1 h bus o hgood)
  · obtain ⟨hfind, hbefore⟩ := s.search_eq_some a h
    obtain ⟨hgood, hfits⟩ := s.search_spec a h
    refine ⟨hgood, (s.fits_iff a bus o).1 hfits, fun o' bus' hlt hgood' => ?_, fun hgood' hfits' => ?_⟩
    · exact (s.fits_eq_false_iff a bus' o').1 ((s.find_fits_eq_none_iff a o').1 (hbefore o' hlt) bus' hgood')
    · exact s.find_busesToTry hfind hgood' ((s.fits_iff a _ o).2 hfits')

end Sys2Proof.Machine
end

section
/-! PROOFS. The planner's operations: what each leaves of the buses, the waiting list and the lines (R32, R36, R41, R47,
R49, R53), and the laws of ringing as laws of one bus, one list and one line. -/

namespace Sys2Proof.Machine

/-! ### What is read of a line's assignment -/

section AsgCongr

variable {x y : Line} (h : y.asg = x.asg)
include h

theorem Line.waits_congr : y.waits = x.waits := by unfold Line.waits; rw [h]
theorem Line.placedBus_congr : y.placedBus = x.placedBus := by unfold Line.placedBus; rw [h]
theorem Line.loadOn_congr (codes : CodeId → Pattern) (bus : Bus) (g : Slot) :
    y.loadOn codes bus g = x.loadOn codes bus g := by unfold Line.loadOn; rw [h]
theorem Line.placedOrderOn_congr (bus : Bus) : y.placedOrderOn bus = x.placedOrderOn bus := by
  unfold Line.placedOrderOn; rw [h]

end AsgCongr

/-- The created-order number of a line's assignment, 0 without one. -/
def Line.createdOrder (x : Line) : Nat :=
  match x.asg with
  | some a => a.createdOrder
  | none => 0

theorem State.createdOf_eq (s : State) (l : LineId) : s.createdOf l = (s.line l).createdOrder := rfl

section Placement

variable {x : Line} {a : Assignment}

theorem Line.waits_iff : x.waits = true ↔ ∃ a, x.asg = some a ∧ a.placement = .waiting := by
  unfold Line.waits
  cases x.asg with
  | none => simp
  | some a => simp

theorem Line.placedBus_eq_some_iff {bus : Bus} :
    x.placedBus = some bus ↔ ∃ a o n, x.asg = some a ∧ a.placement = .placed bus o n := by
  unfold Line.placedBus
  cases x.asg with
  | none => simp
  | some a =>
    cases hp : a.placement with
    | waiting => simp [hp]
    | placed v o n => simp [hp]

theorem Line.placedBus_of_placed {bus : Bus} {o : Slot} {n : Nat} (h : x.asg = some a)
    (hp : a.placement = .placed bus o n) : x.placedBus = some bus := Line.placedBus_eq_some_iff.2 ⟨a, o, n, h, hp⟩

theorem Line.placedBus_of_waiting (h : x.asg = some a) (hp : a.placement = .waiting) : x.placedBus = none := by
  unfold Line.placedBus; rw [h]; simp only [hp]

theorem Line.placedBus_of_none (h : x.asg = none) : x.placedBus = none := by unfold Line.placedBus; rw [h]

theorem Line.placedBus_of_waits (h : x.waits = true) : x.placedBus = none := by
  obtain ⟨a, ha, hp⟩ := Line.waits_iff.1 h
  exact Line.placedBus_of_waiting ha hp

theorem Line.loadOn_of_placed (codes : CodeId → Pattern) {bus : Bus} {o : Slot} {n : Nat} (h : x.asg = some a)
    (hp : a.placement = .placed bus o n) (v : Bus) (g : Slot) :
    x.loadOn codes v g = if bus = v then loadAt codes a o g else 0 := by
  unfold Line.loadOn; rw [h]; simp only [hp]

theorem Line.loadOn_of_unplaced (codes : CodeId → Pattern) (v : Bus) (g : Slot) (h : x.placedBus ≠ some v) :
    x.loadOn codes v g = 0 := by
  cases ha : x.asg with
  | none => unfold Line.loadOn; rw [ha]
  | some a =>
    cases hp : a.placement with
    | waiting => unfold Line.loadOn; rw [ha]; simp only [hp]
    | placed bus o n =>
      rw [Line.loadOn_of_placed codes ha hp, if_neg]
      rintro rfl
      exact h (Line.placedBus_of_placed ha hp)

end Placement

/-! ### Sums over the lines (R32) -/

theorem sum_allLines (f : LineId → Nat) : (allLines.map f).sum = ∑ l, f l := by
  rw [allLines, List.map_ofFn, List.sum_ofFn]; rfl

/-- Two sums that differ on one line differ by it. -/
theorem sum_of_others {f g : LineId → Nat} (l : LineId) (h : ∀ m, m ≠ l → f m = g m) : ∑ m, f m + g l = ∑ m, g m + f l := by
  have hf := Finset.add_sum_erase Finset.univ f (Finset.mem_univ l)
  have hg := Finset.add_sum_erase Finset.univ g (Finset.mem_univ l)
  have hfg : ∑ m ∈ Finset.univ.erase l, f m = ∑ m ∈ Finset.univ.erase l, g m :=
    Finset.sum_congr rfl fun m hm => h m (Finset.ne_of_mem_erase hm)
  omega

/-- What a line brings to a slot of a bus, the lines of `out` having been taken off it. -/
def State.carried (s : State) (out : List LineId) (bus : Bus) (g : Slot) (m : LineId) : Nat :=
  if m ∈ out then 0 else (s.line m).loadOn s.pattern bus g

/-- Every slot load is the sum of what the lines bring to it, those of `out` having been taken off their buses. -/
def LoadSums (out : List LineId) (s : State) : Prop :=
  ∀ bus g, (s.bus bus).loads.get g = ∑ m, s.carried out bus g m

/-- Every GOOD bus is within its budget. -/
def State.Within (s : State) : Prop :=
  ∀ bus, (s.bus bus).status = .good → ∀ g, (s.bus bus).loads.get g ≤ (s.bus bus).budget

/-- No assignment is placed on a FAULTED bus. -/
def State.FaultedEmpty (s : State) : Prop :=
  ∀ bus, (s.bus bus).status = .faulted → ∀ l, (s.line l).placedBus ≠ some bus

theorem loadLaw_iff (s : State) : LoadLaw s ↔ LoadSums [] s ∧ s.Within ∧ s.FaultedEmpty := by
  have hsums : LoadSums [] s ↔ ∀ bus g, (s.bus bus).loads.get g = (allLines.map fun l => (s.line l).loadOn s.pattern bus g).sum :=
    forall₂_congr fun bus g => by
      rw [sum_allLines]
      exact iff_of_eq (congrArg (_ = ·) (Finset.sum_congr rfl fun m _ => by simp [State.carried]))
  exact ⟨fun ⟨h1, h2, h3⟩ => ⟨hsums.2 h1, h2, h3⟩, fun ⟨h1, h2, h3⟩ => ⟨hsums.1 h1, h2, h3⟩⟩

section Sums

variable {s t : State} {l : LineId} {out out' : List LineId}

/-- The sums after a change of one line: the bus loads change by what that line brings more or less. -/
theorem LoadSums.of_change (h : LoadSums out s) (hothers : ∀ m, m ≠ l → ∀ bus g, t.carried out' bus g m = s.carried out bus g m)
    (hloads : ∀ bus g, (t.bus bus).loads.get g + s.carried out bus g l = (s.bus bus).loads.get g + t.carried out' bus g l) :
    LoadSums out' t := fun bus g => by
  have hsum := sum_of_others (f := t.carried out' bus g) (g := s.carried out bus g) l fun m hm => hothers m hm bus g
  have hs := h bus g
  have hl := hloads bus g
  omega

/-- A line's load is part of its bus's. -/
theorem LoadSums.le (h : LoadSums out s) (hl : l ∉ out) (bus : Bus) (g : Slot) :
    (s.line l).loadOn s.pattern bus g ≤ (s.bus bus).loads.get g := by
  rw [h bus g]
  refine le_trans (le_of_eq ?_) (Finset.single_le_sum (fun _ _ => Nat.zero_le _) (Finset.mem_univ l))
  exact (if_neg hl).symm

theorem LoadSums.congr (h : LoadSums out s) (hout : ∀ m, m ∈ out' ↔ m ∈ out) : LoadSums out' s := fun bus g => by
  rw [h bus g]
  exact Finset.sum_congr rfl fun m _ => if_congr (hout m).symm rfl rfl

/-- A line that brings no load may be counted as taken off. -/
theorem LoadSums.cons (h : LoadSums out s) (hl : (s.line l).placedBus = none) : LoadSums (l :: out) s := fun bus g => by
  rw [h bus g]
  refine Finset.sum_congr rfl fun m _ => ?_
  unfold State.carried
  by_cases hm : m ∈ out
  · rw [if_pos hm, if_pos (List.mem_cons_of_mem l hm)]
  · rw [if_neg hm]
    by_cases e : m = l
    · rw [e, Line.loadOn_of_unplaced _ _ _ (by rw [hl]; nofun), if_pos List.mem_cons_self]
    · rw [if_neg (by simp [e, hm])]

end Sums

/-! ### The operations' effects -/

section Effects

variable (s : State) (l : LineId) (a : Assignment) (bus : Bus) (o : Slot)

theorem State.modBus_bus (f : BusRecord → BusRecord) (v : Bus) :
    (s.modBus bus f).bus v = if v = bus then f (s.bus v) else s.bus v := by
  split
  · rename_i e; rw [e, State.modBus_bus_self]
  · rename_i e; exact State.modBus_bus_ne _ _ _ _ e

theorem State.place_loads (v : Bus) (g : Slot) : ((s.place l a bus o).bus v).loads.get g =
    (s.bus v).loads.get g + if bus = v then loadAt s.pattern a o g else 0 := by
  have e : (s.place l a bus o).bus v = (s.addLoads a bus o).bus v := by cases v <;> rfl
  rw [e, State.addLoads, State.modBus_bus]
  by_cases hv : v = bus
  · rw [if_pos hv, if_pos hv.symm, tabulate_get]
  · rw [if_neg hv, if_neg (Ne.symm hv)]; rfl

theorem State.place_bus (v : Bus) :
    (s.place l a bus o).bus v = { s.bus v with loads := ((s.place l a bus o).bus v).loads } := by
  have e : (s.place l a bus o).bus v = (s.addLoads a bus o).bus v := by cases v <;> rfl
  rw [e, State.addLoads, State.modBus_bus]
  split <;> rfl

theorem State.place_line (m : LineId) : (s.place l a bus o).line m =
    if m = l then { s.line m with asg := some { a with placement := .placed bus o s.placedCount } } else s.line m := by
  obtain ⟨hself, hothers, -⟩ := s.place_spec l a bus o
  split
  · rename_i e; rw [e, hself]
  · rename_i e; exact hothers m e

theorem State.joinWaiting_line (m : LineId) : (s.joinWaiting l a).line m =
    if m = l then { s.line m with asg := some { a with placement := .waiting, waited := 0 } } else s.line m := by
  obtain ⟨hself, hothers, -⟩ := s.joinWaiting_spec l a
  split
  · rename_i e; rw [e, hself]
  · rename_i e; exact hothers m e

theorem State.joinWaiting_bus (v : Bus) : (s.joinWaiting l a).bus v = s.bus v := by cases v <;> rfl

theorem State.subtractLoads_loads (v : Bus) (g : Slot) : ((s.subtractLoads a bus o).bus v).loads.get g =
    (s.bus v).loads.get g - if bus = v then loadAt s.pattern a o g else 0 := by
  rw [State.subtractLoads, State.modBus_bus]
  by_cases hv : v = bus
  · rw [if_pos hv, if_pos hv.symm, tabulate_get]
  · rw [if_neg hv, if_neg (Ne.symm hv)]; rfl

theorem State.subtractLoads_bus (v : Bus) :
    (s.subtractLoads a bus o).bus v = { s.bus v with loads := ((s.subtractLoads a bus o).bus v).loads } := by
  rw [State.subtractLoads, State.modBus_bus]
  split <;> rfl

/-- A displaced assignment's loads leave its bus (R49, R53). -/
theorem State.unload_loads (v : Bus) (g : Slot) :
    ((s.unload l).bus v).loads.get g = (s.bus v).loads.get g - (s.line l).loadOn s.pattern v g := by
  unfold State.unload Line.loadOn
  cases (s.line l).asg with
  | none => rfl
  | some a =>
    cases hp : a.placement with
    | waiting => simp only [hp]; rfl
    | placed bus o n => simp only [hp]; exact s.subtractLoads_loads a bus o v g

theorem State.unload_bus (v : Bus) : (s.unload l).bus v = { s.bus v with loads := ((s.unload l).bus v).loads } := by
  unfold State.unload
  cases (s.line l).asg with
  | none => rfl
  | some a =>
    cases hp : a.placement with
    | waiting => simp only [hp]
    | placed bus o n => simp only [hp]; exact s.subtractLoads_bus a bus o v

/-- Taking an assignment's loads off its bus writes the buses alone. -/
theorem State.unload_eq : s.unload l = { s with busA := (s.unload l).busA, busB := (s.unload l).busB } := by
  unfold State.unload
  cases (s.line l).asg with
  | none => rfl
  | some a =>
    cases hp : a.placement with
    | waiting => simp only [hp]
    | placed bus o n => simp only [hp]; cases bus <;> rfl

@[simp] theorem State.unload_line (m : LineId) : (s.unload l).line m = s.line m := by rw [State.unload_eq]; rfl

@[simp] theorem State.unload_pattern : (s.unload l).pattern = s.pattern := by rw [State.unload_eq]; rfl

/-- A removed assignment's loads leave its bus (R32, R47). -/
theorem State.removeAssignment_loads (c : CutCause) (v : Bus) (g : Slot) :
    ((s.removeAssignment l c).bus v).loads.get g = (s.bus v).loads.get g - (s.line l).loadOn s.pattern v g := by
  cases ha : (s.line l).asg with
  | none =>
    rw [State.removeAssignment_of_none c ha, Line.loadOn_of_unplaced _ _ _ (by rw [Line.placedBus_of_none ha]; nofun)]; rfl
  | some a =>
    cases hp : a.placement with
    | waiting =>
      rw [State.removeAssignment_of_waiting c ha hp, State.modDet_bus, State.setAsg_bus,
        Line.loadOn_of_unplaced _ _ _ (by rw [Line.placedBus_of_waiting ha hp]; nofun)]
      cases v <;> rfl
    | placed bus o n =>
      rw [State.removeAssignment_of_placed c ha hp, State.modDet_bus, State.setAsg_bus, State.earlyQuench_bus,
        State.subtractLoads_loads, Line.loadOn_of_placed _ ha hp]

theorem State.removeAssignment_bus (c : CutCause) (v : Bus) : (s.removeAssignment l c).bus v =
    { s.bus v with loads := ((s.removeAssignment l c).bus v).loads } := by
  cases ha : (s.line l).asg with
  | none => rw [State.removeAssignment_of_none c ha]
  | some a =>
    cases hp : a.placement with
    | waiting =>
      rw [State.removeAssignment_of_waiting c ha hp, State.modDet_bus, State.setAsg_bus]
      cases v <;> rfl
    | placed bus o n =>
      rw [State.removeAssignment_of_placed c ha hp, State.modDet_bus, State.setAsg_bus, State.earlyQuench_bus]
      exact s.subtractLoads_bus a bus o v

theorem State.removeAssignment_pattern (c : CutCause) : (s.removeAssignment l c).pattern = s.pattern := by
  rw [State.removeAssignment_eq]; rfl

@[simp] theorem State.place_pattern : (s.place l a bus o).pattern = s.pattern := by rw [State.place_eq]; rfl

@[simp] theorem State.joinWaiting_pattern : (s.joinWaiting l a).pattern = s.pattern := rfl

theorem State.joinWaiting_waiting : (s.joinWaiting l a).waiting = insertBy (s.joinWaiting l a).createdOf l s.waiting := rfl

@[simp] theorem State.joinWaiting_createdCount : (s.joinWaiting l a).createdCount = s.createdCount := rfl

theorem State.place_waiting : (s.place l a bus o).waiting = s.waiting.filter (· ≠ l) := rfl

theorem State.place_createdCount : (s.place l a bus o).createdCount = s.createdCount := by rw [State.place_eq]

end Effects

/-! ### The sums through the operations -/

section SumsKept

variable {s : State} {l : LineId} {out : List LineId}

theorem State.carried_eq_of_line {s t : State} {out out' : List LineId} (hpattern : t.pattern = s.pattern) {m : LineId}
    (hline : (t.line m).asg = (s.line m).asg) (hm : m ∈ out' ↔ m ∈ out) (bus : Bus) (g : Slot) :
    t.carried out' bus g m = s.carried out bus g m := by
  unfold State.carried
  rw [hpattern, Line.loadOn_congr hline]
  exact if_congr hm rfl rfl

theorem LoadSums.removeAssignment (h : LoadSums out s) (hl : l ∉ out) (c : CutCause) :
    LoadSums out (s.removeAssignment l c) := by
  refine LoadSums.of_change (l := l) h (fun m hm bus g => ?_) fun bus g => ?_
  · exact State.carried_eq_of_line (s.removeAssignment_pattern l c)
      (congrArg Line.asg (s.removeAssignment_othersKept l c m hm)) .rfl bus g
  · have hle := h.le hl bus g
    have hnone : (s.removeAssignment l c).carried out bus g l = 0 := by
      unfold State.carried
      rw [if_neg hl, Line.loadOn_of_unplaced]
      rw [Line.placedBus_of_none (by rw [State.removeAssignment_line_eq])]
      nofun
    rw [hnone, State.removeAssignment_loads, State.carried, if_neg hl]
    omega

theorem LoadSums.unload (h : LoadSums out s) (hl : l ∉ out) : LoadSums (l :: out) (s.unload l) := by
  refine LoadSums.of_change (l := l) h (fun m hm bus g => ?_) fun bus g => ?_
  · exact State.carried_eq_of_line (s.unload_pattern l) (by rw [State.unload_line]) (by simp [hm]) bus g
  · have hle := h.le hl bus g
    rw [State.unload_loads, State.carried, State.carried, if_neg hl, if_pos List.mem_cons_self]
    omega

theorem LoadSums.place (h : LoadSums (l :: out) s) (hl : l ∉ out) (a : Assignment) (bus : Bus) (o : Slot) :
    LoadSums out (s.place l a bus o) := by
  refine LoadSums.of_change (l := l) h (fun m hm v g => ?_) fun v g => ?_
  · exact State.carried_eq_of_line (s.place_pattern l a bus o) (by rw [State.place_line, if_neg hm]) (by simp [hm]) v g
  · have hself : ((s.place l a bus o).line l).asg = some { a with placement := .placed bus o s.placedCount } := by
      rw [State.place_line, if_pos rfl]
    rw [State.place_loads, State.carried, State.carried, if_neg hl, if_pos List.mem_cons_self,
      Line.loadOn_of_placed _ hself rfl, State.place_pattern]
    rfl

theorem LoadSums.joinWaiting (h : LoadSums (l :: out) s) (hl : l ∉ out) (a : Assignment) :
    LoadSums out (s.joinWaiting l a) := by
  refine LoadSums.of_change (l := l) h (fun m hm v g => ?_) fun v g => ?_
  · exact State.carried_eq_of_line (s.joinWaiting_pattern l a) (by rw [State.joinWaiting_line, if_neg hm]) (by simp [hm]) v g
  · have hself : ((s.joinWaiting l a).line l).asg = some { a with placement := .waiting, waited := 0 } := by
      rw [State.joinWaiting_line, if_pos rfl]
    rw [State.joinWaiting_bus, State.carried, State.carried, if_neg hl, if_pos List.mem_cons_self,
      Line.loadOn_of_unplaced _ _ _ (by rw [Line.placedBus_of_waiting hself rfl]; nofun)]

end SumsKept

end Sys2Proof.Machine
end

section
/-! PROOFS. The laws of ringing (R32, R34, R35, R41, R57, R64) as a law of the plan and a law of each line's relays, and
what the planner's operations make of them. -/

namespace Sys2Proof.Machine

/-! ### The relays of one line (R57, R64) -/

/-- Whether a line's ringing relays are driven (R58). -/
abbrev Line.Driven (x : Line) : Prop := x.relay.phase = .arm ∨ x.relay.phase = .ring

/-- What the law of the relays says of one line, the buses that are GOOD being given. -/
structure RelayFits (good : Bus → Prop) (x : Line) : Prop where
  placed : x.Driven → x.placedBus = x.relay.bus ∧ x.relay.bus.isSome = true
  onGood : ∀ bus, x.Driven → x.relay.bus = some bus → good bus
  silentEmpty : x.relay.phase = .silent → x.relay.bus = none ∧ x.relay.side = none ∧ x.relay.lastSlot = none ∧
    x.relay.quenchKind = none ∧ x.relay.timer = none
  quenchKind : x.relay.phase = .quench ↔ x.relay.quenchKind.isSome = true

/-- Whether a bus is GOOD. -/
abbrev State.Good (s : State) (bus : Bus) : Prop := (s.bus bus).status = .good

/-- Every line's relays are as the law of the relays has them. -/
def RelaysFit (s : State) : Prop := ∀ l, RelayFits s.Good (s.line l)

theorem relayLaw_iff (s : State) : RelayLaw s ↔ RelaysFit s :=
  ⟨fun ⟨h1, h2, h3, h4⟩ l => ⟨h1 l, h2 l, h3 l, h4 l⟩,
    fun h => ⟨fun l => (h l).placed, fun l => (h l).onGood, fun l => (h l).silentEmpty, fun l => (h l).quenchKind⟩⟩

section RelayFits

variable {good good' : Bus → Prop} {x y : Line}

/-- A line without a placed assignment rings nothing. -/
theorem RelayFits.undriven (h : RelayFits good x) (hplaced : x.placedBus = none) : ¬x.Driven := fun hd => by
  obtain ⟨he, hsome⟩ := h.placed hd
  rw [← he, hplaced] at hsome
  exact absurd hsome nofun

/-- The law of a line that is not driven does not read its assignment or the buses. -/
theorem RelayFits.of_undriven (h : RelayFits good x) (hd : ¬x.Driven) (hrelay : y.relay = x.relay) :
    RelayFits good' y := by
  obtain ⟨-, -, h3, h4⟩ := h
  refine ⟨fun he => absurd he ?_, fun _ he => absurd he ?_, ?_, ?_⟩
  · rw [Line.Driven, hrelay]; exact hd
  · rw [Line.Driven, hrelay]; exact hd
  · rw [hrelay]; exact h3
  · rw [hrelay]; exact h4

theorem RelayFits.of_kept (h : RelayFits good x) (hrelay : y.relay = x.relay) (hplaced : y.placedBus = x.placedBus)
    (hgood : ∀ bus, good bus → good' bus) : RelayFits good' y := by
  obtain ⟨h1, h2, h3, h4⟩ := h
  constructor
  · rw [Line.Driven, hrelay, hplaced]; exact h1
  · rw [Line.Driven, hrelay]; exact fun bus hd he => hgood bus (h2 bus hd he)
  · rw [hrelay]; exact h3
  · rw [hrelay]; exact h4

/-- Early QUENCH leaves the relays undriven (R64). -/
theorem Line.earlyQuench_undriven (c : CutCause) (x : Line) : ¬(x.earlyQuench c).Driven := by
  rcases Line.earlyQuench_cases c x with ⟨_, e⟩ | ⟨_, e⟩ | ⟨h, e⟩ <;> rw [e]
  · exact fun h => h.elim nofun nofun
  · exact fun h => h.elim nofun nofun
  · exact fun hd => by rcases h with h | h <;> rcases hd with hd | hd <;> exact absurd (h.symm.trans hd) nofun

theorem RelayFits.earlyQuench (h : RelayFits good x) (c : CutCause) : RelayFits good' (x.earlyQuench c) := by
  have hcut (d : DetectorRecord) : RelayFits good' { x with
      relay := { x.relay with phase := .quench, quenchKind := some .early, timer := some 30 }, det := d } :=
    ⟨fun hd => hd.elim nofun nofun, fun _ hd => hd.elim nofun nofun, nofun, iff_of_true rfl rfl⟩
  rcases Line.earlyQuench_cases c x with ⟨_, e⟩ | ⟨_, e⟩ | ⟨hs, e⟩
  · rw [e]; exact hcut _
  · rw [e]; exact hcut _
  · rw [e]
    exact h.of_undriven (fun hd => by rcases hs with hs | hs <;> rcases hd with hd | hd <;> exact absurd (hs.symm.trans hd) nofun) rfl

end RelayFits

/-! ### The waiting list (R41) -/

/-- What the waiting list's law reads of a line's assignment. -/
def Line.ticket (x : Line) : Option (Placement × Nat) := x.asg.map fun a => (a.placement, a.createdOrder)

theorem Line.ticket_congr {x y : Line} (h : y.asg = x.asg) : y.ticket = x.ticket := by rw [Line.ticket, h]; rfl

section Ticket

variable {x y : Line} (h : y.ticket = x.ticket)
include h

theorem Line.ticket_eq_cases : (y.asg = none ∧ x.asg = none) ∨ ∃ a b, y.asg = some a ∧ x.asg = some b ∧
    a.placement = b.placement ∧ a.createdOrder = b.createdOrder := by
  unfold Line.ticket at h
  cases hy : y.asg with
  | none =>
    cases hx : x.asg with
    | none => exact .inl ⟨rfl, rfl⟩
    | some b => rw [hy, hx] at h; exact absurd h nofun
  | some a =>
    cases hx : x.asg with
    | none => rw [hy, hx] at h; exact absurd h nofun
    | some b =>
      rw [hy, hx] at h
      obtain ⟨hp, ho⟩ := Prod.mk.inj (Option.some.inj h)
      exact .inr ⟨a, b, rfl, rfl, hp, ho⟩

theorem Line.isSome_of_ticket : y.asg.isSome = x.asg.isSome := by
  rcases Line.ticket_eq_cases h with ⟨e, f⟩ | ⟨a, b, e, f, -, -⟩ <;> rw [e, f]
  rfl

theorem Line.waits_of_ticket : y.waits = x.waits := by
  unfold Line.waits
  rcases Line.ticket_eq_cases h with ⟨e, f⟩ | ⟨a, b, e, f, hp, -⟩ <;> rw [e, f]
  simp only [hp]

theorem Line.placedBus_of_ticket : y.placedBus = x.placedBus := by
  unfold Line.placedBus
  rcases Line.ticket_eq_cases h with ⟨e, f⟩ | ⟨a, b, e, f, hp, -⟩ <;> rw [e, f]
  simp only [hp]

theorem Line.createdOrder_of_ticket : y.createdOrder = x.createdOrder := by
  unfold Line.createdOrder
  rcases Line.ticket_eq_cases h with ⟨e, f⟩ | ⟨a, b, e, f, -, ho⟩ <;> rw [e, f]
  exact ho

end Ticket

theorem Line.createdOrder_of_asg {x : Line} {a : Assignment} (h : x.asg = some a) : x.createdOrder = a.createdOrder := by
  unfold Line.createdOrder; rw [h]

/-- A created-order number that a line may have: below the count, and no other line's (R34). -/
structure State.FreeOrder (s : State) (l : LineId) (n : Nat) : Prop where
  counted : n < s.createdCount
  distinct : ∀ m, m ≠ l → (s.line m).asg.isSome = true → (s.line m).createdOrder ≠ n

section Waiting

variable {s t : State} {l : LineId}

/-- The number an assignment has is free for it. -/
theorem WaitingLaw.freeOrder (h : WaitingLaw s) {a : Assignment} (ha : (s.line l).asg = some a) :
    s.FreeOrder l a.createdOrder := by
  have hsome : (s.line l).asg.isSome = true := by rw [ha]; rfl
  rw [← Line.createdOrder_of_asg ha]
  exact ⟨h.counted l hsome, fun m hm hs => h.distinct m l hm hs hsome⟩

theorem WaitingLaw.not_mem (h : WaitingLaw s) (hw : (s.line l).waits = false) : l ∉ s.waiting := by
  rw [h.members, hw]; nofun

/-- The counts and the numbers after a change of one line's assignment. -/
theorem WaitingLaw.numbers (h : WaitingLaw s) (hothers : OthersKept l s t) (hcount : t.createdCount = s.createdCount)
    (hfree : (t.line l).asg.isSome = true → s.FreeOrder l (t.line l).createdOrder) :
    (∀ m, (t.line m).asg.isSome = true → t.createdOf m < t.createdCount) ∧
      ∀ m k, m ≠ k → (t.line m).asg.isSome = true → (t.line k).asg.isSome = true → t.createdOf m ≠ t.createdOf k := by
  simp only [State.createdOf_eq]
  constructor
  · intro m hs
    rw [hcount]
    by_cases e : m = l
    · rw [e] at hs ⊢; exact (hfree hs).counted
    · rw [hothers m e] at hs ⊢; exact h.counted m hs
  · intro m k hne hm hk
    by_cases em : m = l
    · have ek : k ≠ l := fun e => hne (em.trans e.symm)
      rw [em] at hm ⊢
      rw [hothers k ek] at hk ⊢
      exact ((hfree hm).distinct k ek hk).symm
    · rw [hothers m em] at hm ⊢
      by_cases ek : k = l
      · rw [ek] at hk ⊢
        exact (hfree hk).distinct m em hm
      · rw [hothers k ek] at hk ⊢
        exact h.distinct m k hne hm hk

/-- A line is off the waiting list. -/
theorem WaitingLaw.leaves (h : WaitingLaw s) (hothers : OthersKept l s t) (hcount : t.createdCount = s.createdCount)
    (hfree : (t.line l).asg.isSome = true → s.FreeOrder l (t.line l).createdOrder)
    (hwaiting : t.waiting = s.waiting.filter (· ≠ l)) (hl : (t.line l).waits = false) : WaitingLaw t := by
  obtain ⟨hcounted, hdistinct⟩ := h.numbers hothers hcount hfree
  refine ⟨?_, fun m => ?_, ?_, hcounted, hdistinct⟩
  · rw [hwaiting]; exact h.nodup.filter _
  · rw [hwaiting, List.mem_filter, decide_eq_true_eq]
    by_cases e : m = l
    · rw [e, hl]; exact iff_of_false (fun hm => hm.2 rfl) nofun
    · rw [hothers m e, h.members]; exact and_iff_left e
  · rw [hwaiting]
    refine (h.ordered.filter _).imp_of_mem fun {m k} hm hk hlt => ?_
    have em : m ≠ l := by simpa using (List.mem_filter.1 hm).2
    have ek : k ≠ l := by simpa using (List.mem_filter.1 hk).2
    rw [State.createdOf_eq, State.createdOf_eq, hothers m em, hothers k ek]
    exact hlt

/-- A line joins the waiting list (R41). -/
theorem WaitingLaw.joins (h : WaitingLaw s) (hothers : OthersKept l s t) (hcount : t.createdCount = s.createdCount)
    (hfree : s.FreeOrder l (t.line l).createdOrder) (hwaiting : t.waiting = insertBy t.createdOf l s.waiting)
    (hl : (t.line l).waits = true) (hnot : l ∉ s.waiting) : WaitingLaw t := by
  obtain ⟨hcounted, hdistinct⟩ := h.numbers hothers hcount fun _ => hfree
  have hperm := insertBy_perm t.createdOf l s.waiting
  have hsame (m : LineId) (hm : m ∈ s.waiting) : t.createdOf m = s.createdOf m := by
    rw [State.createdOf_eq, hothers m (fun e => hnot (e ▸ hm))]; rfl
  have hsome (m : LineId) (hm : m ∈ s.waiting) : (s.line m).asg.isSome = true := by
    obtain ⟨a, ha, -⟩ := Line.waits_iff.1 ((h.members m).1 hm)
    rw [ha]; rfl
  refine ⟨?_, fun m => ?_, ?_, hcounted, hdistinct⟩
  · rw [hwaiting, hperm.nodup_iff]; exact List.nodup_cons.2 ⟨hnot, h.nodup⟩
  · rw [hwaiting, hperm.mem_iff, List.mem_cons]
    by_cases e : m = l
    · rw [e, hl]; exact iff_of_true (.inl rfl) rfl
    · rw [hothers m e, h.members]; exact or_iff_right e
  · have hordered : s.waiting.Pairwise fun m k => t.createdOf m ≤ t.createdOf k :=
      h.ordered.imp_of_mem fun {m k} hm hk hlt => by rw [hsame m hm, hsame k hk]; exact hlt.le
    have hnodup : (insertBy t.createdOf l s.waiting).Nodup := by
      rw [hperm.nodup_iff]; exact List.nodup_cons.2 ⟨hnot, h.nodup⟩
    rw [hwaiting]
    refine (List.Pairwise.and (insertBy_pairwise t.createdOf l hordered) hnodup).imp_of_mem fun {m k} hm hk hle => ?_
    have hin (m : LineId) (hm : m ∈ insertBy t.createdOf l s.waiting) : (t.line m).asg.isSome = true := by
      rcases List.mem_cons.1 (hperm.mem_iff.1 hm) with rfl | hm
      · obtain ⟨a, ha, -⟩ := Line.waits_iff.1 hl
        rw [ha]; rfl
      · rw [hothers m (fun e => hnot (e ▸ hm))]; exact hsome m hm
    exact lt_of_le_of_ne hle.1 (hdistinct m k hle.2 (hin m hm) (hin k hk))

end Waiting

/-! ### The plan -/

/-- The laws of the waiting list and the load map while the lines of `out` are taken off their buses. -/
structure PlanBook (out : List LineId) (s : State) : Prop where
  waiting : WaitingLaw s
  sums : LoadSums out s
  within : s.Within
  empty : ∀ bus, (s.bus bus).status = .faulted → ∀ l, l ∉ out → (s.line l).placedBus ≠ some bus

theorem ringingLaws_iff (s : State) : RingingLaws s ↔ PlanBook [] s ∧ RelaysFit s := by
  constructor
  · rintro ⟨hw, hl, hr⟩
    obtain ⟨h1, h2, h3⟩ := (loadLaw_iff s).1 hl
    exact ⟨⟨hw, h1, h2, fun bus hb l _ => h3 bus hb l⟩, (relayLaw_iff s).1 hr⟩
  · rintro ⟨⟨hw, h1, h2, h3⟩, hr⟩
    exact ⟨hw, (loadLaw_iff s).2 ⟨h1, h2, fun bus hb l => h3 bus hb l List.not_mem_nil⟩, (relayLaw_iff s).2 hr⟩

/-- What the plan's law reads is as it was. -/
structure PlanKept (s t : State) : Prop where
  bus : ∀ v, (t.bus v).status = (s.bus v).status ∧ (t.bus v).loads = (s.bus v).loads ∧
    (t.bus v).budget = (s.bus v).budget
  waiting : t.waiting = s.waiting
  createdCount : t.createdCount = s.createdCount
  ticket : ∀ l, (t.line l).ticket = (s.line l).ticket
  loadOn : ∀ l v g, (t.line l).loadOn t.pattern v g = (s.line l).loadOn s.pattern v g

section Plan

variable {s t : State} {l : LineId} {out : List LineId}

theorem PlanBook.of_kept (h : PlanBook out s) (k : PlanKept s t) : PlanBook out t := by
  obtain ⟨⟨w1, w2, w3, w4, w5⟩, hsums, hwithin, hempty⟩ := h
  have horder (m : LineId) : t.createdOf m = s.createdOf m := Line.createdOrder_of_ticket (k.ticket m)
  refine ⟨⟨?_, fun m => ?_, ?_, fun m hm => ?_, fun m n hne hm hn => ?_⟩, fun v g => ?_, fun v hv g => ?_, fun v hv m hm => ?_⟩
  · rw [k.waiting]; exact w1
  · rw [k.waiting, Line.waits_of_ticket (k.ticket m)]; exact w2 m
  · rw [k.waiting]; simp only [horder]; exact w3
  · rw [horder, k.createdCount]; exact w4 m (Line.isSome_of_ticket (k.ticket m) ▸ hm)
  · rw [horder, horder]
    exact w5 m n hne (Line.isSome_of_ticket (k.ticket m) ▸ hm) (Line.isSome_of_ticket (k.ticket n) ▸ hn)
  · rw [(k.bus v).2.1, hsums v g]
    exact Finset.sum_congr rfl fun m _ => if_congr .rfl rfl (k.loadOn m v g).symm
  · rw [(k.bus v).2.1, (k.bus v).2.2]; exact hwithin v ((k.bus v).1 ▸ hv) g
  · rw [Line.placedBus_of_ticket (k.ticket m)]; exact hempty v ((k.bus v).1 ▸ hv) m hm

/-- A line with no placed assignment may be counted as taken off. -/
theorem PlanBook.cons (h : PlanBook out s) (hl : (s.line l).placedBus = none) : PlanBook (l :: out) s :=
  ⟨h.waiting, h.sums.cons hl, h.within, fun v hv m hm => h.empty v hv m fun e => hm (List.mem_cons_of_mem l e)⟩

theorem PlanBook.congr {out' : List LineId} (h : PlanBook out s) (hout : ∀ m, m ∈ out' ↔ m ∈ out) : PlanBook out' s :=
  ⟨h.waiting, h.sums.congr hout, h.within, fun v hv m hm => h.empty v hv m fun e => hm ((hout m).2 e)⟩

/-- A line's assignment is placed where it fits (R36). -/
theorem PlanBook.place (h : PlanBook (l :: out) s) (hl : l ∉ out) {a : Assignment} (hfree : s.FreeOrder l a.createdOrder)
    {bus : Bus} {o : Slot} (hgood : s.Good bus) (hfits : s.fits a bus o = true) : PlanBook out (s.place l a bus o) := by
  have hself : ((s.place l a bus o).line l).asg = some { a with placement := .placed bus o s.placedCount } := by
    rw [State.place_line, if_pos rfl]
  have hothers : OthersKept l s (s.place l a bus o) := fun m hm => by rw [State.place_line, if_neg hm]
  refine ⟨h.waiting.leaves hothers (s.place_createdCount l a bus o) ?_ rfl ?_, h.sums.place hl a bus o,
    fun v hv g => ?_, fun v hv m hm => ?_⟩
  · rw [Line.createdOrder_of_asg hself]; exact fun _ => hfree
  · unfold Line.waits; rw [hself]; rfl
  · rw [State.place_bus] at hv
    rw [State.place_loads, State.place_bus]
    by_cases e : bus = v
    · subst e
      rw [if_pos rfl]
      exact (s.fits_iff a bus o).1 hfits g
    · rw [if_neg e]
      exact h.within v hv g
  · rw [State.place_bus] at hv
    by_cases e : m = l
    · rw [e, Line.placedBus_of_placed hself rfl]
      rintro ⟨⟩
      exact absurd (hgood.symm.trans hv) nofun
    · rw [hothers m e]; exact h.empty v hv m (by simp [e, hm])

/-- A line's assignment joins the waiting list (R39, R41). -/
theorem PlanBook.joinWaiting (h : PlanBook (l :: out) s) (hl : l ∉ out) {a : Assignment}
    (hfree : s.FreeOrder l a.createdOrder) (hnot : l ∉ s.waiting) : PlanBook out (s.joinWaiting l a) := by
  have hself : ((s.joinWaiting l a).line l).asg = some { a with placement := .waiting, waited := 0 } := by
    rw [State.joinWaiting_line, if_pos rfl]
  have hothers : OthersKept l s (s.joinWaiting l a) := fun m hm => by rw [State.joinWaiting_line, if_neg hm]
  refine ⟨h.waiting.joins hothers rfl ?_ rfl ?_ hnot, h.sums.joinWaiting hl a, fun v hv g => ?_, fun v hv m hm => ?_⟩
  · rw [Line.createdOrder_of_asg hself]; exact hfree
  · unfold Line.waits; rw [hself]; rfl
  · rw [State.joinWaiting_bus] at hv ⊢; exact h.within v hv g
  · rw [State.joinWaiting_bus] at hv
    by_cases e : m = l
    · rw [e, Line.placedBus_of_waiting hself rfl]; nofun
    · rw [hothers m e]; exact h.empty v hv m (by simp [e, hm])

/-- An assignment is removed (R47). -/
theorem PlanBook.removeAssignment (h : PlanBook [] s) (l : LineId) (c : CutCause) :
    PlanBook [] (s.removeAssignment l c) := by
  have hasg : ((s.removeAssignment l c).line l).asg = none := by rw [State.removeAssignment_line_eq]
  have hothers := s.removeAssignment_othersKept l c
  have hcount := (s.removeAssignment_fixedKept l c).createdCount
  have hwaiting : (s.removeAssignment l c).waiting = s.waiting.filter (· ≠ l) := by
    have hout (hw : (s.line l).waits = false) : s.waiting.filter (· ≠ l) = s.waiting :=
      List.filter_eq_self.2 fun m hm => decide_eq_true fun e => h.waiting.not_mem hw (e ▸ hm)
    cases ha : (s.line l).asg with
    | none => rw [State.removeAssignment_of_none c ha, hout (by unfold Line.waits; rw [ha])]
    | some a =>
      cases hp : a.placement with
      | waiting => rw [State.removeAssignment_of_waiting c ha hp]; rfl
      | placed bus o n =>
        rw [State.removeAssignment_of_placed c ha hp, hout (by unfold Line.waits; rw [ha]; simp [hp])]
        cases bus <;> rfl
  refine ⟨h.waiting.leaves hothers hcount ?_ hwaiting ?_, h.sums.removeAssignment List.not_mem_nil c, fun v hv g => ?_,
    fun v hv m _ => ?_⟩
  · rw [hasg]; exact nofun
  · unfold Line.waits; rw [hasg]
  · rw [State.removeAssignment_bus] at hv
    rw [State.removeAssignment_loads, State.removeAssignment_bus]
    exact (Nat.sub_le _ _).trans (h.within v hv g)
  · rw [State.removeAssignment_bus] at hv
    by_cases e : m = l
    · rw [e, Line.placedBus_of_none hasg]; nofun
    · rw [hothers m e]; exact h.empty v hv m List.not_mem_nil

/-- An assignment is created, placed or waiting (R39). -/
theorem PlanBook.createAssignment (h : PlanBook [] s) (hnone : (s.line l).asg = none) (kind : AssignmentKind)
    (k0 : Stroke) (k1 : Option Stroke) (n : Nat) : PlanBook [] (s.createAssignment l kind k0 k1 n) := by
  have hcounted : PlanBook [] { s with createdCount := s.createdCount + 1 } := by
    obtain ⟨⟨w1, w2, w3, w4, w5⟩, hsums, hwithin, hempty⟩ := h
    exact ⟨⟨w1, w2, w3, fun m hm => Nat.lt_succ_of_lt (w4 m hm), w5⟩, hsums, hwithin, hempty⟩
  have hcons := hcounted.cons (l := l) (Line.placedBus_of_none hnone)
  have hfree : State.FreeOrder { s with createdCount := s.createdCount + 1 } l
      (newAssignment kind k0 k1 n s.createdCount).createdOrder :=
    ⟨Nat.lt_succ_self _, fun m _ hm => (h.waiting.counted m hm).ne⟩
  cases hs : s.search (newAssignment kind k0 k1 n s.createdCount) with
  | none =>
    rw [State.createAssignment_of_not_found hs]
    exact hcons.joinWaiting List.not_mem_nil hfree (h.waiting.not_mem (by unfold Line.waits; rw [hnone]))
  | some p =>
    obtain ⟨hgood, hfits⟩ := s.search_spec _ (o := p.1) (bus := p.2) hs
    rw [State.createAssignment_of_found (o := p.1) (bus := p.2) hs]
    exact hcons.place List.not_mem_nil hfree hgood hfits

/-- The walk of the waiting list places what fits (R42). -/
theorem PlanBook.walk {ls : List LineId} (h : PlanBook [] s) (hls : ls.Nodup) (hwaits : ∀ l ∈ ls, (s.line l).waits = true) :
    PlanBook [] (walk ls s) := by
  induction ls generalizing s with
  | nil => exact h
  | cons l ls ih =>
    obtain ⟨hl, hls⟩ := List.nodup_cons.1 hls
    obtain ⟨a, ha, hp⟩ := Line.waits_iff.1 (hwaits l List.mem_cons_self)
    have hrest (m : LineId) (hm : m ∈ ls) := hwaits m (List.mem_cons_of_mem l hm)
    unfold Machine.walk
    rw [ha]
    dsimp only
    split
    · rename_i o bus hs
      obtain ⟨hgood, hfits⟩ := s.search_spec a hs
      have hplaced := (h.cons (Line.placedBus_of_waiting ha hp)).place List.not_mem_nil (h.waiting.freeOrder ha) hgood hfits
      refine ih hplaced hls fun m hm => ?_
      rw [State.place_line, if_neg (fun e : m = l => hl (e ▸ hm))]
      exact hrest m hm
    · split
      · exact h
      · exact ih h hls hrest

/-- A displaced assignment goes to the other bus or to the waiting list (R49, R53). -/
theorem PlanBook.rehome (h : PlanBook (l :: out) s) (hl : l ∉ out) (hplaced : (s.line l).placedBus.isSome = true) :
    PlanBook out (s.rehome l) := by
  obtain ⟨bus, hbus⟩ := Option.isSome_iff_exists.1 hplaced
  obtain ⟨a, o, n, ha, hp⟩ := Line.placedBus_eq_some_iff.1 hbus
  have hfree := h.waiting.freeOrder ha
  unfold State.rehome
  rw [ha]
  simp only [hp]
  split
  · rename_i hfits
    exact h.place hl hfree hfits.1 hfits.2
  · exact h.joinWaiting hl hfree (h.waiting.not_mem (by unfold Line.waits; rw [ha]; simp [hp]))

end Plan

/-! ### The relays of all lines -/

section Relays

variable {s t : State} {l : LineId}

/-- A change of one line, the buses' status standing. -/
theorem RelaysFit.of_change (h : RelaysFit s) (hothers : OthersKept l s t) (hgood : ∀ bus, s.Good bus → t.Good bus)
    (hl : RelayFits t.Good (t.line l)) : RelaysFit t := fun m => by
  by_cases e : m = l
  · rw [e]; exact hl
  · rw [hothers m e]; exact (h m).of_kept rfl rfl hgood

theorem RelaysFit.of_kept (h : RelaysFit s) (hgood : ∀ bus, s.Good bus → t.Good bus)
    (hlines : ∀ m, (t.line m).relay = (s.line m).relay ∧ (t.line m).placedBus = (s.line m).placedBus) : RelaysFit t :=
  fun m => (h m).of_kept (hlines m).1 (hlines m).2 hgood

theorem RelaysFit.place (h : RelaysFit s) (hd : ¬(s.line l).Driven) (a : Assignment) (bus : Bus) (o : Slot) :
    RelaysFit (s.place l a bus o) := by
  refine h.of_change (fun m hm => by rw [State.place_line, if_neg hm]) (fun v hv => ?_) ?_
  · rw [State.Good, State.place_bus]; exact hv
  · rw [State.place_line, if_pos rfl]; exact (h l).of_undriven hd rfl

theorem RelaysFit.joinWaiting (h : RelaysFit s) (hd : ¬(s.line l).Driven) (a : Assignment) :
    RelaysFit (s.joinWaiting l a) := by
  refine h.of_change (fun m hm => by rw [State.joinWaiting_line, if_neg hm]) (fun v hv => ?_) ?_
  · rw [State.Good, State.joinWaiting_bus]; exact hv
  · rw [State.joinWaiting_line, if_pos rfl]; exact (h l).of_undriven hd rfl

theorem RelaysFit.rehome (h : RelaysFit s) (hd : ¬(s.line l).Driven) : RelaysFit (s.rehome l) := by
  unfold State.rehome
  split
  · split
    · split
      · exact h.place hd _ _ _
      · exact h.joinWaiting hd _
    · exact h
  · exact h

theorem RelaysFit.createAssignment (h : RelaysFit s) (hnone : (s.line l).asg = none) (kind : AssignmentKind) (k0 : Stroke)
    (k1 : Option Stroke) (n : Nat) : RelaysFit (s.createAssignment l kind k0 k1 n) := by
  have hd := (h l).undriven (Line.placedBus_of_none hnone)
  have hs : RelaysFit { s with createdCount := s.createdCount + 1 } := h
  rcases s.createAssignment_cases l kind k0 k1 n with ⟨o, bus, -, e⟩ | ⟨-, e⟩ <;> rw [e]
  · exact hs.place hd _ _ _
  · exact hs.joinWaiting hd _

theorem RelaysFit.walk {ls : List LineId} (h : RelaysFit s) (hls : ls.Nodup) (hwaits : ∀ l ∈ ls, (s.line l).waits = true) :
    RelaysFit (walk ls s) := by
  induction ls generalizing s with
  | nil => exact h
  | cons l ls ih =>
    obtain ⟨hl, hls⟩ := List.nodup_cons.1 hls
    have hd := (h l).undriven (Line.placedBus_of_waits (hwaits l List.mem_cons_self))
    have hrest (m : LineId) (hm : m ∈ ls) := hwaits m (List.mem_cons_of_mem l hm)
    unfold Machine.walk
    split
    · exact ih h hls hrest
    · split
      · refine ih (h.place hd _ _ _) hls fun m hm => ?_
        rw [State.place_line, if_neg (fun e : m = l => hl (e ▸ hm))]
        exact hrest m hm
      · split
        · exact h
        · exact ih h hls hrest

theorem RelaysFit.earlyQuench (h : RelaysFit s) (l : LineId) (c : CutCause) : RelaysFit (s.earlyQuench l c) := by
  refine h.of_change (l := l) (s.modLine_othersKept l _) (fun v hv => ?_) ?_
  · rw [State.Good, State.earlyQuench_bus]; exact hv
  · rw [State.earlyQuench_line_self]; exact (h l).earlyQuench c

theorem RelaysFit.removeAssignment (h : RelaysFit s) (l : LineId) (c : CutCause) :
    RelaysFit (s.removeAssignment l c) := by
  refine h.of_change (s.removeAssignment_othersKept l c) (fun v hv => ?_) ?_
  · rw [State.Good, State.removeAssignment_bus]; exact hv
  · cases ha : (s.line l).asg with
    | none =>
      rw [State.removeAssignment_of_none c ha]
      exact h l
    | some a =>
      cases hp : a.placement with
      | waiting =>
        rw [State.removeAssignment_line_of_waiting c ha hp]
        exact (h l).of_undriven ((h l).undriven (Line.placedBus_of_waiting ha hp)) rfl
      | placed bus o n =>
        rw [State.removeAssignment_line_of_placed c ha hp]
        exact ((h l).earlyQuench (good' := s.Good) c).of_undriven (Line.earlyQuench_undriven c _) rfl

end Relays

end Sys2Proof.Machine
end

section
/-! PROOFS. The laws of ringing through displacement (R49, R53), the slot boundary (R42, R60 to R63) and RESTART (R56). -/

namespace Sys2Proof.Machine

/-! ### What leaves the ringing of every line as it stands -/

/-- The laws of ringing, as a law of the plan and one of the relays. -/
structure RingBook (s : State) : Prop where
  plan : PlanBook [] s
  relays : RelaysFit s

theorem RingingLaws.book {s : State} (h : RingingLaws s) : RingBook s :=
  ⟨((ringingLaws_iff s).1 h).1, ((ringingLaws_iff s).1 h).2⟩

theorem RingBook.laws {s : State} (h : RingBook s) : RingingLaws s := (ringingLaws_iff s).2 ⟨h.plan, h.relays⟩

theorem State.pattern_congr {s t : State} (h : t.codes = s.codes) : t.pattern = s.pattern := by
  funext c; unfold State.pattern; rw [h]

/-- Assignments, relays, the buses' maps, the waiting list and the code table as they stood. -/
structure RingStands (s t : State) : Prop where
  codes : t.codes = s.codes
  bus : ∀ v, (t.bus v).status = (s.bus v).status ∧ (t.bus v).loads = (s.bus v).loads ∧
    (t.bus v).budget = (s.bus v).budget
  waiting : t.waiting = s.waiting
  createdCount : t.createdCount = s.createdCount
  line : ∀ l, (t.line l).asg = (s.line l).asg ∧ (t.line l).relay = (s.line l).relay

theorem PlanKept.of_asg {s t : State} (hcodes : t.codes = s.codes) (hbus : ∀ v, (t.bus v).status = (s.bus v).status ∧
    (t.bus v).loads = (s.bus v).loads ∧ (t.bus v).budget = (s.bus v).budget) (hwaiting : t.waiting = s.waiting)
    (hcount : t.createdCount = s.createdCount) (hasg : ∀ l, (t.line l).asg = (s.line l).asg) : PlanKept s t :=
  ⟨hbus, hwaiting, hcount, fun l => Line.ticket_congr (hasg l), fun l v g => by
    rw [State.pattern_congr hcodes, Line.loadOn_congr (hasg l)]⟩

theorem PlanKept.of_schedule {s t : State} (k : ScheduleKept s t) (hasg : ∀ l, (t.line l).asg = (s.line l).asg) :
    PlanKept s t :=
  .of_asg k.codes (fun v => by rw [k.bus]; exact ⟨rfl, rfl, rfl⟩) k.waiting k.createdCount hasg

section Stands

variable {s t u : State} {l : LineId}

theorem RingStands.plan (h : RingStands s t) : PlanKept s t :=
  .of_asg h.codes h.bus h.waiting h.createdCount fun l => (h.line l).1

theorem RingStands.book (h : RingStands s t) (hs : RingBook s) : RingBook t :=
  ⟨hs.plan.of_kept h.plan, hs.relays.of_kept (fun v hv => (h.bus v).1.trans hv)
    fun m => ⟨(h.line m).2, Line.placedBus_congr (h.line m).1⟩⟩

theorem RingStands.refl (s : State) : RingStands s s := ⟨rfl, fun _ => ⟨rfl, rfl, rfl⟩, rfl, rfl, fun _ => ⟨rfl, rfl⟩⟩

theorem RingStands.trans (h : RingStands s t) (k : RingStands t u) : RingStands s u :=
  ⟨k.codes.trans h.codes, fun v => ⟨(k.bus v).1.trans (h.bus v).1, (k.bus v).2.1.trans (h.bus v).2.1,
    (k.bus v).2.2.trans (h.bus v).2.2⟩, k.waiting.trans h.waiting, k.createdCount.trans h.createdCount,
    fun l => ⟨(k.line l).1.trans (h.line l).1, (k.line l).2.trans (h.line l).2⟩⟩

theorem RingStands.foldl {α : Type} {f : State → α → State} (h : ∀ s a, RingStands s (f s a)) (xs : List α) (s : State) :
    RingStands s (xs.foldl f s) := by
  induction xs generalizing s with
  | nil => exact .refl s
  | cons x xs ih => exact (h s x).trans (ih _)

theorem RingStands.of_schedule (k : ScheduleKept s t)
    (hlines : ∀ l, (t.line l).asg = (s.line l).asg ∧ (t.line l).relay = (s.line l).relay) : RingStands s t :=
  ⟨k.codes, fun v => by rw [k.bus]; exact ⟨rfl, rfl, rfl⟩, k.waiting, k.createdCount, hlines⟩

/-- A change of one line that keeps its assignment and its relays, the schedule standing. -/
theorem RingStands.of_line (k : ScheduleKept s t) (hothers : OthersKept l s t) (hasg : (t.line l).asg = (s.line l).asg)
    (hrelay : (t.line l).relay = (s.line l).relay) : RingStands s t :=
  .of_schedule k fun m => by
    by_cases e : m = l
    · rw [e]; exact ⟨hasg, hrelay⟩
    · rw [hothers m e]; exact ⟨rfl, rfl⟩

theorem RingStands.of_lines_eq (k : ScheduleKept s t) (hlines : ∀ l, t.line l = s.line l) : RingStands s t :=
  .of_schedule k fun m => by rw [hlines m]; exact ⟨rfl, rfl⟩

/-- The schedule of two states that differ in the lines, the unit and the reports alone. -/
theorem ScheduleKept.of_rfl (s : State) (lines : Vector Line 16) (msu : MeasurementUnit) (reports : ReportQueue) :
    ScheduleKept s { s with lines := lines, msu := msu, reports := reports } :=
  ⟨⟨rfl, rfl, rfl, rfl, rfl, rfl, rfl⟩, rfl, rfl, rfl⟩

theorem RingStands.modLine {f : Line → Line} (h : (f (s.line l)).asg = (s.line l).asg ∧ (f (s.line l)).relay = (s.line l).relay) :
    RingStands s (s.modLine l f) := by
  refine .of_line (s.modLine_scheduleKept l f) (s.modLine_othersKept l f) ?_ ?_ <;> rw [State.modLine_line_self]
  exacts [h.1, h.2]

theorem RingStands.queueReport (s : State) (r : Report) : RingStands s (s.queueReport r) :=
  .of_lines_eq (s.queueReport_scheduleKept r) fun l => s.queueReport_line r l

theorem RingStands.setCallState (s : State) (l : LineId) (st : CallState) : RingStands s (s.setCallState l st) :=
  .modLine ⟨Line.enter_asg _ _, Line.enter_relay _ _⟩

theorem RingStands.abortJobs (s : State) (l : LineId) : RingStands s (s.abortJobs l) :=
  .of_lines_eq (s.abortJobs_scheduleKept l) fun m => s.abortJobs_line l m

theorem RingStands.arbitrate (s : State) : RingStands s s.arbitrate :=
  .of_lines_eq s.arbitrate_scheduleKept fun l => s.arbitrate_line l

theorem RingStands.requestJob (s : State) (l : LineId) (k : JobKind) : RingStands s (s.requestJob l k) :=
  .of_lines_eq (s.requestJob_scheduleKept l k) fun _ => rfl

theorem RingStands.releaseHead (s : State) (l : LineId) : RingStands s (s.releaseHead l) :=
  .of_lines_eq (s.releaseHead_scheduleKept l) fun _ => rfl

theorem RingStands.modCall (s : State) (l : LineId) (f : CallRecord → CallRecord) : RingStands s (s.modCall l f) :=
  .modLine ⟨rfl, rfl⟩

theorem RingStands.modScan (s : State) (l : LineId) (f : ScannerRecord → ScannerRecord) : RingStands s (s.modScan l f) :=
  .modLine ⟨rfl, rfl⟩

theorem RingStands.modDet (s : State) (l : LineId) (f : DetectorRecord → DetectorRecord) : RingStands s (s.modDet l f) :=
  .modLine ⟨rfl, rfl⟩

theorem RingStands.modRecord (s : State) (l : LineId) (f : LineRecord → LineRecord) : RingStands s (s.modRecord l f) :=
  .modLine ⟨rfl, rfl⟩

theorem RingStands.reportIfChanged (l : LineId) (b s : State) : RingStands s (reportIfChanged l b s) := by
  rcases reportIfChanged_cases l b s with e | e | e <;> rw [e]
  · exact .refl s
  · exact .queueReport s _
  · exact .modRecord s l _

theorem RingStands.modBus {bus : Bus} {f : BusRecord → BusRecord} (h : (f (s.bus bus)).status = (s.bus bus).status ∧
    (f (s.bus bus)).loads = (s.bus bus).loads ∧ (f (s.bus bus)).budget = (s.bus bus).budget) :
    RingStands s (s.modBus bus f) := by
  refine ⟨s.modBus_codes bus f, fun v => ?_, s.modBus_waiting bus f, s.modBus_createdCount bus f, fun l => ?_⟩
  · rw [State.modBus_bus]
    split
    · rename_i e; rw [e]; exact h
    · exact ⟨rfl, rfl, rfl⟩
  · rw [State.modBus_line]; exact ⟨rfl, rfl⟩

theorem RingStands.reportBus (s : State) (bus : Bus) : RingStands s (s.reportBus bus) := by
  unfold State.reportBus
  split
  · exact .queueReport s _
  · exact .modBus ⟨rfl, rfl, rfl⟩

theorem updateSides_planned (p : Params) (f g : SideRecord → SideRecord) (x : Line) :
    (updateSides p f g x).asg = x.asg ∧ (updateSides p f g x).relay = x.relay := by
  unfold updateSides; rw [agreeTripMargin_eq]; exact ⟨rfl, rfl⟩

theorem updateSide_planned (p : Params) (sd : Side) (f : SideRecord → SideRecord) (x : Line) :
    (updateSide p sd f x).asg = x.asg ∧ (updateSide p sd f x).relay = x.relay := by
  unfold updateSide; rw [agreeTripMargin_eq]; exact ⟨rfl, rfl⟩

theorem RingBook.removeAssignment (h : RingBook s) (l : LineId) (c : CutCause) : RingBook (s.removeAssignment l c) :=
  ⟨h.plan.removeAssignment l c, h.relays.removeAssignment l c⟩

theorem RingBook.createAssignment (h : RingBook s) (hnone : (s.line l).asg = none) (kind : AssignmentKind) (k0 : Stroke)
    (k1 : Option Stroke) (n : Nat) : RingBook (s.createAssignment l kind k0 k1 n) :=
  ⟨h.plan.createAssignment hnone kind k0 k1 n, h.relays.createAssignment hnone kind k0 k1 n⟩

theorem Line.earlyQuench_asg (c : CutCause) (x : Line) : (x.earlyQuench c).asg = x.asg := by
  rcases Line.earlyQuench_cases c x with ⟨-, e⟩ | ⟨-, e⟩ | ⟨-, e⟩ <;> rw [e]

theorem PlanKept.earlyQuench (s : State) (l : LineId) (c : CutCause) : PlanKept s (s.earlyQuench l c) := by
  refine .of_schedule (s.modLine_scheduleKept l _) fun m => ?_
  rw [State.earlyQuench_line]
  split
  · exact Line.earlyQuench_asg c _
  · rfl

theorem RingBook.earlyQuench (h : RingBook s) (l : LineId) (c : CutCause) : RingBook (s.earlyQuench l c) :=
  ⟨h.plan.of_kept (.earlyQuench s l c), h.relays.earlyQuench l c⟩

/-- What a step of a fold keeps, the fold keeps. -/
theorem foldl_preserves {α : Type} {P : State → Prop} {f : State → α → State} (hf : ∀ s a, P s → P (f s a)) (xs : List α)
    {s : State} (h : P s) : P (xs.foldl f s) := by
  induction xs generalizing s with
  | nil => exact h
  | cons x xs ih => exact ih (hf s x h)

/-- A change of the assignments that keeps their placement, number and strokes (R42, R44). -/
theorem RingBook.mapAssignments (h : RingBook s) {f : Assignment → Assignment}
    (hf : ∀ a, (f a).placement = a.placement ∧ (f a).createdOrder = a.createdOrder ∧ (f a).stroke0 = a.stroke0 ∧
      (f a).stroke1 = a.stroke1) : RingBook (s.mapAssignments f) := by
  have hline (l : LineId) : (s.mapAssignments f).line l = { s.line l with asg := (s.line l).asg.map f } :=
    State.mapLines_line _ _ _
  have hticket (l : LineId) : ((s.mapAssignments f).line l).ticket = (s.line l).ticket := by
    rw [hline, Line.ticket, Line.ticket, Option.map_map]
    exact congrArg (Option.map · (s.line l).asg) (funext fun a => Prod.ext (hf a).1 (hf a).2.1)
  refine ⟨h.plan.of_kept ⟨fun v => ⟨?_, ?_, ?_⟩, rfl, rfl, hticket, fun l v g => ?_⟩,
    h.relays.of_kept (fun v hv => ?_) fun l => ⟨by rw [hline], Line.placedBus_of_ticket (hticket l)⟩⟩
  · cases v <;> rfl
  · cases v <;> rfl
  · cases v <;> rfl
  · rw [hline]
    unfold Line.loadOn
    cases (s.line l).asg with
    | none => rfl
    | some a =>
      obtain ⟨hp, -, h0, h1⟩ := hf a
      have hload (o : Slot) : loadAt s.pattern (f a) o g = loadAt s.pattern a o g := by
        unfold loadAt strokeAt strokeOver; rw [h0, h1]
      simp only [Option.map_some, hp]
      cases a.placement with
      | waiting => rfl
      | placed bus o n => exact if_congr .rfl (hload o) rfl
  · cases v <;> exact hv

end Stands

/-! ### Displacement (R49, R53) -/

section Displacement

variable {s t : State} {l : LineId} {bus : Bus}

theorem Line.placedOrderOn_isSome (bus : Bus) (x : Line) :
    (x.placedOrderOn bus).isSome = true ↔ x.placedBus = some bus := by
  unfold Line.placedOrderOn Line.placedBus
  cases x.asg with
  | none => simp
  | some a =>
    cases hp : a.placement with
    | waiting => simp [hp]
    | placed v o n =>
      simp only [hp, Option.some.injEq]
      by_cases e : v = bus <;> simp [e]

theorem State.mem_linesOn (s : State) (bus : Bus) (l : LineId) : l ∈ s.linesOn bus ↔ (s.line l).placedBus = some bus := by
  rw [State.linesOn, (sortBy_perm _ _).mem_iff, List.mem_filter, Line.placedOrderOn_isSome]
  exact and_iff_right (mem_allLines l)

theorem State.linesOn_nodup (s : State) (bus : Bus) : (s.linesOn bus).Nodup :=
  (sortBy_perm _ _).nodup_iff.2 (allLines_nodup.filter _)

/-- Loads taken off for several lines. -/
theorem State.unloadAll_eq (ls : List LineId) (s : State) : ls.foldl State.unload s =
    { s with busA := (ls.foldl State.unload s).busA, busB := (ls.foldl State.unload s).busB } := by
  induction ls generalizing s with
  | nil => rfl
  | cons l ls ih => rw [List.foldl_cons, ih, s.unload_eq l]

@[simp] theorem State.unloadAll_line (ls : List LineId) (s : State) (m : LineId) :
    (ls.foldl State.unload s).line m = s.line m := by rw [State.unloadAll_eq]; rfl

theorem State.unloadAll_bus (ls : List LineId) (s : State) (v : Bus) : (ls.foldl State.unload s).bus v =
    { s.bus v with loads := ((ls.foldl State.unload s).bus v).loads } := by
  induction ls generalizing s with
  | nil => rfl
  | cons l ls ih => rw [List.foldl_cons, ih, s.unload_bus l v]

theorem State.unloadAll_loads_le (ls : List LineId) (s : State) (v : Bus) (g : Slot) :
    ((ls.foldl State.unload s).bus v).loads.get g ≤ (s.bus v).loads.get g := by
  induction ls generalizing s with
  | nil => exact le_refl _
  | cons l ls ih => exact (ih _).trans (by rw [State.unload_loads]; exact Nat.sub_le _ _)

theorem LoadSums.unloadAll {ls out : List LineId} (h : LoadSums out s) (hls : ls.Nodup) (hout : ∀ l ∈ ls, l ∉ out) :
    LoadSums (ls.reverse ++ out) (ls.foldl State.unload s) := by
  induction ls generalizing s out with
  | nil => exact h
  | cons l ls ih =>
    obtain ⟨hl, hls⟩ := List.nodup_cons.1 hls
    have hstep := ih (h.unload (hout l List.mem_cons_self)) hls fun m hm => by
      rintro hmem
      rcases List.mem_cons.1 hmem with rfl | hmem
      · exact hl hm
      · exact hout m (List.mem_cons_of_mem l hm) hmem
    exact hstep.congr fun m => by simp [or_left_comm]

/-- A bus all of whose lines are taken off it carries nothing. -/
theorem LoadSums.eq_zero {out : List LineId} (h : LoadSums out s) (hall : ∀ l, (s.line l).placedBus = some bus → l ∈ out)
    (g : Slot) : (s.bus bus).loads.get g = 0 := by
  rw [h bus g]
  refine Finset.sum_eq_zero fun m _ => ?_
  unfold State.carried
  split
  · rfl
  · rename_i hm
    exact Line.loadOn_of_unplaced _ _ _ fun he => hm (hall m he)

/-- The plan once the lines of `ls` are taken off their buses. -/
theorem PlanBook.unloaded {ls : List LineId} (hwaiting : WaitingLaw s) (hsums : LoadSums [] s) (hls : ls.Nodup)
    (hwithin : (ls.foldl State.unload s).Within)
    (hempty : ∀ v, (s.bus v).status = .faulted → ∀ l, l ∉ ls → (s.line l).placedBus ≠ some v) :
    PlanBook ls (ls.foldl State.unload s) := by
  refine ⟨?_, ?_, hwithin, fun v hv m hm => ?_⟩
  · obtain ⟨w1, w2, w3, w4, w5⟩ := hwaiting
    rw [State.unloadAll_eq]
    exact ⟨w1, w2, w3, w4, w5⟩
  · exact (hsums.unloadAll hls fun _ _ => List.not_mem_nil).congr fun m => by simp
  · rw [State.unloadAll_bus] at hv
    rw [State.unloadAll_line]
    exact hempty v hv m hm

/-- The operation of one line leaves the lines it has not come to. -/
theorem foldl_line_of_not_mem {f : State → LineId → State} (hf : ∀ s l, OthersKept l s (f s l)) {ls : List LineId}
    {m : LineId} (hm : m ∉ ls) (s : State) : (ls.foldl f s).line m = s.line m := by
  induction ls generalizing s with
  | nil => rfl
  | cons l ls ih =>
    rw [List.mem_cons, not_or] at hm
    exact (ih hm.2 _).trans (hf s l m hm.1)

theorem State.rehome_othersKept (s : State) (l : LineId) : OthersKept l s (s.rehome l) := by
  unfold State.rehome
  split
  · split
    · split
      · exact fun m hm => by rw [State.place_line, if_neg hm]
      · exact fun m hm => by rw [State.joinWaiting_line, if_neg hm]
    · exact .refl l s
  · exact .refl l s

theorem PlanBook.rehomeAll {ls : List LineId} (h : PlanBook ls s) (hls : ls.Nodup)
    (hplaced : ∀ l ∈ ls, (s.line l).placedBus.isSome = true) : PlanBook [] (ls.foldl State.rehome s) := by
  induction ls generalizing s with
  | nil => exact h
  | cons l ls ih =>
    obtain ⟨hl, hls⟩ := List.nodup_cons.1 hls
    refine ih (h.rehome hl (hplaced l List.mem_cons_self)) hls fun m hm => ?_
    rw [s.rehome_othersKept l m (fun e : m = l => hl (e ▸ hm))]
    exact hplaced m (List.mem_cons_of_mem l hm)

theorem State.rehome_relay (s : State) (l m : LineId) : ((s.rehome l).line m).relay = (s.line m).relay := by
  by_cases e : m = l
  · subst e
    unfold State.rehome
    split
    · split
      · split
        · rw [State.place_line, if_pos rfl]
        · rw [State.joinWaiting_line, if_pos rfl]
      · rfl
    · rfl
  · rw [s.rehome_othersKept l m e]

theorem RelaysFit.rehomeAll {ls : List LineId} (h : RelaysFit s) (hd : ∀ l ∈ ls, ¬(s.line l).Driven) :
    RelaysFit (ls.foldl State.rehome s) := by
  induction ls generalizing s with
  | nil => exact h
  | cons l ls ih =>
    refine ih (h.rehome (hd l List.mem_cons_self)) fun m hm => ?_
    rw [Line.Driven, State.rehome_relay]
    exact hd m (List.mem_cons_of_mem l hm)

/-! ### SET_BUS (R53) -/

/-- Which lines a lowered budget takes off a bus: as many of the list as it takes to bring its peak within the budget. -/
theorem shed_eq (bus : Bus) (ls : List LineId) (s : State) : ∃ pre post, ls = pre ++ post ∧
    shed bus ls s = (pre, pre.foldl State.unload s) ∧
    (post = [] ∨ ((pre.foldl State.unload s).bus bus).peak ≤ (s.bus bus).budget) ∧
    ∀ front m back, pre = front ++ m :: back → (s.bus bus).budget < ((front.foldl State.unload s).bus bus).peak := by
  induction ls generalizing s with
  | nil => exact ⟨[], [], rfl, rfl, .inl rfl, by simp⟩
  | cons l ls ih =>
    unfold shed
    by_cases hle : (s.bus bus).peak ≤ (s.bus bus).budget
    · rw [if_pos hle]
      exact ⟨[], l :: ls, rfl, rfl, .inr hle, by simp⟩
    · rw [if_neg hle]
      obtain ⟨pre, post, hsplit, hshed, hend, hneed⟩ := ih (s.unload l)
      have hbudget : ((s.unload l).bus bus).budget = (s.bus bus).budget := by rw [State.unload_bus]
      refine ⟨l :: pre, post, by rw [hsplit]; rfl, by rw [hshed]; rfl, ?_, fun front m back he => ?_⟩
      · rw [← hbudget]; exact hend
      · cases front with
        | nil => exact Nat.lt_of_not_le hle
        | cons k front =>
          obtain ⟨rfl, hpre⟩ := List.cons.inj (show l :: pre = k :: (front ++ m :: back) from he)
          rw [← hbudget]
          exact hneed front m back hpre

theorem BusRecord.le_peak (r : BusRecord) (g : Slot) : r.loads.get g ≤ r.peak := by
  have hmax : ∀ (xs : List Nat) (acc n : Nat), n ≤ acc ∨ n ∈ xs → n ≤ xs.foldl max acc := by
    intro xs
    induction xs with
    | nil => exact fun acc n h => h.resolve_right List.not_mem_nil
    | cons x xs ih =>
      intro acc n h
      refine ih _ _ ?_
      rcases h with h | h
      · exact .inl (h.trans (Nat.le_max_left _ _))
      · rcases List.mem_cons.1 h with rfl | h
        · exact .inl (Nat.le_max_right _ _)
        · exact .inr h
  refine hmax _ _ _ (.inr ?_)
  show r.loads[g.val] ∈ r.loads.toList
  simp

theorem BusRecord.peak_le {r : BusRecord} {n : Nat} (h : ∀ g, r.loads.get g ≤ n) : r.peak ≤ n := by
  have hmax : ∀ (xs : List Nat) (acc : Nat), acc ≤ n → (∀ x ∈ xs, x ≤ n) → xs.foldl max acc ≤ n := by
    intro xs
    induction xs with
    | nil => exact fun acc ha _ => ha
    | cons x xs ih =>
      exact fun acc ha hxs => ih _ (Nat.max_le.2 ⟨ha, hxs x List.mem_cons_self⟩) fun y hy => hxs y (List.mem_cons_of_mem x hy)
  refine hmax _ _ (Nat.zero_le _) fun x hx => ?_
  obtain ⟨i, hi, rfl⟩ := List.getElem_of_mem hx
  have hi' : i < 24 := by simpa using hi
  have hg := h ⟨i, hi'⟩
  have heq : r.loads.get ⟨i, hi'⟩ = r.loads.toList[i] := by
    show r.loads[i] = _
    simp
  rwa [heq] at hg

theorem earlyQuenchAll_line (c : CutCause) {ls : List LineId} (hls : ls.Nodup) (s : State) (m : LineId) :
    (ls.foldl (fun t l => t.earlyQuench l c) s).line m =
      if m ∈ ls then (s.line m).earlyQuench c else s.line m :=
  foldl_line (fun t l n => State.earlyQuench_line c t l n) ls hls s m

theorem RingBook.setBudget (h : RingBook s) (bus : Bus) (budget : Nat) :
    RingBook ((s.modBus bus fun r => { r with budget := budget }).shedBus bus) := by
  obtain ⟨⟨hwaiting, hsums, hwithin, hempty⟩, hrelays⟩ := h
  have hbus (v : Bus) : (s.modBus bus fun r => { r with budget := budget }).bus v =
      if v = bus then { s.bus v with budget := budget } else s.bus v := s.modBus_bus bus _ v
  have hline (l : LineId) : (s.modBus bus fun r => { r with budget := budget }).line l = s.line l := State.modBus_line _ _ _ _
  have hpattern : (s.modBus bus fun r => { r with budget := budget }).pattern = s.pattern :=
    State.pattern_congr (s.modBus_codes bus _)
  have hcount := s.modBus_createdCount bus fun r => { r with budget := budget }
  have hlist := s.modBus_waiting bus fun r => { r with budget := budget }
  generalize s.modBus bus (fun r => { r with budget := budget }) = t at *
  have hstatus (v : Bus) : (t.bus v).status = (s.bus v).status := by rw [hbus]; split <;> rfl
  have hloads (v : Bus) : (t.bus v).loads = (s.bus v).loads := by rw [hbus]; split <;> rfl
  obtain ⟨pre, post, hsplit, hshed, hend, -⟩ := shed_eq bus (t.linesOn bus).reverse t
  have hnodup : (pre ++ post).Nodup := hsplit ▸ List.nodup_reverse.2 (t.linesOn_nodup bus)
  have hpre : pre.Nodup := (List.nodup_append.1 hnodup).1
  have hmem (l : LineId) : l ∈ pre ++ post ↔ (t.line l).placedBus = some bus := by
    rw [← hsplit, List.mem_reverse, t.mem_linesOn]
  have hsums' : LoadSums [] t := fun v g => by
    rw [hloads v, hsums v g]
    exact Finset.sum_congr rfl fun m _ => (State.carried_eq_of_line hpattern (by rw [hline]) .rfl v g).symm
  have hwaiting' : WaitingLaw t := by
    obtain ⟨w1, w2, w3, w4, w5⟩ := hwaiting
    have horder (m : LineId) : t.createdOf m = s.createdOf m := by rw [State.createdOf_eq, hline]; rfl
    refine ⟨hlist ▸ w1, fun m => ?_, ?_, fun m => ?_, fun m n => ?_⟩
    · rw [hlist, hline]; exact w2 m
    · rw [hlist]; simp only [horder]; exact w3
    · rw [hline, horder, hcount]; exact w4 m
    · rw [hline, hline, horder, horder]; exact w5 m n
  have hunloaded : PlanBook pre (pre.foldl State.unload t) := by
    refine .unloaded hwaiting' hsums' hpre (fun v hv g => ?_) fun v hv l _ => ?_
    · have hle := State.unloadAll_loads_le pre t v g
      rw [State.unloadAll_bus, hstatus] at hv
      rw [State.unloadAll_bus]
      by_cases e : v = bus
      · subst e
        rcases hend with hnil | hpeak
        · have hzero : ((pre.foldl State.unload t).bus v).loads.get g = 0 := by
            refine LoadSums.eq_zero ((hsums'.unloadAll hpre fun _ _ => List.not_mem_nil).congr (out' := pre) fun m => by simp)
              (fun l hl => ?_) g
            rw [State.unloadAll_line] at hl
            have := (hmem l).2 hl
            rwa [hnil, List.append_nil] at this
          show ((pre.foldl State.unload t).bus v).loads.get g ≤ (t.bus v).budget
          rw [hzero]; exact Nat.zero_le _
        · exact (BusRecord.le_peak _ g).trans hpeak
      · have hbudget : (t.bus v).budget = (s.bus v).budget := by rw [hbus, if_neg e]
        show ((pre.foldl State.unload t).bus v).loads.get g ≤ (t.bus v).budget
        rw [hbudget]
        rw [hloads] at hle
        exact hle.trans (hwithin v hv g)
    · rw [hline]; exact hempty v (hstatus v ▸ hv) l List.not_mem_nil
  have hrelays' : RelaysFit (pre.foldl State.unload t) := by
    refine hrelays.of_kept (fun v hv => ?_) fun m => by rw [State.unloadAll_line, hline]; exact ⟨rfl, rfl⟩
    rw [State.Good, State.unloadAll_bus]
    exact (hstatus v).trans hv
  unfold State.shedBus
  rw [hshed]
  dsimp only
  have hline₁ (l : LineId) : (pre.foldl State.unload t).line l = t.line l := State.unloadAll_line _ _ _
  generalize pre.foldl State.unload t = u at hunloaded hrelays' hline₁
  have hcut := foldl_preserves (P := fun v => PlanBook pre v ∧ RelaysFit v) (f := fun v l => v.earlyQuench l .budget)
    (fun v l hv => ⟨hv.1.of_kept (.earlyQuench v l .budget), hv.2.earlyQuench l .budget⟩) pre ⟨hunloaded, hrelays'⟩
  have hcutLine := earlyQuenchAll_line .budget hpre u
  generalize pre.foldl (fun v l => v.earlyQuench l .budget) u = w at hcut hcutLine
  refine ⟨(hcut.1.congr fun m => List.mem_reverse).rehomeAll (List.nodup_reverse.2 hpre) fun l hl => ?_,
    hcut.2.rehomeAll fun l hl => ?_⟩
  · have hl := List.mem_reverse.1 hl
    rw [hcutLine, if_pos hl, Line.placedBus_congr (Line.earlyQuench_asg .budget _), hline₁,
      (hmem l).1 (List.mem_append_left post hl)]
    rfl
  · have hl := List.mem_reverse.1 hl
    rw [hcutLine, if_pos hl]
    exact Line.earlyQuench_undriven _ _

/-! ### Bus faults and recoveries (R49, R51) -/

theorem State.quenchBus_line (s : State) (bus : Bus) (l : LineId) : (s.quenchBus bus).line l =
    if (s.line l).relay.busSelect = some bus then (s.line l).earlyQuench .busFault else s.line l := by
  refine foldl_allLines_line (g := fun x => if x.relay.busSelect = some bus then x.earlyQuench .busFault else x)
    (fun t m n => ?_) s l
  by_cases e : n = m
  · subst e
    rw [if_pos rfl]
    split
    · rw [State.earlyQuench_line_self]
    · rfl
  · rw [if_neg e]
    split
    · rw [State.earlyQuench_line, if_neg e]
    · rfl

theorem RelayRecord.busSelect_iff (r : RelayRecord) (bus : Bus) :
    r.busSelect = some bus ↔ (r.phase = .arm ∨ r.phase = .ring) ∧ r.bus = some bus := by
  unfold RelayRecord.busSelect
  cases r.phase <;> simp

theorem PlanKept.quenchBus (s : State) (bus : Bus) : PlanKept s (s.quenchBus bus) := by
  refine .of_schedule ?_ fun l => ?_
  · unfold State.quenchBus
    refine foldl_preserves (P := ScheduleKept s) (fun t l ht => ?_) _ ⟨⟨rfl, rfl, rfl, rfl, rfl, rfl, rfl⟩, rfl, rfl, rfl⟩
    split
    · exact ht.trans (t.modLine_scheduleKept l _)
    · exact ht
  · rw [State.quenchBus_line]
    split
    · exact Line.earlyQuench_asg _ _
    · rfl

theorem State.setStatus_bus (s : State) (bus v : Bus) (st : BusStatus) : (s.setStatus bus st).bus v =
    if v = bus then { s.bus v with status := st, filterTimer := none } else s.bus v := s.modBus_bus bus _ v

theorem State.setStatus_line (s : State) (bus : Bus) (st : BusStatus) (l : LineId) :
    (s.setStatus bus st).line l = s.line l := State.modBus_line _ _ _ _

/-- The laws that a change of a bus's status leaves as they were. -/
theorem setStatus_plan (hwaiting : WaitingLaw s) (hsums : LoadSums [] s) (st : BusStatus) :
    WaitingLaw (s.setStatus bus st) ∧ LoadSums [] (s.setStatus bus st) := by
  have hline (l : LineId) := s.setStatus_line bus st l
  have hpattern : (s.setStatus bus st).pattern = s.pattern := State.pattern_congr (s.modBus_codes bus _)
  have hlist : (s.setStatus bus st).waiting = s.waiting := s.modBus_waiting bus _
  have hcount : (s.setStatus bus st).createdCount = s.createdCount := s.modBus_createdCount bus _
  have hloads (v : Bus) : ((s.setStatus bus st).bus v).loads = (s.bus v).loads := by
    rw [State.setStatus_bus]; split <;> rfl
  have horder (m : LineId) : (s.setStatus bus st).createdOf m = s.createdOf m := by
    rw [State.createdOf_eq, hline]; rfl
  obtain ⟨w1, w2, w3, w4, w5⟩ := hwaiting
  refine ⟨⟨hlist ▸ w1, fun m => ?_, ?_, fun m => ?_, fun m n => ?_⟩, fun v g => ?_⟩
  · rw [hlist, hline]; exact w2 m
  · rw [hlist]; simp only [horder]; exact w3
  · rw [hline, horder, hcount]; exact w4 m
  · rw [hline, hline, horder, horder]; exact w5 m n
  · rw [hloads v, hsums v g]
    exact Finset.sum_congr rfl fun m _ => (State.carried_eq_of_line hpattern (by rw [hline]) .rfl v g).symm

theorem RingBook.recovers (h : RingBook s) (hfault : (s.bus bus).status = .faulted) : RingBook (s.setStatus bus .good) := by
  obtain ⟨⟨hwaiting, hsums, hwithin, hempty⟩, hrelays⟩ := h
  obtain ⟨hwaiting', hsums'⟩ := setStatus_plan (bus := bus) hwaiting hsums .good
  refine ⟨⟨hwaiting', hsums', fun v hv g => ?_, fun v hv l _ => ?_⟩, hrelays.of_kept (fun v hv => ?_) fun l => ?_⟩
  · rw [State.setStatus_bus] at hv ⊢
    split
    · rename_i e
      subst e
      show (s.bus v).loads.get g ≤ (s.bus v).budget
      rw [hsums.eq_zero (bus := v) (fun l hl => absurd hl (hempty v hfault l List.not_mem_nil)) g]
      exact Nat.zero_le _
    · rename_i e
      rw [if_neg e] at hv
      exact hwithin v hv g
  · rw [State.setStatus_bus] at hv
    rw [State.setStatus_line]
    split at hv
    · exact absurd hv nofun
    · exact hempty v hv l List.not_mem_nil
  · rw [State.Good, State.setStatus_bus]
    split
    · rfl
    · exact hv
  · rw [State.setStatus_line]; exact ⟨rfl, rfl⟩

/-- The relays once a FAULTED bus's lines are in QUENCH. -/
theorem RelaysFit.faults (h : RelaysFit s) (bus : Bus) : RelaysFit ((s.setStatus bus .faulted).quenchBus bus) ∧
    ∀ l, (s.line l).placedBus = some bus → ¬(((s.setStatus bus .faulted).quenchBus bus).line l).Driven := by
  have hline (l : LineId) : ((s.setStatus bus .faulted).quenchBus bus).line l =
      if (s.line l).relay.busSelect = some bus then (s.line l).earlyQuench .busFault else s.line l := by
    rw [State.quenchBus_line, State.setStatus_line]
  have hgood (v : Bus) (hv : s.Good v) (hne : v ≠ bus) : ((s.setStatus bus .faulted).quenchBus bus).Good v := by
    rw [State.Good, ((PlanKept.quenchBus _ bus).bus v).1, State.setStatus_bus, if_neg hne]
    exact hv
  refine ⟨fun l => ?_, fun l hl hd => ?_⟩
  · rw [hline]
    split
    · exact (h l).earlyQuench _
    · rename_i hsel
      obtain ⟨h1, h2, h3, h4⟩ := h l
      refine ⟨h1, fun v hd hv => hgood v (h2 v hd hv) fun e => hsel ?_, h3, h4⟩
      rw [RelayRecord.busSelect_iff]
      exact ⟨hd, e ▸ hv⟩
  · rw [hline] at hd
    split at hd
    · exact Line.earlyQuench_undriven _ _ hd
    · rename_i hsel
      refine hsel ((RelayRecord.busSelect_iff _ _).2 ⟨hd, ?_⟩)
      rw [← ((h l).placed hd).1, hl]

theorem RingBook.faults (h : RingBook s) (bus : Bus) :
    RingBook (((s.setStatus bus .faulted).quenchBus bus).displaceBus bus) := by
  obtain ⟨hwaiting, hsums⟩ := setStatus_plan (bus := bus) h.plan.waiting h.plan.sums .faulted
  obtain ⟨hrelays, hundriven⟩ := h.relays.faults bus
  have hkept := PlanKept.quenchBus (s.setStatus bus .faulted) bus
  have hticket (l : LineId) : (((s.setStatus bus .faulted).quenchBus bus).line l).placedBus = (s.line l).placedBus := by
    rw [Line.placedBus_of_ticket (hkept.ticket l), State.setStatus_line]
  have hstatus (v : Bus) : (((s.setStatus bus .faulted).quenchBus bus).bus v).status =
      if v = bus then .faulted else (s.bus v).status := by
    rw [(hkept.bus v).1, State.setStatus_bus]; split <;> rfl
  have hrest (v : Bus) : (((s.setStatus bus .faulted).quenchBus bus).bus v).loads = (s.bus v).loads ∧
      (((s.setStatus bus .faulted).quenchBus bus).bus v).budget = (s.bus v).budget := by
    rw [(hkept.bus v).2.1, (hkept.bus v).2.2, State.setStatus_bus]; split <;> exact ⟨rfl, rfl⟩
  have hwaiting' : WaitingLaw ((s.setStatus bus .faulted).quenchBus bus) := by
    obtain ⟨w1, w2, w3, w4, w5⟩ := hwaiting
    have horder (m : LineId) := Line.createdOrder_of_ticket (hkept.ticket m)
    simp only [State.createdOf_eq] at w3 w4 w5
    constructor
    · rw [hkept.waiting]; exact w1
    · intro m; rw [hkept.waiting, Line.waits_of_ticket (hkept.ticket m)]; exact w2 m
    · rw [hkept.waiting]; simp only [State.createdOf_eq, horder]; exact w3
    · intro m; simp only [State.createdOf_eq, horder, Line.isSome_of_ticket (hkept.ticket m), hkept.createdCount]; exact w4 m
    · intro m n
      simp only [State.createdOf_eq, horder, Line.isSome_of_ticket (hkept.ticket m), Line.isSome_of_ticket (hkept.ticket n)]
      exact w5 m n
  have hsums' : LoadSums [] ((s.setStatus bus .faulted).quenchBus bus) := fun v g => by
    rw [(hkept.bus v).2.1, hsums v g]
    exact Finset.sum_congr rfl fun m _ => if_congr .rfl rfl (hkept.loadOn m v g).symm
  generalize (s.setStatus bus .faulted).quenchBus bus = t at *
  have hunloaded : PlanBook (t.linesOn bus) ((t.linesOn bus).foldl State.unload t) := by
    refine .unloaded hwaiting' hsums' (t.linesOn_nodup bus) (fun v hv g => ?_) fun v hv l hl => ?_
    · rw [State.unloadAll_bus] at hv
      rw [State.unloadAll_bus]
      refine (State.unloadAll_loads_le _ _ _ _).trans ?_
      have hv : (t.bus v).status = .good := hv
      show (t.bus v).loads.get g ≤ (t.bus v).budget
      rw [(hrest v).1, (hrest v).2]
      rw [hstatus] at hv
      split at hv
      · exact absurd hv nofun
      · exact h.plan.within v hv g
    · rw [hticket]
      rw [hstatus] at hv
      split at hv
      · rename_i e
        exact fun hp => hl ((t.mem_linesOn bus l).2 ((hticket l).trans (e ▸ hp)))
      · exact h.plan.empty v hv l List.not_mem_nil
  refine ⟨hunloaded.rehomeAll (t.linesOn_nodup bus) fun l hl => ?_, RelaysFit.rehomeAll (hrelays.of_kept (fun v hv => ?_)
    fun m => ?_) fun l hl => ?_⟩
  · rw [State.unloadAll_line, (t.mem_linesOn bus l).1 hl]; rfl
  · rw [State.Good, State.unloadAll_bus]; exact hv
  · rw [State.unloadAll_line]; exact ⟨rfl, rfl⟩
  · rw [State.unloadAll_line]
    exact hundriven l (by rw [← hticket]; exact (t.mem_linesOn bus l).1 hl)

end Displacement

end Sys2Proof.Machine
end

section
/-! PROOFS. The laws of ringing through every step. -/

namespace Sys2Proof.Machine

section Stands

variable {s : State} {l : LineId}

theorem RingStands.emptyDigits (s : State) (l : LineId) : RingStands s (s.emptyDigits l) := by
  refine .of_line (s.emptyDigits_scheduleKept l) (s.emptyDigits_othersKept l) ?_ ?_ <;> rw [State.emptyDigits_line]

theorem RingStands.leaveOriginating (s : State) (l : LineId) : RingStands s (s.leaveOriginating l) := by
  refine .of_line (s.leaveOriginating_scheduleKept l) (s.leaveOriginating_othersKept l) ?_ ?_ <;>
    rw [State.leaveOriginating_left] <;> rfl

theorem RingStands.markerEvent (s : State) (l : LineId) : RingStands s (s.markerEvent l) := by
  refine .of_line (s.markerEvent_scheduleKept l) (s.markerEvent_othersKept l) ?_ ?_ <;> rw [State.markerEvent_line]

theorem RingStands.clearRevert (s : State) (l : LineId) : RingStands s (s.clearRevert l) := .modCall s l _

theorem RingStands.returnToCaller (s : State) (l : LineId) : RingStands s (s.returnToCaller l) := by
  refine .of_line (s.returnToCaller_scheduleKept l) (s.returnToCaller_othersKept l) ?_ ?_ <;>
    rw [State.returnToCaller_line]

theorem RingStands.originateDue (s : State) (l : LineId) (r : IdResult) (gc : Option (PerSide Nat)) :
    RingStands s (s.originateDue l r gc) := by
  refine .of_line (s.originateDue_scheduleKept l r gc) (s.originateDue_othersKept l r gc) ?_ ?_ <;>
    rw [State.originateDue_line]

theorem RingStands.withLink (s : State) (k : Link) : RingStands s { s with link := k } :=
  ⟨rfl, fun v => by cases v <;> exact ⟨rfl, rfl, rfl⟩, rfl, rfl, fun _ => ⟨rfl, rfl⟩⟩

theorem RingStands.reply (kind : Byte) (a : Answer) : RingStands a.state (reply kind a) := by
  unfold Machine.reply
  split
  · exact .refl _
  · exact ⟨rfl, fun v => by cases v <;> exact ⟨rfl, rfl, rfl⟩, rfl, rfl, fun _ => ⟨rfl, rfl⟩⟩

theorem RingStands.withReports (s : State) (r : ReportQueue) : RingStands s { s with reports := r } :=
  ⟨rfl, fun v => by cases v <;> exact ⟨rfl, rfl, rfl⟩, rfl, rfl, fun _ => ⟨rfl, rfl⟩⟩

theorem RingStands.withParams (s : State) (p : Params) : RingStands s { s with params := p } :=
  ⟨rfl, fun v => by cases v <;> exact ⟨rfl, rfl, rfl⟩, rfl, rfl, fun _ => ⟨rfl, rfl⟩⟩

theorem RingStands.withMsu (s : State) (m : MeasurementUnit) : RingStands s { s with msu := m } :=
  ⟨rfl, fun v => by cases v <;> exact ⟨rfl, rfl, rfl⟩, rfl, rfl, fun _ => ⟨rfl, rfl⟩⟩

theorem RingStands.withSlot (s : State) (g : Slot) : RingStands s { s with slot := g } :=
  ⟨rfl, fun v => by cases v <;> exact ⟨rfl, rfl, rfl⟩, rfl, rfl, fun _ => ⟨rfl, rfl⟩⟩

theorem RingStands.withPending (s : State) (p : List Instr) : RingStands s { s with pending := p } :=
  ⟨rfl, fun v => by cases v <;> exact ⟨rfl, rfl, rfl⟩, rfl, rfl, fun _ => ⟨rfl, rfl⟩⟩

/-! ### Commands that leave the ringing as it stands -/

theorem RingStands.pollFill (n room : Nat) (s : State) : RingStands s (pollFill n room s).2.2 := by
  induction n generalizing room s with
  | zero => exact .refl s
  | succ n ih =>
    unfold Machine.pollFill
    split
    · exact .refl s
    · rename_i r rest _
      split
      · have hserve (t : State) : RingStands t (t.serve r) := by
          unfold State.serve
          split
          · exact .modLine ⟨rfl, rfl⟩
          · exact .refl t
        exact ((RingStands.withReports s _).trans (hserve _)).trans (ih _ _)
      · exact .refl s

theorem RingStands.setParametersAccepted (mask : DByte) (values : Vector DByte 13) (s : State) :
    RingStands s (setParametersAccepted mask values s) := by
  have hset := RingStands.withParams s (s.params.set mask values)
  have hrecompute (t : State) (l : LineId) : RingStands t (t.recompute l) :=
    (RingStands.modLine (updateSides_planned _ _ _ _)).trans (.reportIfChanged l t _)
  by_cases hmoved : (s.params.set mask values).tmin ≠ s.params.tmin ∨ (s.params.set mask values).tmax ≠ s.params.tmax
  · rw [setParametersAccepted_of_moved hmoved]; exact hset.trans (.foldl hrecompute _ _)
  · simp only [ne_eq, not_or, not_not] at hmoved
    rw [setParametersAccepted_of_limits hmoved.1 hmoved.2]; exact hset

theorem writeLine_planned (p : Params) (tip ring : Nat) (mode : DialMode) (n : Nat) (ps : List Party) (x : Line) :
    (writeLine p tip ring mode n ps x).asg = x.asg ∧ (writeLine p tip ring mode n ps x).relay = x.relay :=
  updateSides_planned _ _ _ _

theorem RingStands.configureState (l : LineId) (unequip : Bool) (s : State) : RingStands s (configureState l unequip s) := by
  have hunequips (t : State) : RingStands t (((t.emptyDigits l).modScan l ScannerRecord.freeze).setCallState l .unequipped) :=
    ((RingStands.emptyDigits t l).trans (.modScan _ l _)).trans (.setCallState _ l _)
  unfold Machine.configureState
  split
  · split
    · exact .refl s
    · have hentered := (RingStands.modScan s l ScannerRecord.begin).trans (.setCallState _ l (idleOrParked (s.line l)))
      dsimp only
      split
      · exact hentered.trans (.queueReport _ _)
      · exact hentered
  · split
    · exact (RingStands.abortJobs s l).trans (hunequips _)
    · exact .refl s
  · split
    · exact hunequips s
    · exact .refl s
  · exact .refl s

theorem RingStands.configureAccepted (l : LineId) (tip ring : Nat) (mode : DialMode) (n : Nat) (ps : List Party)
    (s : State) : RingStands s (configureAccepted l tip ring mode n ps s) :=
  (((RingStands.modLine (writeLine_planned _ _ _ _ _ _ _)).trans (.configureState l ps.isEmpty _)).trans
    (.reportIfChanged l s _)).trans (.arbitrate _)

/-! ### SET_CODE (R28) -/

theorem loadAt_of_codes {codes codes' : CodeId → Pattern} {a : Assignment} (h0 : codes' a.stroke0.code = codes a.stroke0.code)
    (h1 : ∀ k ∈ a.stroke1, codes' k.code = codes k.code) (o g : Slot) : loadAt codes' a o g = loadAt codes a o g := by
  have hstroke : strokeAt codes' a o g = strokeAt codes a o g := by
    rw [strokeAt_eq, strokeAt_eq]
    cases hk : a.strokeOfHalf (placeOf o g) with
    | none => rfl
    | some k =>
      have hcode : codes' k.code = codes k.code := by
        unfold Assignment.strokeOfHalf at hk
        split at hk
        · rw [← Option.some.inj hk]; exact h0
        · exact h1 k hk
      rw [Option.filter_some, Option.filter_some, hcode]
  unfold loadAt
  rw [hstroke]

theorem RingBook.setCode (h : RingBook s) {c : CodeId} (hfree : s.codeInUse c = false) (p : Pattern) :
    RingBook { s with codes := s.codes.set c.val p c.isLt } := by
  have hunused (m : LineId) : (s.line m).usesCode c = false := (s.codeInUse_eq_false_iff c).1 hfree m
  refine ⟨h.plan.of_kept ⟨fun v => by cases v <;> exact ⟨rfl, rfl, rfl⟩, rfl, rfl, fun _ => rfl, fun m v g => ?_⟩,
    h.relays.of_kept (fun v hv => by cases v <;> exact hv) fun _ => ⟨rfl, rfl⟩⟩
  have hpattern (d : CodeId) (hd : d ≠ c) : State.pattern { s with codes := s.codes.set c.val p c.isLt } d = s.pattern d :=
    Vector.get_set_ne _ _ _ _ hd
  show (s.line m).loadOn _ v g = (s.line m).loadOn _ v g
  unfold Line.loadOn
  cases ha : (s.line m).asg with
  | none => rfl
  | some a =>
    have hnot : ¬ (s.line m).usesCode c = true := by simp [hunused m]
    have huses (h : a.stroke0.code = c ∨ ∃ k ∈ a.stroke1, k.code = c) : False :=
      hnot ((Line.usesCode_iff _ _).2 (.inr ⟨a, ha, h⟩))
    dsimp only
    split
    · rw [loadAt_of_codes (hpattern _ fun e => huses (.inl e)) fun k hk => hpattern _ fun e => huses (.inr ⟨k, hk, e⟩)]
    · rfl

end Stands

end Sys2Proof.Machine
end

section
/-! PROOFS. The laws of ringing through every command. -/

namespace Sys2Proof.Machine

/-! ### Commands that leave the ringing as it stands -/

section Stands

variable (s : State) (l : LineId)

theorem RingStands.unblockAccepted : RingStands s (unblockAccepted l s) := by
  have hset := RingStands.setCallState s l (idleOrParked (s.line l))
  unfold Machine.unblockAccepted
  dsimp only
  split
  · exact (hset.trans (.queueReport _ _)).trans (.arbitrate _)
  · exact hset.trans (.arbitrate _)

theorem RingStands.testLineAccepted : RingStands s (testLineAccepted l s) := by
  unfold Machine.testLineAccepted
  split
  · exact .refl s
  · exact (RingStands.requestJob s l _).trans (.arbitrate _)

theorem RingStands.connectAccepted : RingStands s (connectAccepted l s) :=
  ((RingStands.leaveOriginating s l).trans (.setCallState _ l _)).trans (.arbitrate _)

theorem RingStands.releaseAccepted : RingStands s (releaseAccepted l s) := by
  unfold Machine.releaseAccepted
  dsimp only
  split
  · exact ((RingStands.leaveOriginating s l).trans (.setCallState _ l _)).trans (.arbitrate _)
  · exact (RingStands.setCallState s l _).trans (.arbitrate _)

theorem RingStands.revertAccepted (d c : PartyNo) (recallOn : Bool) : RingStands s (revertAccepted l d c recallOn s) := by
  rw [revertAccepted_eq]
  refine (RingStands.of_line (s.revertHeld_scheduleKept l d c recallOn) (s.revertHeld_othersKept l d c recallOn) ?_ ?_).trans
    (.arbitrate _) <;> rw [State.revertHeld_line]

end Stands

/-! ### Commands that end or begin a ringing -/

section Books

variable {s : State} {l : LineId}

theorem blockAccepted_ringBook (h : RingBook s) : RingBook (blockAccepted l s) := by
  by_cases hb : s.callState l = .blocked
  · rw [blockAccepted_of_blocked hb]; exact h
  · have hunassigned := h.removeAssignment l .removal
    rw [blockAccepted_eq hb]
    exact (((((RingStands.abortJobs _ l).trans (.emptyDigits _ l)).trans (.modCall _ l _)).trans (.setCallState _ l _)).trans
      (.arbitrate _)).book hunassigned

theorem ringAccepted_ringBook (h : RingBook s) (hnone : (s.line l).asg = none) (p : Party) (n : Nat) :
    RingBook (ringAccepted l p n s) := by
  have hopened : RingStands s (s.ringOpened l p) := (RingStands.abortJobs s l).trans (.modCall _ l _)
  have hcreated := (hopened.book h).createAssignment (l := l) ((hopened.line l).1.trans hnone) .plain
    ((s.line l).strokeOf p) none n
  rw [ringAccepted_eq]
  exact ((RingStands.setCallState _ l .ringing).trans (.arbitrate _)).book hcreated

theorem cancelEffect_ringBook (h : RingBook s) {t : State} (hc : cancelEffect l s = some t) : RingBook t := by
  have hunassigned := h.removeAssignment l .removal
  unfold cancelEffect at hc
  split at hc
  · exact Option.some.inj hc ▸ ((RingStands.modCall _ l _).trans (.setCallState _ l _)).book hunassigned
  · exact Option.some.inj hc ▸ ((RingStands.clearRevert _ l).trans (.setCallState _ l _)).book hunassigned
  · exact Option.some.inj hc ▸ (RingStands.returnToCaller s l).book h
  · exact Option.some.inj hc ▸ (((RingStands.abortJobs s l).trans (.clearRevert _ l)).trans (.setCallState _ l _)).book h
  · exact absurd hc nofun

end Books

/-! ### RESTART (R56, R71) -/

theorem Line.restarted_planned (x : Line) : x.restarted.asg = x.asg ∧ x.restarted.relay = x.relay := ⟨rfl, rfl⟩

theorem restartAll_ringBook {s : State} (h : RingBook s) : RingBook (restartAll s) := by
  have hended : RingBook s.endRinging := foldl_preserves (fun t l ht => ht.earlyQuench l .restart) _
    (foldl_preserves (fun t l ht => ht.removeAssignment l .restart) _ h)
  have hparked (u : State) (l : LineId) : RingStands u (u.reportParked l) := by
    unfold State.reportParked
    split
    · exact .queueReport u _
    · exact .refl u
  have hmapped : RingStands s.endRinging (s.endRinging.mapLines Line.restarted) :=
    .of_schedule (.of_rfl _ _ _ _) fun l => by rw [State.mapLines_line]; exact Line.restarted_planned _
  have hbook := hmapped.book hended
  unfold restartAll
  dsimp only
  generalize s.endRinging.mapLines Line.restarted = t at hbook
  have hcleared : RingStands t { t with msu := { t.msu with jobs := [], running := none }
                                        reports := { t.reports with queue := [.restarted], lost := false } } :=
    .of_lines_eq (.of_rfl t _ _ _) fun _ => rfl
  exact ((hcleared.trans (.foldl hparked _ _)).trans (.arbitrate _)).book hbook

theorem restartStep_ringBook {s : State} (h : RingBook s) (broadcast : Bool) : RingBook (restartStep broadcast s) := by
  have hall := restartAll_ringBook h
  unfold restartStep
  generalize restartAll s = u at hall
  split
  · exact hall
  · exact (RingStands.reply _ ⟨u, .ok, []⟩).book hall

/-! ### The commands' answers -/

section Answers

variable {s : State} (h : RingBook s)
include h

theorem configureLineAnswer_ringBook (line tip ring dialMode count : Byte) (fields : List PartyField) :
    RingBook (configureLineAnswer line tip ring dialMode count fields s).state := by
  unfold configureLineAnswer
  split
  · exact h
  · split
    · exact h
    · split
      · split
        · exact h
        · exact (RingStands.configureAccepted _ _ _ _ _ _ s).book h
      · exact h

theorem blockAnswer_ringBook (line : Byte) : RingBook (blockAnswer line s).state := by
  unfold blockAnswer
  split
  · exact h
  · split
    · exact h
    · exact blockAccepted_ringBook h

theorem unblockAnswer_ringBook (line : Byte) : RingBook (unblockAnswer line s).state := by
  unfold unblockAnswer
  split
  · exact h
  · split
    · exact (RingStands.unblockAccepted s _).book h
    · exact h

theorem readLineAnswer_ringBook (line : Byte) : RingBook (readLineAnswer line s).state := by
  unfold readLineAnswer
  split
  · exact h
  · exact (RingStands.modRecord s _ fun r => { r with latched := .clear }).book h

theorem testLineAnswer_ringBook (line : Byte) : RingBook (testLineAnswer line s).state := by
  unfold testLineAnswer
  split
  · exact h
  · split
    · exact (RingStands.testLineAccepted s _).book h
    · exact h

theorem setCodeAnswer_ringBook (code : Byte) (bursts : List BurstField) : RingBook (setCodeAnswer code bursts s).state := by
  unfold setCodeAnswer
  split
  · exact h
  · split
    · exact h
    · rename_i c _ _ hok
      exact h.setCode ((checkPattern_eq_none_iff s c _).1 hok).2 _

theorem setBusAnswer_ringBook (bus budget : Byte) : RingBook (setBusAnswer bus budget s).state := by
  unfold setBusAnswer
  split
  · exact h
  · exact h.setBudget _ _

theorem readScheduleAnswer_ringBook (bus : Byte) : RingBook (readScheduleAnswer bus s).state := by
  unfold readScheduleAnswer
  split
  · exact h
  · exact (RingStands.modBus (s := s) (f := fun r => { r with stateLatch := false }) ⟨rfl, rfl, rfl⟩).book h

/-- Only an IDLE line is rung, and an IDLE line has no assignment (R35, R137). -/
theorem ringAnswer_ringBook (hcalls : CallLaws s) (line party cycles : Byte) :
    RingBook (ringAnswer line party cycles s).state := by
  unfold ringAnswer
  split
  · exact h
  · rename_i l _
    split
    · exact h
    · rename_i hst
      split
      · exact h
      · split
        · exact h
        · split
          · exact h
          · rename_i p _
            split
            · have hnone : (s.line l).asg = none := by
                refine Option.not_isSome_iff_eq_none.1 fun hsome => ?_
                have hidle : s.callState l = .idle := not_not.1 hst
                rcases (hcalls.assignments.while_ringing l).1 hsome with e | e <;> exact absurd (hidle.symm.trans e) nofun
              exact ringAccepted_ringBook h hnone p _
            · exact h

theorem cancelAnswer_ringBook (line : Byte) : RingBook (cancelAnswer line s).state := by
  unfold cancelAnswer
  split
  · exact h
  · split
    · exact h
    · rename_i hc
      exact (RingStands.arbitrate _).book (cancelEffect_ringBook h hc)

theorem connectAnswer_ringBook (line : Byte) : RingBook (connectAnswer line s).state := by
  unfold connectAnswer
  split
  · exact h
  · split
    · exact (RingStands.connectAccepted s _).book h
    · exact h

theorem releaseAnswer_ringBook (line : Byte) : RingBook (releaseAnswer line s).state := by
  unfold releaseAnswer
  split
  · exact h
  · split
    · exact (RingStands.releaseAccepted s _).book h
    · exact h

theorem revertAnswer_ringBook (line called caller recallByte : Byte) :
    RingBook (revertAnswer line called caller recallByte s).state := by
  unfold revertAnswer
  split
  · exact h
  · split
    · exact h
    · split
      · split
        · exact h
        · exact (RingStands.revertAccepted s _ _ _ _).book h
      · exact h

end Answers

/-- A command keeps the laws of ringing. -/
theorem runCommand_ringBook {s : State} (hcalls : CallLaws s) (h : RingBook s) (i : Instr) : RingBook (runCommand i s) := by
  have hreply {k : Byte} {a : Answer} (ha : RingBook a.state) : RingBook (reply k a) := (RingStands.reply k a).book ha
  cases i with
  | poll => exact hreply (by rw [pollAnswer_eq]; exact (RingStands.pollFill _ _ s).book h)
  | restart b => exact restartStep_ringBook h b
  | setParameters mask values => exact hreply ((RingStands.setParametersAccepted mask values s).book h)
  | setReports e => exact hreply ((RingStands.withReports s _).book h)
  | configureLine l t r m n ps => exact hreply (configureLineAnswer_ringBook h l t r m n ps)
  | block l => exact hreply (blockAnswer_ringBook h l)
  | unblock l => exact hreply (unblockAnswer_ringBook h l)
  | readLine l => exact hreply (readLineAnswer_ringBook h l)
  | testLine l => exact hreply (testLineAnswer_ringBook h l)
  | setCode c bs => exact hreply (setCodeAnswer_ringBook h c bs)
  | setBus b n => exact hreply (setBusAnswer_ringBook h b n)
  | readSchedule b => exact hreply (readScheduleAnswer_ringBook h b)
  | ring l p n => exact hreply (ringAnswer_ringBook h hcalls l p n)
  | cancel l => exact hreply (cancelAnswer_ringBook h l)
  | connect l => exact hreply (connectAnswer_ringBook h l)
  | release l => exact hreply (releaseAnswer_ringBook h l)
  | revert l d r x => exact hreply (revertAnswer_ringBook h l d r x)
  | unknownKind k p => exact hreply (a := refuse .unknownKind s) h
  | _ => exact h

end Sys2Proof.Machine
end

section
/-! PROOFS. The laws of ringing through every event, and so through every step. -/

namespace Sys2Proof.Machine

/-! ### Events that leave the ringing as it stands -/

section Stands

variable (s : State) (l : LineId)

theorem RingStands.digitFormed (digit : Nat) : RingStands s (s.digitFormed l digit) := by
  have hschedule : ScheduleKept s (s.digitFormed l digit) := by
    rw [s.digitFormed_frame l digit]; exact .of_rfl s _ _ _
  refine .of_line hschedule (s.digitFormed_othersKept l digit) ?_ ?_ <;>
    rw [State.digitFormed_line, State.digitSettled_line]

theorem RingStands.trainEnds : RingStands s (s.trainEnds l) := by
  rcases Nat.eq_zero_or_pos (s.line l).dial.pulseCount with hz | hpos
  · rw [State.trainEnds_of_none hz]; exact .refl s
  · rcases Nat.lt_or_ge 10 (s.line l).dial.pulseCount with hlong | hdigit
    · rw [State.trainEnds_of_overlong hlong]
      exact (RingStands.modLine ⟨rfl, rfl⟩).trans (.markerEvent _ l)
    · rw [State.trainEnds_of_digit hpos hdigit]; exact .digitFormed s l _

theorem RingStands.makeTimerExpiryStep : RingStands s (makeTimerExpiryStep l s) := by
  have htaken := RingStands.modScan s l fun c => { c with makeTimer := none }
  unfold Machine.makeTimerExpiryStep
  split
  · exact .refl s
  · dsimp only
    split
    · exact htaken.trans (.trainEnds _ l)
    · exact htaken

theorem RingStands.interdigitTimerExpiryStep : RingStands s (interdigitTimerExpiryStep l s) := by
  unfold Machine.interdigitTimerExpiryStep
  split
  · exact .refl s
  · exact (RingStands.modLine ⟨rfl, rfl⟩).trans (.markerEvent _ l)

theorem RingStands.loopSampleStep (closed : Bool) : RingStands s (loopSampleStep l closed s) := by
  unfold Machine.loopSampleStep
  split
  · split
    · exact .modScan s l _
    · obtain ⟨-, hasg, hrelay, -, -, -, hothers, heq⟩ := s.filterSample_kept l closed
      exact .of_line (by rw [heq]; exact .of_rfl s _ _ _) hothers hasg hrelay
  · exact .refl s

theorem RingStands.permanentSignalExpiryStep : RingStands s (permanentSignalExpiryStep l s) := by
  unfold Machine.permanentSignalExpiryStep
  split
  · exact ((((RingStands.leaveOriginating s l).trans (.emptyDigits _ l)).trans (.setCallState _ l _)).trans
      (.queueReport _ _)).trans (.arbitrate _)
  · exact .refl s

theorem RingStands.revertHoldExpiryStep : RingStands s (revertHoldExpiryStep l s) := by
  unfold Machine.revertHoldExpiryStep
  split
  · exact (RingStands.returnToCaller s l).trans (.queueReport _ _)
  · exact .refl s

theorem RingStands.verifyTimerExpiryStep : RingStands s (verifyTimerExpiryStep l s) := by
  have hended := RingStands.modDet s l DetectorRecord.endVerify
  unfold Machine.verifyTimerExpiryStep
  split
  · unfold verifyExpires
    dsimp only
    split
    · rename_i sd _ _
      have hnoise (u : State) : RingStands u (u.reportNoise l sd) := by
        refine .of_line (u.reportNoise_scheduleKept l sd) (u.reportNoise_othersKept l sd) ?_ ?_ <;>
          rw [State.reportNoise_line]
      exact hended.trans (((RingStands.modLine (updateSide_planned _ _ _ _)).trans (hnoise _)).trans
        (.reportIfChanged l _ _))
    · exact hended
  · exact .refl s

theorem RingStands.originIdDone (measured : PerSide Nat) : RingStands s (originIdDone l measured s) :=
  ((RingStands.releaseHead s l).trans (.originateDue _ l _ _)).trans (.arbitrate _)

theorem RingStands.answerSideDone (measured : PerSide Nat) : RingStands s (answerSideDone l measured s) := by
  have hdecided (u : State) (x : Option Side) : RingStands u (u.decideAnswer l x) :=
    have h := u.decideAnswer_kept l x
    .of_line h.schedule h.others h.asg h.relay
  exact ((RingStands.releaseHead s l).trans (hdecided _ _)).trans (.arbitrate _)

theorem Line.tested_planned (p : Params) (g : PerSide Nat) (x : Line) :
    (x.tested p g).asg = x.asg ∧ (x.tested p g).relay = x.relay := updateSides_planned _ _ _ _

theorem RingStands.hostTestDone (g : PerSide Nat) : RingStands s (hostTestDone l g s) :=
  ((((RingStands.releaseHead s l).trans (.modLine (Line.tested_planned _ _ _))).trans (.queueReport _ _)).trans
    (.reportIfChanged l _ _)).trans (.arbitrate _)

theorem RingStands.insulationTestDone (g : PerSide Nat) : RingStands s (insulationTestDone l g s) :=
  (((RingStands.withMsu s _).trans (.modLine (Line.tested_planned _ _ _))).trans (.reportIfChanged l _ _)).trans
    (.arbitrate _)

theorem RingStands.testCompleteStep (tip ring : Reading) : RingStands s (testCompleteStep tip ring s) := by
  unfold Machine.testCompleteStep
  split
  · exact .hostTestDone s _ _
  · exact .insulationTestDone s _ _
  · exact .refl s

theorem RingStands.originIdCompleteStep (tip ring : Reading) : RingStands s (originIdCompleteStep tip ring s) := by
  unfold Machine.originIdCompleteStep
  split
  · exact .originIdDone s _ _
  · exact .refl s

theorem RingStands.answerSideCompleteStep (tip ring : Reading) : RingStands s (answerSideCompleteStep tip ring s) := by
  unfold Machine.answerSideCompleteStep
  split
  · exact .answerSideDone s _ _
  · exact .refl s

theorem RingStands.testTickStep : RingStands s (testTickStep s) := (RingStands.withMsu s _).trans (.arbitrate _)

theorem RingStands.sourceGoodChangeStep (bus : Bus) (good : Bool) : RingStands s (sourceGoodChangeStep bus good s) := by
  refine .modBus ?_
  unfold BusRecord.inputChanged
  split
  · exact ⟨rfl, rfl, rfl⟩
  · exact ⟨rfl, rfl, rfl⟩

theorem RingStands.linkTimers : RingStands s (gapTimerExpiryStep s) ∧ RingStands s (turnaroundExpiryStep s) ∧
    RingStands s (replyEndStep s) := by
  obtain ⟨⟨k₁, h₁⟩, ⟨k₂, h₂⟩, ⟨k₃, h₃⟩⟩ := linkTimers_link s
  rw [h₁, h₂, h₃]
  exact ⟨.withLink s k₁, .withLink s k₂, .withLink s k₃⟩

end Stands

/-! ### Answers, clears and expiries -/

section Books

variable {s : State} {l : LineId}

theorem RingBook.answer (h : RingBook s) (source : AnswerSource) (side : Option Side) : RingBook (s.answer l source side) := by
  have hunassigned := h.removeAssignment l .removal
  by_cases hringing : s.callState l = .ringing
  · rw [State.answer_of_ringing source side hringing]
    exact (((RingStands.setCallState _ l _).trans (.queueReport _ _)).trans (.modCall _ l _)).book hunassigned
  · by_cases hrevert : s.callState l = .revertRinging
    · rw [State.answer_of_revertRinging source side hrevert]
      exact ((RingStands.setCallState _ l _).trans (.requestJob _ l _)).book hunassigned
    · rw [State.answer_of_not_rung source side hringing hrevert]; exact h

theorem RingBook.expire (h : RingBook s) (l : LineId) : RingBook (s.expire l) := by
  have hunassigned := h.removeAssignment l .removal
  unfold State.expire
  split
  · exact h
  · dsimp only
    split
    · exact (((RingStands.setCallState _ l _).trans (.queueReport _ _)).trans (.modCall _ l _)).book hunassigned
    · exact (((RingStands.setCallState _ l _).trans (.queueReport _ _)).trans (.clearRevert _ l)).book hunassigned

theorem assignmentExpiryStep_ringBook (h : RingBook s) : RingBook (assignmentExpiryStep l s) := by
  unfold assignmentExpiryStep
  split
  · exact h
  · exact (RingStands.arbitrate _).book (h.expire l)

theorem RingBook.silenceAnswer (h : RingBook s) : RingBook (s.silenceAnswer l) := by
  unfold State.silenceAnswer
  dsimp only
  split
  · exact ((RingStands.modDet s l _).book h).answer _ _
  · exact h.answer _ _

theorem RingBook.heldClosed (h : RingBook s) : RingBook (s.heldClosed l) := by
  unfold State.heldClosed
  split
  · exact (RingStands.of_line (s.originate_scheduleKept l) (s.originate_othersKept l) (by rw [State.originate_line])
      (by rw [State.originate_line])).book h
  · exact h.silenceAnswer
  · exact h.silenceAnswer
  · exact h

theorem closedHoldExpiryStep_ringBook (h : RingBook s) : RingBook (closedHoldExpiryStep l s) := by
  have htaken := (RingStands.modScan s l fun c => { c with closedHold := none }).book h
  unfold closedHoldExpiryStep
  split
  · exact h
  · exact (RingStands.arbitrate _).book htaken.heldClosed

theorem RingBook.beginReverting (h : RingBook s) (hnone : (s.line l).asg = none) : RingBook (s.beginReverting l) := by
  cases hk : (s.line l).revertStrokes with
  | none => rw [State.beginReverting_of_none hk]; exact h
  | some p =>
    rw [State.beginReverting_of_strokes hk]
    exact (RingStands.setCallState _ l _).book (h.createAssignment hnone _ _ _ _)

/-- Only a line that is not ringing begins a reverting ring, and such a line has no assignment (R35, R150). -/
theorem RingBook.breakReached (h : RingBook s) (hcalls : CallsBooked s) : RingBook (s.breakReached l) := by
  have hclear (u : State) (st : CallState) : RingStands u (u.clearLine l st) :=
    (RingStands.setCallState u l _).trans (.queueReport _ _)
  have hnone (hst : s.callState l = .revertCheck ∨ s.callState l = .revertHold) : (s.line l).asg = none := by
    refine Option.not_isSome_iff_eq_none.1 fun hsome => ?_
    have hring : s.callState l = .ringing ∨ s.callState l = .revertRinging := (hcalls.line l).asg_isSome.1 hsome
    rcases hst with e | e <;> rcases hring with e' | e' <;> exact absurd (e.symm.trans e') nofun
  unfold State.breakReached
  split
  · exact ((RingStands.leaveOriginating s l).trans (hclear _ _)).book h
  · exact (hclear s _).book h
  · exact (hclear s _).book h
  · rename_i hst
    have hk := RingStands.abortJobs s l
    exact (hk.book h).beginReverting ((hk.line l).1.trans (hnone (.inl hst)))
  · rename_i hst
    have hk := RingStands.modCall s l fun c => { c with revertHold := none }
    exact (hk.book h).beginReverting ((hk.line l).1.trans (hnone (.inr hst)))
  · exact h

theorem breakTimerExpiryStep_ringBook (h : RingBook s) (hcalls : CallLaws s) : RingBook (breakTimerExpiryStep l s) := by
  have htaken : RingBook (s.breakTaken l) := (RingStands.modScan s l _).book h
  have hbooked : CallsBooked (s.breakTaken l) := breakTaken_booked hcalls.booked
  unfold breakTimerExpiryStep
  split
  · exact h
  · exact (RingStands.arbitrate _).book (htaken.breakReached hbooked)

theorem tripSampleStep_ringBook (h : RingBook s) (current : Nat) : RingBook (tripSampleStep l current s) := by
  unfold tripSampleStep
  split
  · generalize min Config.sampleMax current = v
    cases hm : (s.line l).det.mode with
    | idle => rw [judgeSample_of_idle_or_verify (.inl hm)]; exact h
    | verify => rw [judgeSample_of_idle_or_verify (.inr hm)]; exact h
    | watch => rw [judgeSample_of_watch hm]; exact (RingStands.modDet s l _).book h
    | window =>
      have hsampled : RingBook (s.windowSampled l v) := (RingStands.modDet s l _).book h
      cases hv : ((s.windowSampled l v).line l).det.verdict s.params with
      | goesOn => rw [judgeSample_of_goesOn hm hv]; exact hsampled
      | unresolved =>
        rw [judgeSample_of_unresolved hm hv]
        exact (RingStands.modDet _ l _).book (hsampled.earlyQuench l _)
      | trip =>
        rw [judgeSample_of_trip hm hv, State.confirmTrip_eq]
        exact (RingStands.arbitrate _).book (((RingStands.modDet _ l _).book (hsampled.earlyQuench l _)).answer _ _)
  · exact h

/-! ### The course of a burst (R57, R62, R63) -/

/-- A change of one line's relays that keeps to their law. -/
theorem RingBook.modLine (h : RingBook s) {f : Line → Line} (hasg : (f (s.line l)).asg = (s.line l).asg)
    (hrelay : RelayFits s.Good (f (s.line l))) : RingBook (s.modLine l f) := by
  refine ⟨h.plan.of_kept (.of_schedule (s.modLine_scheduleKept l f) fun m => ?_),
    h.relays.of_change (s.modLine_othersKept l f) (fun _ => id) (by rw [State.modLine_line_self]; exact hrelay)⟩
  by_cases e : m = l
  · rw [e, State.modLine_line_self, hasg]
  · rw [s.modLine_othersKept l f m e]

/-- A line in QUENCH keeps to the law of the relays, of whatever kind its QUENCH is. -/
theorem RelayFits.quenches {good : Bus → Prop} {x : Line} {kind : QuenchKind} (hphase : x.relay.phase = .quench)
    (hkind : x.relay.quenchKind = some kind) : RelayFits good x :=
  ⟨fun hd => absurd hd (by rw [Line.Driven, hphase]; rintro (e | e) <;> exact absurd e nofun),
    fun _ hd => absurd hd (by rw [Line.Driven, hphase]; rintro (e | e) <;> exact absurd e nofun),
    fun hs => absurd (hphase.symm.trans hs) nofun, iff_of_true hphase (by rw [hkind]; rfl)⟩

theorem armExpiryStep_ringBook (h : RingBook s) : RingBook (armExpiryStep l s) := by
  unfold armExpiryStep
  split
  · rename_i harm
    obtain ⟨hplaced, hgood, -, hkind⟩ := h.relays l
    exact h.modLine rfl ⟨fun _ => hplaced (.inl harm), fun bus _ => hgood bus (.inl harm), nofun,
      iff_of_false nofun fun hsome => absurd (harm.symm.trans (hkind.2 hsome)) nofun⟩
  · exact h

theorem ringEndStep_ringBook (h : RingBook s) : RingBook (ringEndStep l s) := by
  unfold ringEndStep
  split
  · rw [ringEnds_eq]
    refine (RingStands.reportIfChanged l s _).book (h.modLine ?_ ?_) <;> rw [Line.ringEnded_eq]
    exact .quenches rfl rfl
  · exact h

theorem RelayFits.quenchEnds {good : Bus → Prop} (x : Line) : RelayFits good x.endQuench := by
  rw [Line.endQuench_eq]
  exact ⟨fun hd => absurd hd (by rintro (e | e) <;> exact absurd e nofun),
    fun _ hd => absurd hd (by rintro (e | e) <;> exact absurd e nofun), fun _ => ⟨rfl, rfl, rfl, rfl, rfl⟩,
    iff_of_false nofun nofun⟩

theorem quenchEndStep_ringBook (h : RingBook s) : RingBook (quenchEndStep l s) := by
  unfold quenchEndStep
  split
  · exact (RingStands.arbitrate _).book (h.modLine (by rw [Line.endQuench_eq]) (.quenchEnds _))
  · exact h

/-! ### Bus faults and recoveries (R49, R51) -/

theorem busFaultStep_ringBook (h : RingBook s) (bus : Bus) : RingBook (busFaultStep bus s) := by
  unfold busFaultStep
  split
  · exact (RingStands.reportBus _ bus).book (h.faults bus)
  · exact h

theorem busRecoveryStep_ringBook (h : RingBook s) (bus : Bus) : RingBook (busRecoveryStep bus s) := by
  unfold busRecoveryStep
  split
  · rename_i hf
    exact (RingStands.reportBus _ bus).book (h.recovers hf.1)
  · exact h

end Books

/-! ### The slot boundary (R42, R60) -/

section Boundary

theorem Line.takeBoundary_asg (codes : CodeId → Pattern) (g : Slot) (x : Line) :
    (x.takeBoundary codes g).asg = x.asg := by
  rw [Line.takeBoundary_kept]
  exact (x.endDueQuench_keeps g).2.1

theorem RelayFits.endDueQuench {good : Bus → Prop} {x : Line} (h : RelayFits good x) (g : Slot) :
    RelayFits good (x.endDueQuench g) := by
  unfold Line.endDueQuench
  split
  · exact .quenchEnds x
  · exact h

theorem RelayFits.withQuiet {good : Bus → Prop} {x : Line} (h : RelayFits good x) (q : Bool) :
    RelayFits good { x with relay := { x.relay with quiet := q } } := by
  obtain ⟨hplaced, hgood, hsilent, hkind⟩ := h
  exact ⟨hplaced, hgood, hsilent, hkind⟩

/-- The bus of a burst is the bus its assignment is placed on (R60). -/
theorem Line.burstStart_placed {codes : CodeId → Pattern} {g : Slot} {x : Line} {b : BurstStart}
    (h : x.burstStart codes g = some b) : x.relay.phase = .silent ∧ x.placedBus = some b.bus := by
  unfold Line.burstStart at h
  split at h
  · rename_i hs
    obtain ⟨a, ha, hb⟩ := Option.bind_eq_some_iff.1 h
    unfold Assignment.burstAt at hb
    split at hb
    · exact absurd hb nofun
    · rename_i bus o n hp
      split at hb
      · obtain ⟨u, -, rfl⟩ := Option.map_eq_some_iff.1 hb
        exact ⟨hs.1, Line.placedBus_of_placed ha hp⟩
      · exact absurd hb nofun
  · exact absurd h nofun

/-- A burst begins on a line whose assignment is placed on a GOOD bus (R57, R60). -/
theorem RelayFits.takeBoundary {good : Bus → Prop} {x : Line} (h : RelayFits good x)
    (hgood : ∀ bus, x.placedBus = some bus → good bus) (codes : CodeId → Pattern) (g : Slot) :
    RelayFits good (x.takeBoundary codes g) := by
  have hended := h.endDueQuench g
  have hplaced : (x.endDueQuench g).placedBus = x.placedBus := Line.placedBus_congr (x.endDueQuench_keeps g).2.1
  unfold Line.takeBoundary
  dsimp only
  split
  · rename_i b hb
    obtain ⟨hsilent, hbus⟩ := Line.burstStart_placed hb
    refine RelayFits.withQuiet (x := (x.endDueQuench g).arm b) ⟨fun _ => ⟨hbus, rfl⟩, fun bus _ e => ?_, nofun, ?_⟩ _
    · exact hgood bus (hplaced ▸ hbus.trans e)
    · refine iff_of_false nofun fun hsome => ?_
      exact absurd (hsilent.symm.trans (hended.quenchKind.2 hsome)) nofun
  · exact hended.withQuiet _

theorem RingBook.sequencerBoundary {s : State} (h : RingBook s) : RingBook s.sequencerBoundary := by
  have hline (l : LineId) : s.sequencerBoundary.line l = (s.line l).takeBoundary s.pattern s.slot :=
    State.mapLines_line _ _ _
  refine ⟨h.plan.of_kept (.of_schedule (.of_rfl s _ _ _) fun l => ?_), fun l => ?_⟩
  · rw [hline, Line.takeBoundary_asg]
  · rw [hline]
    refine (h.relays l).takeBoundary (fun bus hplaced => ?_) _ _
    cases hst : (s.bus bus).status with
    | good => exact hst
    | faulted => exact absurd hplaced (h.plan.empty bus hst l List.not_mem_nil)

theorem RingBook.plannerCount {s : State} (h : RingBook s) : RingBook s.plannerCount := by
  unfold State.plannerCount
  split
  · refine foldl_preserves (fun t l ht => ht.expire l) _ (h.mapAssignments fun a => ?_)
    unfold Assignment.countDown
    split <;> exact ⟨rfl, rfl, rfl, rfl⟩
  · exact h

theorem RingBook.plannerAge {s : State} (h : RingBook s) : RingBook s.plannerAge := by
  unfold State.plannerAge
  split
  · refine h.mapAssignments fun a => ?_
    unfold Assignment.age
    split <;> exact ⟨rfl, rfl, rfl, rfl⟩
  · exact h

theorem RingBook.plannerWalk {s : State} (h : RingBook s) : RingBook s.plannerWalk :=
  have hwaits : ∀ l ∈ s.waiting, (s.line l).waits = true := fun l => (h.plan.waiting.members l).1
  ⟨h.plan.walk h.plan.waiting.nodup hwaits, h.relays.walk h.plan.waiting.nodup hwaits⟩

theorem slotBoundaryStep_ringBook {s : State} (h : RingBook s) (sequencerFirst : Bool) :
    RingBook (slotBoundaryStep sequencerFirst s) := by
  have hslot := (RingStands.withSlot s (s.slot + 1)).book h
  have hbursts : RingBook (if sequencerFirst = true then
      ({ s with slot := s.slot + 1 } : State).sequencerBoundary.plannerCount
      else ({ s with slot := s.slot + 1 } : State).plannerCount.sequencerBoundary) := by
    split
    · exact hslot.sequencerBoundary.plannerCount
    · exact hslot.plannerCount.sequencerBoundary
  exact (RingStands.arbitrate _).book hbursts.plannerAge.plannerWalk

end Boundary

/-! ### Every step -/

theorem linkCharacterStep_ringBook {s : State} (hcalls : CallLaws s) (h : RingBook s) (c : LinkChar) :
    RingBook (linkCharacterStep c s) := by
  have hunting : RingBook s.toHunt := (RingStands.withLink s _).book h
  have hcallsHunt : CallLaws s.toHunt := hcalls.withLink _
  rcases linkCharacterStep_cases c s with ⟨k, e⟩ | e | ⟨kind, payload, e⟩ <;> rw [e]
  · exact (RingStands.withLink s k).book h
  · exact restartStep_ringBook hunting true
  · unfold commandPath
    split
    · exact runCommand_ringBook hcallsHunt hunting _
    · exact (RingStands.reply _ (refuse .badLength s.toHunt)).book hunting
    · exact (RingStands.reply _ (refuse .unknownKind s.toHunt)).book hunting

theorem exec_ringBook {s : State} (hcalls : CallLaws s) (h : RingBook s) {c : Instr}
    (hc : ∀ address rate goodA goodB, c ≠ .powerOn address rate goodA goodB) :
    ∃ t, exec c s = .next t ∧ RingBook t := by
  cases he : encodeCommand c with
  | some kp => exact ⟨_, exec_eq_runCommand he s, runCommand_ringBook hcalls h c⟩
  | none =>
  obtain ⟨hgap, hturn, hend⟩ := RingStands.linkTimers s
  cases c with
  | powerOn address rate goodA goodB => exact absurd rfl (hc address rate goodA goodB)
  | restart broadcast => exact ⟨_, rfl, restartStep_ringBook h broadcast⟩
  | linkCharacter c => exact ⟨_, rfl, linkCharacterStep_ringBook hcalls h c⟩
  | gapTimerExpiry => exact ⟨_, rfl, hgap.book h⟩
  | turnaroundExpiry => exact ⟨_, rfl, hturn.book h⟩
  | replyEnd => exact ⟨_, rfl, hend.book h⟩
  | slotBoundary first => exact ⟨_, rfl, slotBoundaryStep_ringBook h first⟩
  | assignmentExpiry l => exact ⟨_, rfl, assignmentExpiryStep_ringBook h⟩
  | armExpiry l => exact ⟨_, rfl, armExpiryStep_ringBook h⟩
  | ringEnd l => exact ⟨_, rfl, ringEndStep_ringBook h⟩
  | quenchEnd l => exact ⟨_, rfl, quenchEndStep_ringBook h⟩
  | tripSample l current => exact ⟨_, rfl, tripSampleStep_ringBook h current⟩
  | verifyTimerExpiry l => exact ⟨_, rfl, (RingStands.verifyTimerExpiryStep s l).book h⟩
  | loopSample l closed => exact ⟨_, rfl, (RingStands.loopSampleStep s l closed).book h⟩
  | closedHoldExpiry l => exact ⟨_, rfl, closedHoldExpiryStep_ringBook h⟩
  | breakTimerExpiry l => exact ⟨_, rfl, breakTimerExpiryStep_ringBook h hcalls⟩
  | makeTimerExpiry l => exact ⟨_, rfl, (RingStands.makeTimerExpiryStep s l).book h⟩
  | interdigitTimerExpiry l => exact ⟨_, rfl, (RingStands.interdigitTimerExpiryStep s l).book h⟩
  | permanentSignalExpiry l => exact ⟨_, rfl, (RingStands.permanentSignalExpiryStep s l).book h⟩
  | revertHoldExpiry l => exact ⟨_, rfl, (RingStands.revertHoldExpiryStep s l).book h⟩
  | testTick => exact ⟨_, rfl, (RingStands.testTickStep s).book h⟩
  | originIdComplete tip ring => exact ⟨_, rfl, (RingStands.originIdCompleteStep s tip ring).book h⟩
  | answerSideComplete tip ring => exact ⟨_, rfl, (RingStands.answerSideCompleteStep s tip ring).book h⟩
  | testComplete tip ring => exact ⟨_, rfl, (RingStands.testCompleteStep s tip ring).book h⟩
  | sourceGoodChange bus good => exact ⟨_, rfl, (RingStands.sourceGoodChangeStep s bus good).book h⟩
  | busFault bus => exact ⟨_, rfl, busFaultStep_ringBook h bus⟩
  | busRecovery bus => exact ⟨_, rfl, busRecoveryStep_ringBook h bus⟩
  | _ => exact nomatch he

/-- Settles O13. Each event leaves the ringing as it stands (`RingStands`) or carries out operations of the planner and
the burst sequencer under which the load sums, the waiting list and the relays' law hold on (`RingBook`); the laws of
calls give that a line that begins to ring has no assignment. -/
theorem stepKeepsTheRingingLaws : Obligations.StepKeepsTheRingingLaws := by
  unfold Obligations.StepKeepsTheRingingLaws
  intro s t hcalls hs h
  unfold step at h
  split at h
  · exact Host.Outcome.next.inj h ▸ hs
  · rename_i i rest _
    by_cases hc : ∀ address rate goodA goodB, i ≠ .powerOn address rate goodA goodB
    · obtain ⟨u, hu, hbook⟩ := exec_ringBook (hcalls.withPending rest) ((RingStands.withPending s rest).book hs.book) hc
      exact Host.Outcome.next.inj (hu.symm.trans h) ▸ hbook.laws
    · push Not at hc
      obtain ⟨address, rate, goodA, goodB, rfl⟩ := hc
      obtain rfl := Host.Outcome.next.inj h
      exact ((RingStands.withPending _ rest).book (State.powerOn_ringingLaws address rate goodA goodB).book).laws

end Sys2Proof.Machine
end

section
/-! PROOFS. A frame at the receiver (R164 to R171): its characters are assembled one by one, and the last has the
complete frame judged. -/

namespace Sys2Proof.Machine

/-! ### Characters -/

theorem charByte_append (b : BitVec 1) (c : Byte) : charByte ⟨true, b ++ c⟩ = c :=
  BitVec.setWidth_append_eq_right

@[simp] theorem charByte_dataChar (b : Byte) : charByte (dataChar b) = b := charByte_append 0 b
@[simp] theorem charByte_addressChar (b : Byte) : charByte (addressChar b) = b := charByte_append 1 b

theorem charIsAddress_append (b : BitVec 1) (c : Byte) : charIsAddress ⟨true, b ++ c⟩ = b.getLsbD 0 :=
  BitVec.getLsbD_append

@[simp] theorem charIsAddress_dataChar (b : Byte) : charIsAddress (dataChar b) = false := charIsAddress_append 0 b
@[simp] theorem charIsAddress_addressChar (b : Byte) : charIsAddress (addressChar b) = true := charIsAddress_append 1 b

/-! ### The assembly of a frame (R166, R167) -/

theorem runAll_linkCharacter (c : LinkChar) (rest : List Instr) (s : State) :
    runAll (.linkCharacter c :: rest) s = runAll rest (linkCharacterStep c s) := rfl

section Assembly

variable (s : State)

theorem linkCharacterStep_of_data {c : LinkChar} (hmode : s.link.receiver.mode = .assemble) (hstop : c.stop = true)
    (hdata : charIsAddress c = false) : linkCharacterStep c s = assembleData (charByte c) s := by
  unfold linkCharacterStep
  rw [hmode]
  unfold assembleCharacter
  simp [hstop, hdata]

/-- What a data character does to a receiver in the course of an assembly. -/
theorem linkCharacterStep_dataChar {r : Receiver} (hmode : r.mode = .assemble) (b : Byte) :
    linkCharacterStep (dataChar b) (s.setReceiver r) = assembleData b (s.setReceiver r) := by
  rw [linkCharacterStep_of_data _ hmode rfl (charIsAddress_dataChar b), charByte_dataChar]

theorem assembleData_of_payload {r : Receiver} (hnext : r.next = .payload) (b : Byte) :
    assembleData b (s.setReceiver r) = s.setReceiver { r with
      payload := r.payload ++ [b], gapTimer := some Config.gapBits
      next := if (r.payload ++ [b]).length < r.length then .payload else .checkLow } := by
  simp only [assembleData, State.setReceiver, hnext]
  rfl

theorem assembleData_of_checkLow {r : Receiver} (hnext : r.next = .checkLow) (b : Byte) :
    assembleData b (s.setReceiver r) = s.setReceiver { r with
      checkLow := b, next := .checkHigh, gapTimer := some Config.gapBits } := by
  simp only [assembleData, State.setReceiver, hnext]

/-- The receiver once the length character of a frame is taken. -/
def Receiver.headed (b k : Byte) (n : Nat) : Receiver :=
  { mode := .assemble, broadcast := b = 31, next := if n = 0 then .checkLow else .payload, address := b, kind := k
    length := n, payload := [], checkLow := 0, gapTimer := some Config.gapBits }

/-- The receiver once all of a frame but its last check character is taken. -/
def Receiver.assembled (b k : Byte) (p : List Byte) (lo : Byte) : Receiver :=
  { mode := .assemble, broadcast := b = 31, next := .checkHigh, address := b, kind := k, length := p.length
    payload := p, checkLow := lo, gapTimer := some Config.gapBits }

/-- The address, the kind and the length of a frame that concerns the controller. -/
theorem runAll_head {b : Byte} (hhunt : s.link.receiver = .hunting) (hb : s.concerns b = true) (k : Byte) {n : Nat}
    (hn : n ≤ 48) (rest : List Instr) :
    runAll (.linkCharacter (addressChar b) :: .linkCharacter (dataChar k) :: .linkCharacter (dataChar (byteOf n)) :: rest) s =
      runAll rest (s.setReceiver (.headed b k n)) := by
  have hstart : linkCharacterStep (addressChar b) s = s.setReceiver (.start b) := by
    unfold linkCharacterStep
    rw [hhunt]
    show huntCharacter (addressChar b) s = _
    unfold huntCharacter
    rw [charByte_addressChar, if_pos ⟨rfl, charIsAddress_addressChar b, hb⟩]
  have hkind : linkCharacterStep (dataChar k) (s.setReceiver (.start b)) =
      s.setReceiver { Receiver.start b with kind := k, next := .length } :=
    linkCharacterStep_dataChar s rfl k
  have hbyte : (byteOf n).toNat = n := byteOf_toNat (by omega)
  have hlength : linkCharacterStep (dataChar (byteOf n)) (s.setReceiver { Receiver.start b with kind := k, next := .length }) =
      s.setReceiver (.headed b k n) := by
    rw [linkCharacterStep_dataChar s rfl]
    show (if (byteOf n).toNat ≤ 48 then s.setReceiver { Receiver.start b with
      kind := k, length := (byteOf n).toNat, next := if byteOf n = 0 then .checkLow else .payload } else _) = _
    have hzero : byteOf n = 0 ↔ n = 0 := by
      rw [← BitVec.toNat_inj, hbyte]; rfl
    rw [hbyte, if_pos hn]
    simp only [hzero]
    rfl
  rw [runAll_linkCharacter, hstart, runAll_linkCharacter, hkind, runAll_linkCharacter, hlength]

/-- The payload of a frame, character by character. -/
theorem runAll_payload (rest : List Instr) (bs : List Byte) (r : Receiver) (hmode : r.mode = .assemble)
    (hgap : r.gapTimer = some Config.gapBits) (hlen : r.payload.length + bs.length = r.length)
    (hnext : r.next = if bs = [] then .checkLow else .payload) :
    runAll (bs.map (fun b => .linkCharacter (dataChar b)) ++ rest) (s.setReceiver r) =
      runAll rest (s.setReceiver { r with payload := r.payload ++ bs, next := .checkLow }) := by
  induction bs generalizing r with
  | nil => 
    have hr : ({ r with payload := r.payload ++ [], next := .checkLow } : Receiver) = r := by
      cases r; simp_all
    rw [hr]; rfl
  | cons b bs ih =>
    rw [if_neg (List.cons_ne_nil b bs)] at hnext
    rw [List.length_cons] at hlen
    have hstep := (linkCharacterStep_dataChar s hmode b).trans (assembleData_of_payload s hnext b)
    rw [List.map_cons, List.cons_append, runAll_linkCharacter, hstep,
      ih { r with payload := r.payload ++ [b], gapTimer := some Config.gapBits, next := _ } hmode rfl ?len ?next]
    case len => simp only [List.length_append, List.length_singleton]; omega
    case next =>
      rw [List.length_append, List.length_singleton]
      cases bs with
      | nil => exact if_neg (by rw [List.length_nil] at hlen; omega)
      | cons c bs => exact if_pos (by rw [List.length_cons] at hlen; omega)
    simp only [List.append_assoc, List.singleton_append, hgap]

/-- The characters of a frame that concerns the controller: the last check character has the frame judged. -/
theorem runAll_eventsChecked {b : Byte} (hhunt : s.link.receiver = .hunting) (hb : s.concerns b = true) (k : Byte)
    {p : List Byte} (hp : p.length ≤ 48) (lo hi : Byte) :
    runAll (Frame.eventsChecked ⟨b, k, p⟩ lo hi) s = .next (frameComplete (.assembled b k p lo) hi s) := by
  have hevents : Frame.eventsChecked ⟨b, k, p⟩ lo hi = .linkCharacter (addressChar b) :: .linkCharacter (dataChar k) ::
      .linkCharacter (dataChar (byteOf p.length)) :: (p.map (fun c => .linkCharacter (dataChar c)) ++
        [.linkCharacter (dataChar lo), .linkCharacter (dataChar hi)]) := by
    simp [Frame.eventsChecked]
  have hempty : (if p.length = 0 then FramePosition.checkLow else .payload) = if p = [] then .checkLow else .payload :=
    if_congr List.length_eq_zero_iff rfl rfl
  rw [hevents, runAll_head s hhunt hb k hp,
    runAll_payload s _ p (.headed b k p.length) rfl rfl (Nat.zero_add _) hempty,
    runAll_linkCharacter, linkCharacterStep_dataChar s rfl, assembleData_of_checkLow s rfl,
    runAll_linkCharacter, linkCharacterStep_dataChar s rfl]
  rfl

/-! ### The complete frame (R168, R170) -/

theorem State.toHunt_of_hunting (hhunt : s.link.receiver = .hunting) : s.toHunt = s := by
  rw [State.toHunt, State.setReceiver, ← hhunt]

theorem frameComplete_of_badCheck (hhunt : s.link.receiver = .hunting) {b k : Byte} {p : List Byte} {lo hi : Byte}
    (hcheck : dbyte lo hi ≠ frameCheck (Frame.covered ⟨b, k, p⟩)) :
    frameComplete (.assembled b k p lo) hi s = s.latch fun x => { x with check := true } := by
  unfold frameComplete
  rw [State.toHunt_of_hunting s hhunt]
  exact if_pos (Ne.symm hcheck)

/-- The characters of a frame with the check its bytes have. -/
theorem runAll_events {b : Byte} (hhunt : s.link.receiver = .hunting) (hb : s.concerns b = true) (k : Byte)
    {p : List Byte} (hp : p.length ≤ 48) :
    runAll (Frame.events ⟨b, k, p⟩) s = .next (
      if b = 31 then if k = 0x02 ∧ p = [] then restartStep true s else s
      else if s.link.replyState = .idle then commandPath k p s else s.latch fun x => { x with overrun := true }) := by
  have hevents : Frame.events ⟨b, k, p⟩ = Frame.eventsChecked ⟨b, k, p⟩
      (DByte.lo (frameCheck (Frame.covered ⟨b, k, p⟩))) (DByte.hi (frameCheck (Frame.covered ⟨b, k, p⟩))) := rfl
  rw [hevents, runAll_eventsChecked s hhunt hb k hp]
  refine congrArg Host.Outcome.next ?_
  unfold frameComplete
  rw [State.toHunt_of_hunting s hhunt]
  refine (if_neg (not_not.2 (dbyte_lo_hi _).symm)).trans (if_congr ?_ rfl rfl)
  exact decide_eq_true_iff

end Assembly

/-! ### The obligations -/

/-- A station that answers has an address of its own, which is not the broadcast's (R163). -/
theorem State.concerns_own {s : State} (h : s.listensOnly = false) :
    s.concerns (s.link.address.setWidth 8) = true ∧ (s.link.address.setWidth 8 : Byte) ≠ 31 := by
  refine ⟨by simp [State.concerns, h], fun e => ?_⟩
  have hne : s.link.address ≠ 31 := fun e => by simp [State.listensOnly, e] at h
  refine hne (BitVec.eq_of_toNat_eq ?_)
  have := congrArg BitVec.toNat e
  rw [BitVec.toNat_setWidth] at this
  have hlt := s.link.address.isLt
  rw [Nat.mod_eq_of_lt (by omega)] at this
  exact this

/-- The characters of a good frame addressed to a station that is ready are taken by the command path. -/
theorem Ready.runAll_events {s : State} (h : Ready s) (k : Byte) {p : List Byte} (hp : p.length ≤ 48) :
    runAll (Frame.events ⟨s.link.address.setWidth 8, k, p⟩) s = .next (commandPath k p s) := by
  obtain ⟨hconcerns, hne⟩ := State.concerns_own h.answers
  rw [Machine.runAll_events s h.hunting hconcerns k hp, if_neg hne, if_pos h.idle]

/-- The command path on the frame of a well-formed command. -/
theorem commandPath_encode {i : Instr} (hi : i.WellFormed) {k : Byte} {p : List Byte} (he : encodeCommand i = some (k, p))
    (s : State) : .next (commandPath k p s) = exec i s := by
  obtain ⟨-, hunlisted, hlisted⟩ := decodeOfEncodeIsTheCommand i hi k p he
  by_cases hk : ∃ k' p', i = .unknownKind k' p'
  · have hdecode := hunlisted hk
    obtain ⟨k', p', rfl⟩ := hk
    unfold commandPath
    rw [hdecode]
    rfl
  · unfold commandPath
    rw [hlisted hk, exec_eq_runCommand he]

/-- Settles O4. -/
theorem goodFrameRunsItsCommand : Obligations.GoodFrameRunsItsCommand := by
  unfold Obligations.GoodFrameRunsItsCommand
  intro i s hi hs k p he
  rw [hs.runAll_events k (decodeOfEncodeIsTheCommand i hi k p he).1]
  exact commandPath_encode hi he s

/-- Settles O5. -/
theorem framesThatRunNoCommand : Obligations.FramesThatRunNoCommand := by
  unfold Obligations.FramesThatRunNoCommand
  refine ⟨fun k p s hp hk hlen hs => ?_, fun b k p lo hi s hp hhunt hb hcheck => ?_, fun k p s hp hhunt => ?_,
    fun k p s hp hanswers hhunt hreply => ?_⟩
  · have hdecode := ((framesReadAsCommands.2 k p).2).2 ⟨hk, hlen⟩
    rw [hs.runAll_events k hp]
    unfold commandPath
    rw [hdecode]
    rfl
  · have hconcerns : s.concerns b = true := by
      rcases hb with rfl | ⟨ha, rfl⟩
      · simp [State.concerns]
      · exact (State.concerns_own ha).1
    rw [runAll_eventsChecked s hhunt hconcerns k hp, frameComplete_of_badCheck s hhunt hcheck]
    rfl
  · rw [Machine.runAll_events s hhunt (by simp [State.concerns]) k hp, if_pos rfl]
    exact ⟨fun h => by rw [if_pos h]; rfl, fun h => by rw [if_neg h]⟩
  · obtain ⟨hconcerns, hne⟩ := State.concerns_own hanswers
    rw [Machine.runAll_events s hhunt hconcerns k hp, if_neg hne, if_neg hreply]
    rfl

end Sys2Proof.Machine
end

section
/-! PROOFS. One character at the receiver and on the pair (R162 to R169), and the link's timers. -/

namespace Sys2Proof.Machine

/-! ### One character at the receiver (R166, R167) -/

section Receiver

variable {s : State} {c : LinkChar}

theorem linkCharacterStep_of_hunt (h : s.link.receiver.mode = .hunt) : linkCharacterStep c s = huntCharacter c s := by
  unfold linkCharacterStep; rw [h]

theorem linkCharacterStep_of_assemble (h : s.link.receiver.mode = .assemble) :
    linkCharacterStep c s = assembleCharacter c s := by
  unfold linkCharacterStep; rw [h]

theorem huntCharacter_of_ignored (h : ¬(c.stop = true ∧ charIsAddress c = true ∧ s.concerns (charByte c) = true)) :
    huntCharacter c s = s := if_neg h

theorem huntCharacter_of_address (hstop : c.stop = true) (haddr : charIsAddress c = true)
    (hconcerns : s.concerns (charByte c) = true) : huntCharacter c s = s.setReceiver (.start (charByte c)) :=
  if_pos ⟨hstop, haddr, hconcerns⟩

theorem assembleCharacter_of_framing (h : c.stop = false) :
    assembleCharacter c s = (s.latch fun x => { x with framing := true }).toHunt := if_pos (by simp [h])

theorem assembleCharacter_of_address (hstop : c.stop = true) (haddr : charIsAddress c = true) :
    assembleCharacter c s = huntCharacter c s.toHunt := (if_neg (by simp [hstop])).trans (if_pos haddr)

/-- An address character of the controller's own starts an assembly, in HUNT and in ASSEMBLE (R166, R167). -/
theorem linkCharacterStep_of_address (hstop : c.stop = true) (haddr : charIsAddress c = true)
    (hconcerns : s.concerns (charByte c) = true) : linkCharacterStep c s = s.setReceiver (.start (charByte c)) := by
  cases hmode : s.link.receiver.mode with
  | hunt => rw [linkCharacterStep_of_hunt hmode, huntCharacter_of_address hstop haddr hconcerns]
  | assemble =>
    rw [linkCharacterStep_of_assemble hmode, assembleCharacter_of_address hstop haddr]
    exact huntCharacter_of_address hstop haddr hconcerns

/-- A length above 48 discards the frame (R167). -/
theorem assembleData_of_overlong {b : Byte} (hnext : s.link.receiver.next = .length) (hb : 48 < b.toNat) :
    assembleData b s = (s.latch fun x => { x with length := true }).toHunt := by
  simp only [assembleData, hnext]
  exact if_neg (by rw [Config.payloadMax]; omega)

end Receiver

/-! ### Bits (R162) -/

/-- Bits give back the number they were taken from. -/
theorem valueOf_testBit (n m : Nat) : valueOf ((List.range n).map m.testBit) = m % 2 ^ n := by
  induction n generalizing m with
  | zero => simp [valueOf, Nat.mod_one]
  | succ n ih =>
    have hrest : (List.range n).map (m.testBit ∘ Nat.succ) = (List.range n).map (m / 2).testBit :=
      List.map_congr_left fun i _ => Nat.testBit_succ m i
    have hbit : (m.testBit 0).toNat = m % 2 := by
      rw [Nat.testBit_zero]
      rcases Nat.mod_two_eq_zero_or_one m with h | h <;> rw [h] <;> rfl
    rw [List.range_succ_eq_map, List.map_cons, List.map_map, hrest]
    show (m.testBit 0).toNat + 2 * valueOf ((List.range n).map (m / 2).testBit) = _
    rw [ih, hbit, Nat.pow_succ', Nat.mod_mul]

theorem valueOf_data (x : BitVec 9) : BitVec.ofNat 9 (valueOf ((List.range 9).map x.getLsbD)) = x := by
  apply BitVec.eq_of_toNat_eq
  have hx := x.isLt
  have hvalue : valueOf ((List.range 9).map x.getLsbD) = x.toNat % 2 ^ 9 := valueOf_testBit 9 x.toNat
  rw [hvalue, BitVec.toNat_ofNat]
  omega

theorem charBits_length (c : LinkChar) : (charBits c).length = 11 := by simp [charBits]

theorem charBits_data (c : LinkChar) {i : Nat} (h : i < 9) : (charBits c)[i + 1]? = some (c.data.getLsbD i) := by
  rw [charBits, List.getElem?_cons_succ, List.getElem?_append_left (by simpa using h), List.getElem?_map,
    List.getElem?_range h]
  rfl

theorem charBits_stop (c : LinkChar) : (charBits c)[10]? = some c.stop := by simp [charBits]

/-- A character's bits are read back as it was sent, whatever the pair rested before (R162). -/
theorem readCharacter_charBits (c : LinkChar) (rests : Nat) (after : List Bool) :
    readCharacter (List.replicate rests true ++ (charBits c ++ after)) =
      some (c, if c.stop = true then after else after.dropWhile fun b => !b) := by
  have hbits : (List.replicate rests true ++ (charBits c ++ after)).dropWhile id =
      false :: ((List.range 9).map c.data.getLsbD ++ c.stop :: after) := by
    rw [List.dropWhile_append_of_pos fun b hb => by rw [List.eq_of_mem_replicate hb]; rfl]
    simp [charBits]
  have hlen : ((List.range 9).map c.data.getLsbD).length = 9 := by simp
  unfold readCharacter
  rw [hbits]
  dsimp only
  rw [List.drop_left' hlen, List.take_left' hlen, valueOf_data]

theorem readCharacter_rest (rests : Nat) : readCharacter (List.replicate rests true) = none := by
  have hnone : (List.replicate rests true).dropWhile id = [] := by
    rw [List.dropWhile_eq_nil_iff]
    exact fun b hb => List.eq_of_mem_replicate hb
  unfold readCharacter
  rw [hnone]

/-- Where the bits of a character stand among those of characters of one length sent back to back. -/
theorem getElem?_flatMap_of_uniform {α β : Type} {f : α → List β} {n : Nat} (hf : ∀ a, (f a).length = n) {xs : List α}
    {i : Nat} {a : α} (ha : xs[i]? = some a) {b : Nat} (hb : b < n) : (xs.flatMap f)[n * i + b]? = (f a)[b]? := by
  induction xs generalizing i with
  | nil => exact absurd ha (by simp)
  | cons x xs ih =>
    rw [List.flatMap_cons]
    cases i with
    | zero =>
      rw [List.getElem?_cons_zero] at ha
      rw [← Option.some.inj ha, Nat.mul_zero, Nat.zero_add, List.getElem?_append_left (by rw [hf]; exact hb)]
    | succ i =>
      rw [List.getElem?_cons_succ] at ha
      rw [List.getElem?_append_right (by rw [hf, Nat.mul_succ]; omega), hf, ← ih ha]
      congr 1
      rw [Nat.mul_succ]; omega

theorem length_flatMap_of_uniform {α β : Type} {f : α → List β} {n : Nat} (hf : ∀ a, (f a).length = n) (xs : List α) :
    (xs.flatMap f).length = n * xs.length := by
  induction xs with
  | nil => rfl
  | cons x xs ih => rw [List.flatMap_cons, List.length_append, hf, ih, List.length_cons]; ring

/-! ### What the controller drives on the pair (R162, R169) -/

theorem Frame.characters_length (f : Frame) : f.characters.length = f.payload.length + 5 := by
  simp [Frame.characters, dbyteBytes]

theorem State.drivenBits_of_sending {s : State} {f : Frame} (h : s.link.replyState = .sending)
    (hf : s.link.reply = some f) : s.drivenBits = f.characters.flatMap charBits := by
  rw [State.drivenBits, State.driven, h, hf]

theorem State.drivenLevel_of_rest {s : State} (h : s.link.replyState ≠ .sending) (n : Nat) : s.drivenLevel n = true := by
  have hnone : s.drivenBits = [] := by
    unfold State.drivenBits State.driven
    split
    · exact absurd ‹_› h
    · rfl
  rw [State.drivenLevel, hnone]; rfl

theorem State.drivenLevel_of_sending {s : State} {f : Frame} (h : s.link.replyState = .sending)
    (hf : s.link.reply = some f) {i : Nat} {c : LinkChar} (hc : f.characters[i]? = some c) {b : Nat} (hb : b < 11) :
    (charBits c)[b]? = some (s.drivenLevel (11 * i + b)) := by
  have hbit := getElem?_flatMap_of_uniform charBits_length hc hb
  rw [State.drivenLevel, State.drivenBits_of_sending h hf, List.getD_eq_getElem?_getD, hbit,
    List.getElem?_eq_getElem (by rw [charBits_length]; exact hb)]
  rfl

/-- Settles O6. -/
theorem receiverAndLinkTimers : Obligations.ReceiverAndLinkTimers := by
  unfold Obligations.ReceiverAndLinkTimers
  refine ⟨fun c s => ⟨?hunt, ?address, ?other, ?framing, ?length⟩, fun s => ⟨?gap, ?turnaround, ?replyEnd⟩,
    fun c rests after => ?bits, fun k => ⟨?r0, ?r1, ?r2, ?r3⟩, fun s => ⟨?rest, ?sending⟩⟩
  case hunt =>
    intro hmode h
    exact congrArg Host.Outcome.next ((linkCharacterStep_of_hunt hmode).trans (huntCharacter_of_ignored h))
  case address =>
    intro hstop haddr hconcerns
    exact congrArg Host.Outcome.next (linkCharacterStep_of_address hstop haddr hconcerns)
  case other =>
    intro hmode hstop haddr hconcerns
    refine congrArg Host.Outcome.next ((linkCharacterStep_of_assemble hmode).trans
      ((assembleCharacter_of_address hstop haddr).trans (huntCharacter_of_ignored fun h => ?_)))
    exact absurd (hconcerns.symm.trans h.2.2) nofun
  case framing =>
    intro hmode hstop
    exact congrArg Host.Outcome.next ((linkCharacterStep_of_assemble hmode).trans (assembleCharacter_of_framing hstop))
  case length =>
    intro hmode hnext hstop hdata hlong
    exact congrArg Host.Outcome.next
      ((linkCharacterStep_of_data s hmode hstop hdata).trans (assembleData_of_overlong hnext hlong))
  case gap => exact fun hmode hgap => congrArg Host.Outcome.next (if_pos ⟨hmode, hgap⟩)
  case turnaround => exact fun h => congrArg Host.Outcome.next (if_pos h)
  case replyEnd => exact fun h => congrArg Host.Outcome.next (if_pos h)
  case bits =>
    exact ⟨charBits_length c, rfl, fun _ => charBits_data c, charBits_stop c, readCharacter_charBits c rests after,
      readCharacter_rest rests⟩
  case r0 => intro h; rw [Link.duration, Link.duration, h]; decide
  case r1 => intro h; rw [Link.duration, h]; decide
  case r2 => intro h; rw [Link.duration, h]; decide
  case r3 => intro h; rw [Link.duration, Link.duration, Link.duration, h]; decide
  case rest => exact fun h n => State.drivenLevel_of_rest h n
  case sending =>
    intro h f hf
    refine ⟨?_, fun i c hc b hb => State.drivenLevel_of_sending h hf hc hb⟩
    rw [State.drivenBits_of_sending h hf, length_flatMap_of_uniform charBits_length, Frame.characters_length]

end Sys2Proof.Machine
end

section
/-! PROOFS. POLL (R104, R179): the oldest reports that fit. -/

namespace Sys2Proof.Machine

/-! ### The bytes of a report (R180) -/

theorem wordBytes_length (n : Nat) : (wordBytes n).length = 2 := rfl

theorem packDigits_length (ds : List Nat) : (packDigits ds).length = (ds.length + 1) / 2 := by
  induction ds using packDigits.induct with
  | case1 => rfl
  | case2 d => simp [packDigits]
  | case3 d e rest ih => rw [packDigits, List.length_cons, ih, List.length_cons, List.length_cons]; omega

/-- A report entry has the size it is counted with. -/
theorem reportBytes_length (dial : LineId → DialRecord) (r : Report) :
    (reportBytes dial r).length = reportSize dial r := by
  cases r with
  | originate l r g => 
    have hr : r.bytes.length = 2 := by cases r <;> rfl
    have hg : (gcBytes g).length = 4 := by cases g <;> rfl
    simp [reportBytes, reportSize, hr, hg]
  | digits l => simp [reportBytes, reportSize, packDigits_length]; omega
  | testResult l g => cases g <;> rfl
  | _ => rfl

/-- Only a DIGITS entry reads a line's dial reception record. -/
theorem reportBytes_congr {dial dial' : LineId → DialRecord} {r : Report} (h : ∀ l, r = .digits l → dial' l = dial l) :
    reportBytes dial' r = reportBytes dial r := by
  cases r with
  | digits l => rw [reportBytes, reportBytes, h l rfl]
  | testResult l g => cases g <;> rfl
  | _ => rfl

/-! ### A served report (R104) -/

/-- A dial reception record whose digits have been served. -/
def DialRecord.served (d : DialRecord) : DialRecord :=
  { d with digits := [], errors := ⟨false, false, false⟩, complete := false }

theorem State.serve_line (s : State) (r : Report) (l : LineId) : (s.serve r).line l =
    { s.line l with dial := if r = .digits l then (s.line l).dial.served else (s.line l).dial } := by
  unfold State.serve
  split
  · rename_i m
    by_cases e : m = l
    · rw [e, State.modDial_line_self, if_pos rfl]; rfl
    · rw [State.modDial_line_ne _ _ _ _ (Ne.symm e), if_neg (by simpa using e)]
  · rename_i hne
    rw [if_neg (hne l)]

theorem State.serve_reports (s : State) (r : Report) : (s.serve r).reports = s.reports := by
  unfold State.serve
  split <;> rfl

theorem State.serve_eq (s : State) (r : Report) : s.serve r = { s with lines := (s.serve r).lines } := by
  unfold State.serve
  split <;> rfl

/-! ### The filling of a reply (R179) -/

/-- What the filling of a reply with at most `n` reports in `room` bytes gives. -/
structure PollServed (n room : Nat) (s : State) (bytes : List Byte) (count : Nat) (u : State) : Prop where
  atMost : count ≤ n
  queued : count ≤ s.reports.queue.length
  reports : u.reports = { s.reports with queue := s.reports.queue.drop count }
  filled : bytes = (s.reports.queue.take count).flatMap (reportBytes s.dialOf)
  fits : bytes.length ≤ room
  most : count = n ∨ count = s.reports.queue.length ∨
    room < ((s.reports.queue.take (count + 1)).flatMap (reportBytes s.dialOf)).length
  line : ∀ l, u.line l = { s.line l with dial :=
    if (Report.digits l ∈ s.reports.queue.take count) then (s.line l).dial.served else (s.line l).dial }
  frame : u = { s with lines := u.lines, reports := u.reports }

theorem PollServed.stop {n room : Nat} {s : State} (h : n = 0 ∨ s.reports.queue = [] ∨
    room < ((s.reports.queue.take 1).flatMap (reportBytes s.dialOf)).length) : PollServed n room s [] 0 s where
  atMost := Nat.zero_le _
  queued := Nat.zero_le _
  reports := rfl
  filled := rfl
  fits := Nat.zero_le _
  most := by
    rcases h with h | h | h
    · exact .inl h.symm
    · exact .inr (.inl (by rw [h]; rfl))
    · exact .inr (.inr h)
  line l := by rw [List.take_zero, if_neg List.not_mem_nil]
  frame := rfl

/-- The state once the oldest report is served. -/
def State.serveFirst (s : State) (r : Report) (rest : List Report) : State :=
  { s with reports := { s.reports with queue := rest } }.serve r

/-- A served report's marker is not in the queue behind it, so the entries behind it read the same records (R103). -/
theorem flatMap_serveFirst {s : State} {r : Report} {rest : List Report} (hq : s.reports.queue = r :: rest)
    (hmarkers : ∀ l, s.reports.queue.count (.digits l) ≤ 1) (n : Nat) :
    (rest.take n).flatMap (reportBytes (s.serveFirst r rest).dialOf) = (rest.take n).flatMap (reportBytes s.dialOf) := by
  refine List.flatMap_congr fun x hx => reportBytes_congr fun l hl => ?_
  have hmem : Report.digits l ∈ rest := hl ▸ List.mem_of_mem_take hx
  have hne : r ≠ .digits l := fun e => by
    have hcount := hmarkers l
    have hpos := List.count_pos_iff.2 hmem
    rw [hq, e, List.count_cons_self] at hcount
    omega
  show ((State.serve _ r).line l).dial = _
  rw [State.serve_line, if_neg hne]
  rfl

theorem PollServed.step {n room : Nat} {s u : State} {r : Report} {rest : List Report} {bytes : List Byte} {count : Nat}
    (hq : s.reports.queue = r :: rest) (hmarkers : ∀ l, s.reports.queue.count (.digits l) ≤ 1)
    (hroom : reportSize s.dialOf r ≤ room)
    (h : PollServed n (room - reportSize s.dialOf r) (s.serveFirst r rest) bytes count u) :
    PollServed (n + 1) room s (reportBytes s.dialOf r ++ bytes) (count + 1) u := by
  have hrest : (s.serveFirst r rest).reports = { s.reports with queue := rest } := State.serve_reports _ r
  have hsize := reportBytes_length s.dialOf r
  obtain ⟨hle, hlen, hreports, hbytes, hfits, hmost, hline, hframe⟩ := h
  rw [hrest] at hlen hreports hbytes hmost hline
  rw [flatMap_serveFirst hq hmarkers] at hbytes
  dsimp only at hlen hline hmost
  refine ⟨Nat.succ_le_succ hle, ?_, ?_, ?_, ?_, ?_, fun l => ?_, ?_⟩
  · rw [hq, List.length_cons]; omega
  · rw [hreports, hq, List.drop_succ_cons]
  · rw [hbytes, hq, List.take_succ_cons, List.flatMap_cons]
  · rw [List.length_append, hsize]; omega
  · rw [flatMap_serveFirst hq hmarkers] at hmost
    rw [hq, List.length_cons, List.take_succ_cons, List.flatMap_cons, List.length_append, hsize]
    omega
  · have hserved : (s.serveFirst r rest).line l =
        { s.line l with dial := if r = .digits l then (s.line l).dial.served else (s.line l).dial } := State.serve_line _ r l
    rw [hline, hserved, hq, List.take_succ_cons]
    by_cases hr : r = .digits l
    · simp [hr, DialRecord.served]
    · simp [hr, Ne.symm hr]
  · have hserved : s.serveFirst r rest = _ := State.serve_eq _ r
    rw [hframe, hserved]

theorem pollFill_cons {n room : Nat} {s : State} {r : Report} {rest : List Report} (hq : s.reports.queue = r :: rest)
    (hroom : reportSize s.dialOf r ≤ room) : pollFill (n + 1) room s =
      (reportBytes s.dialOf r ++ (pollFill n (room - reportSize s.dialOf r) (s.serveFirst r rest)).1,
        (pollFill n (room - reportSize s.dialOf r) (s.serveFirst r rest)).2.1 + 1,
        (pollFill n (room - reportSize s.dialOf r) (s.serveFirst r rest)).2.2) := by
  rw [pollFill, hq]
  exact if_pos hroom

theorem pollFill_of_full {n room : Nat} {s : State} {r : Report} {rest : List Report} (hq : s.reports.queue = r :: rest)
    (hroom : ¬reportSize s.dialOf r ≤ room) : pollFill (n + 1) room s = ([], 0, s) := by
  rw [pollFill, hq]
  exact if_neg hroom

theorem pollFill_served (n room : Nat) (s : State) (hmarkers : ∀ l, s.reports.queue.count (.digits l) ≤ 1) :
    PollServed n room s (pollFill n room s).1 (pollFill n room s).2.1 (pollFill n room s).2.2 := by
  induction n generalizing room s with
  | zero => exact .stop (.inl rfl)
  | succ n ih =>
    cases hq : s.reports.queue with
    | nil => 
      have hnone : pollFill (n + 1) room s = ([], 0, s) := by rw [pollFill, hq]
      rw [hnone]
      exact .stop (.inr (.inl hq))
    | cons r rest =>
      by_cases hroom : reportSize s.dialOf r ≤ room
      · have hrest : (s.serveFirst r rest).reports.queue = rest := congrArg ReportQueue.queue (State.serve_reports _ r)
        have hfewer (l : LineId) : (s.serveFirst r rest).reports.queue.count (.digits l) ≤ 1 := by
          have hcount := hmarkers l
          rw [hq, List.count_cons] at hcount
          rw [hrest]
          omega
        rw [pollFill_cons hq hroom]
        exact .step hq hmarkers hroom (ih _ _ hfewer)
      · rw [pollFill_of_full hq hroom]
        refine .stop (.inr (.inr ?_))
        rw [hq, List.take_succ_cons, List.take_zero, List.flatMap_cons, List.length_append, reportBytes_length]
        omega

/-- Settles O58. -/
theorem pollServesTheOldestReports : Obligations.PollServesTheOldestReports := by
  unfold Obligations.PollServesTheOldestReports
  intro s hs
  have hserved := pollFill_served 4 45 s hs.markers
  have hpoll : exec .poll s = .next (reply 0x81 (pollAnswer s)) := rfl
  rw [pollAnswer_eq] at hpoll
  generalize (pollFill 4 45 s).1 = bytes at hserved hpoll
  generalize (pollFill 4 45 s).2.1 = count at hserved hpoll
  generalize (pollFill 4 45 s).2.2 = u at hserved hpoll
  obtain ⟨hle, hlen, hreports, hbytes, hfits, hmost, hline, hframe⟩ := hserved
  have hcount : s.reports.queue.length - u.reports.queue.length = count := by
    rw [hreports, List.length_drop]; omega
  refine ⟨u, ?_, fun n hn => ?_, hframe⟩
  · rw [hcount, ← hbytes]; exact hpoll
  · rw [hn, hcount]
    exact ⟨hreports, hle, hbytes ▸ hfits, hmost, hline⟩

end Sys2Proof.Machine
end

section
/-! PROOFS. Displaced assignments tried on the other bus (R49, R53): what the trials of a list of lines leave, and where
each of the lines goes. -/

namespace Sys2Proof.Machine

/-! ### One trial -/

section Rehome

variable {s : State} {l : LineId} {a : Assignment} {bus : Bus} {o : Slot} {n : Nat}

theorem otherBus_ne (bus : Bus) : otherBus bus ≠ bus := by cases bus <;> nofun

theorem State.rehome_of_fits (ha : (s.line l).asg = some a) (hp : a.placement = .placed bus o n)
    (hgood : s.Good (otherBus bus)) (hfits : s.fits a (otherBus bus) o = true) :
    s.rehome l = s.place l a (otherBus bus) o := by
  unfold State.rehome
  rw [ha]
  simp only [hp]
  exact if_pos ⟨hgood, hfits⟩

theorem State.rehome_of_not_fits (ha : (s.line l).asg = some a) (hp : a.placement = .placed bus o n)
    (hno : ¬(s.Good (otherBus bus) ∧ s.fits a (otherBus bus) o = true)) : s.rehome l = s.joinWaiting l a := by
  unfold State.rehome
  rw [ha]
  simp only [hp]
  exact if_neg hno

/-- A trial leaves the other entries of the waiting list. -/
theorem State.mem_waiting_rehome {m : LineId} (hne : m ≠ l) (hm : m ∈ s.waiting) : m ∈ (s.rehome l).waiting := by
  unfold State.rehome
  split
  · split
    · split
      · rw [State.place_waiting, List.mem_filter]; exact ⟨hm, by simpa using hne⟩
      · rw [State.joinWaiting_waiting, mem_insertBy]; exact .inr hm
    · exact hm
  · exact hm

end Rehome

/-! ### The trials of a list of lines -/

/-- Those of a list of lines whose assignments are on the other bus. -/
def movedTo (bus : Bus) (ls : List LineId) (u : State) : List LineId :=
  ls.filter fun m => (u.line m).placedBus = some (otherBus bus)

/-- Where a displaced assignment is after its trial: at its own offset of the other bus, or waiting. -/
def WentHome (bus : Bus) (l : LineId) (a : Assignment) (o : Slot) (good : Prop) (u : State) : Prop :=
  ∃ c, (u.line l).asg = some c ∧ Assignment.SameRing a c ∧
    ((good ∧ ∃ k, c.placement = .placed (otherBus bus) o k) ∨ (c.placement = .waiting ∧ c.waited = 0 ∧ l ∈ u.waiting))

/-- What the trials of a list of lines, all of them placed on a bus before, leave. -/
structure Rehoming (bus : Bus) (ls : List LineId) (t u : State) : Prop where
  frame : u = { t with lines := u.lines, busA := u.busA, busB := u.busB, waiting := u.waiting
                       placedCount := u.placedCount }
  others : ∀ m, m ∉ ls → u.line m = t.line m
  line : ∀ m, u.line m = { t.line m with asg := (u.line m).asg }
  busKept : ∀ v, u.bus v = { t.bus v with loads := (u.bus v).loads }
  own : ∀ g, (u.bus bus).loads.get g = (t.bus bus).loads.get g
  loads : ∀ g, (u.bus (otherBus bus)).loads.get g = (t.bus (otherBus bus)).loads.get g +
    ((movedTo bus ls u).map fun m => (u.line m).loadOn t.pattern (otherBus bus) g).sum
  count : u.placedCount = t.placedCount + (movedTo bus ls u).length
  home : ∀ l ∈ ls, ∀ a o n, (t.line l).asg = some a → a.placement = .placed bus o n →
    WentHome bus l a o (t.Good (otherBus bus)) u

section Rehoming

variable {bus : Bus} {ls : List LineId} {t u : State} {l : LineId}

theorem Rehoming.nil (bus : Bus) (t : State) : Rehoming bus [] t t :=
  ⟨rfl, fun _ _ => rfl, fun _ => rfl, fun _ => rfl, fun _ => rfl, fun _ => rfl, rfl, fun _ h => absurd h List.not_mem_nil⟩

theorem Rehoming.pattern (h : Rehoming bus ls t u) : u.pattern = t.pattern := State.pattern_congr (by rw [h.frame])

theorem Rehoming.good (h : Rehoming bus ls t u) (v : Bus) : u.Good v ↔ t.Good v := by
  rw [State.Good, h.busKept v]

/-- The lines on the other bus do not change with a line outside the list. -/
theorem movedTo_congr {v : State} (h : ∀ m ∈ ls, v.line m = u.line m) : movedTo bus ls v = movedTo bus ls u :=
  List.filter_congr fun m hm => by rw [h m hm]

theorem WentHome.of_rehome {a : Assignment} {o : Slot} {good : Prop} {m : LineId} (h : WentHome bus m a o good u)
    (hne : m ≠ l) : WentHome bus m a o good (u.rehome l) := by
  obtain ⟨c, hc, hsame, hgoes⟩ := h
  refine ⟨c, by rw [u.rehome_othersKept l m hne]; exact hc, hsame, hgoes.imp_right fun ⟨hp, hw, hm⟩ => ⟨hp, hw, ?_⟩⟩
  exact State.mem_waiting_rehome hne hm

theorem Rehoming.snoc (h : Rehoming bus ls t u) (hl : l ∉ ls) {a : Assignment} {o : Slot} {n : Nat}
    (ha : (t.line l).asg = some a) (hp : a.placement = .placed bus o n) : Rehoming bus (ls ++ [l]) t (u.rehome l) := by
  have hau : (u.line l).asg = some a := by rw [h.others l hl]; exact ha
  have hkept (m : LineId) (hm : m ∈ ls) : (u.rehome l).line m = u.line m :=
    u.rehome_othersKept l m fun e : m = l => hl (e ▸ hm)
  have hothers (m : LineId) (hm : m ∉ ls ++ [l]) : (u.rehome l).line m = t.line m := by
    rw [List.mem_append, List.mem_singleton, not_or] at hm
    rw [u.rehome_othersKept l m hm.2, h.others m hm.1]
  have hmoved : movedTo bus (ls ++ [l]) (u.rehome l) = movedTo bus ls u ++ movedTo bus [l] (u.rehome l) := by
    rw [movedTo, List.filter_append]
    exact congrArg (· ++ _) (movedTo_congr hkept)
  have hhome (hlast : WentHome bus l a o (t.Good (otherBus bus)) (u.rehome l)) : ∀ k ∈ ls ++ [l], ∀ b p i,
      (t.line k).asg = some b → b.placement = .placed bus p i → WentHome bus k b p (t.Good (otherBus bus)) (u.rehome l) := by
    intro k hk b p i hb hbp
    rcases List.mem_append.1 hk with hk | hk
    · exact (h.home k hk b p i hb hbp).of_rehome fun e : k = l => hl (e ▸ hk)
    · obtain rfl := List.mem_singleton.1 hk
      obtain rfl := Option.some.inj (ha.symm.trans hb)
      obtain ⟨-, rfl, -⟩ := Placement.placed.inj (hp.symm.trans hbp)
      exact hlast
  have hloads (g : Slot) : ((movedTo bus (ls ++ [l]) (u.rehome l)).map fun m =>
      ((u.rehome l).line m).loadOn t.pattern (otherBus bus) g).sum =
        ((movedTo bus ls u).map fun m => (u.line m).loadOn t.pattern (otherBus bus) g).sum +
        ((movedTo bus [l] (u.rehome l)).map fun m => ((u.rehome l).line m).loadOn t.pattern (otherBus bus) g).sum := by
    rw [hmoved, List.map_append, List.sum_append]
    congr 2
    exact List.map_congr_left fun m hm => by rw [hkept m (List.mem_filter.1 hm).1]
  by_cases hmoves : u.Good (otherBus bus) ∧ u.fits a (otherBus bus) o = true
  · have he := State.rehome_of_fits hau hp hmoves.1 hmoves.2
    have hline : (u.rehome l).line l = { u.line l with
        asg := some { a with placement := .placed (otherBus bus) o u.placedCount } } := by
      rw [he, State.place_line, if_pos rfl]
    have hasg : ((u.rehome l).line l).asg = some { a with placement := .placed (otherBus bus) o u.placedCount } := by
      rw [hline]
    have hlast : movedTo bus [l] (u.rehome l) = [l] := List.filter_eq_self.2 fun m hm => by
      obtain rfl := List.mem_singleton.1 hm
      exact decide_eq_true (Line.placedBus_of_placed hasg rfl)
    refine ⟨?_, hothers, fun m => ?_, fun v => ?_, fun g => ?_, fun g => ?_, ?_, hhome ?_⟩
    · rw [he, State.place_eq, h.frame]
    · by_cases e : m = l
      · rw [e, hline, h.line l]
      · rw [u.rehome_othersKept l m e]; exact h.line m
    · rw [he, State.place_bus, h.busKept v]
    · rw [he, State.place_loads, if_neg (otherBus_ne bus), h.own g]; rfl
    · rw [hloads, hlast, he, State.place_loads, if_pos rfl, h.loads g, h.pattern]
      have hload : ((u.rehome l).line l).loadOn t.pattern (otherBus bus) g = loadAt t.pattern a o g := by
        rw [Line.loadOn_of_placed t.pattern hasg rfl, if_pos rfl]; rfl
      rw [← he, List.map_singleton, List.sum_singleton, hload]
      omega
    · rw [hmoved, hlast, List.length_append, List.length_singleton, he]
      show u.placedCount + 1 = _
      rw [h.count]; omega
    · exact ⟨_, hasg, ⟨rfl, rfl, rfl, rfl, rfl, rfl⟩, .inl ⟨(h.good _).1 hmoves.1, _, rfl⟩⟩
  · have he := State.rehome_of_not_fits hau hp hmoves
    have hline : (u.rehome l).line l = { u.line l with asg := some { a with placement := .waiting, waited := 0 } } := by
      rw [he, State.joinWaiting_line, if_pos rfl]
    have hasg : ((u.rehome l).line l).asg = some { a with placement := .waiting, waited := 0 } := by rw [hline]
    have hlast : movedTo bus [l] (u.rehome l) = [] := List.filter_eq_nil_iff.2 fun m hm => by
      obtain rfl := List.mem_singleton.1 hm
      rw [Line.placedBus_of_waiting hasg rfl]
      simp
    refine ⟨?_, hothers, fun m => ?_, fun v => ?_, fun g => ?_, fun g => ?_, ?_, hhome ?_⟩
    · rw [he, h.frame]; rfl
    · by_cases e : m = l
      · rw [e, hline, h.line l]
      · rw [u.rehome_othersKept l m e]; exact h.line m
    · rw [he, State.joinWaiting_bus]; exact h.busKept v
    · rw [he, State.joinWaiting_bus]; exact h.own g
    · rw [hloads, hlast, he, State.joinWaiting_bus, h.loads g]; rfl
    · rw [hmoved, hlast, List.append_nil, he]; exact h.count
    · refine ⟨_, hasg, ⟨rfl, rfl, rfl, rfl, rfl, rfl⟩, .inr ⟨rfl, rfl, ?_⟩⟩
      rw [he, State.joinWaiting_waiting, mem_insertBy]
      exact .inl rfl

theorem rehoming_foldl (bus : Bus) (ls : List LineId) (t : State) (hls : ls.Nodup)
    (hplaced : ∀ l ∈ ls, (t.line l).placedBus = some bus) : Rehoming bus ls t (ls.foldl State.rehome t) := by
  induction ls using List.reverseRecOn with
  | nil => exact .nil bus t
  | append_singleton ls l ih =>
    obtain ⟨hls, -, hdisjoint⟩ := List.nodup_append.1 hls
    obtain ⟨a, o, n, ha, hp⟩ := Line.placedBus_eq_some_iff.1 (hplaced l (by simp))
    rw [List.foldl_append]
    exact (ih hls fun m hm => hplaced m (List.mem_append_left _ hm)).snoc (fun hm => hdisjoint l hm l (by simp) rfl) ha hp

end Rehoming

/-! ### Where each of the lines goes (R49, R53) -/

section Place

variable {bus : Bus} {ls : List LineId} {s t : State} {l : LineId} {a : Assignment} {o : Slot} {n : Nat}

/-- A state ready for the trials of the lines displaced from a bus: their assignments are as they were, in ascending
order of their placed-order numbers, and the other bus, the codes and the placed count stand. -/
structure Displaced (bus : Bus) (ls : List LineId) (s t : State) : Prop where
  nodup : ls.Nodup
  placed : ∀ m ∈ ls, (s.line m).placedBus = some bus
  ordered : ls.Pairwise fun m k => ((s.line m).placedOrderOn bus).getD 0 ≤ ((s.line k).placedOrderOn bus).getD 0
  asg : ∀ m, (t.line m).asg = (s.line m).asg
  pattern : t.pattern = s.pattern
  count : t.placedCount = s.placedCount
  other : (t.bus (otherBus bus)).status = (s.bus (otherBus bus)).status ∧
    (t.bus (otherBus bus)).budget = (s.bus (otherBus bus)).budget ∧
    (t.bus (otherBus bus)).loads = (s.bus (otherBus bus)).loads

theorem Line.placed_eq_some_iff {x : Line} {v : Bus} :
    x.placed = some (a, v, o, n) ↔ x.asg = some a ∧ a.placement = .placed v o n := by
  unfold Line.placed
  cases hx : x.asg with
  | none => simp
  | some b =>
    cases hb : b.placement with
    | waiting => 
      refine iff_of_false (by simp [hb]) ?_
      rintro ⟨e, hp⟩
      rw [Option.some.inj e, hp] at hb
      exact absurd hb nofun
    | placed v' o' n' =>
      simp only [hb, Option.some.injEq, Prod.mk.injEq]
      constructor
      · rintro ⟨rfl, rfl, rfl, rfl⟩; exact ⟨rfl, hb⟩
      · rintro ⟨rfl, hp⟩
        obtain ⟨rfl, rfl, rfl⟩ := Placement.placed.inj (hb.symm.trans hp)
        exact ⟨rfl, rfl, rfl, rfl⟩

theorem Line.placedOrderOn_of_placed {x : Line} (ha : x.asg = some a) (hp : a.placement = .placed bus o n) :
    x.placedOrderOn bus = some n := by
  unfold Line.placedOrderOn
  simp [ha, hp]

/-- The lines that moved before a line with a placed-order number of its own are those that the trials before its own
put on the other bus. -/
theorem Displaced.movedBefore_perm (h : Displaced bus ls s t) {front back : List LineId} (hls : ls = front ++ l :: back)
    (ha : (s.line l).asg = some a) (hp : a.placement = .placed bus o n)
    (hown : ∀ m, m ≠ l → (s.line m).placedOrderOn bus ≠ some n) :
    (movedBefore bus n s (ls.foldl State.rehome t)).Perm (movedTo bus front (front.foldl State.rehome t)) := by
  have hnodup := h.nodup
  have hordered := h.ordered
  rw [hls] at hnodup hordered
  obtain ⟨hfront, hback, hdisjoint⟩ := List.nodup_append.1 hnodup
  have horder := Line.placedOrderOn_of_placed ha hp
  have hkey (m : LineId) (hm : m ∈ ls) : ∃ k, (s.line m).placedOrderOn bus = some k :=
    Option.isSome_iff_exists.1 ((Line.placedOrderOn_isSome bus _).2 (h.placed m hm))
  have hline (m : LineId) (hm : m ∈ front) : (ls.foldl State.rehome t).line m = (front.foldl State.rehome t).line m := by
    rw [hls, List.foldl_append]
    exact foldl_line_of_not_mem State.rehome_othersKept (fun hb => hdisjoint m hm m hb rfl) _
  refine (List.perm_ext_iff_of_nodup (allLines_nodup.filter _) (hfront.filter _)).2 fun m => ?_
  simp only [List.mem_filter, mem_allLines, true_and, Bool.and_eq_true, decide_eq_true_eq, Option.any_eq_true]
  constructor
  · rintro ⟨⟨k, hk, hkn⟩, hmoved⟩
    by_cases hm : m ∈ ls
    · rw [hls] at hm
      rcases List.mem_append.1 hm with hm | hm
      · exact ⟨hm, hline m hm ▸ hmoved⟩
      · exfalso
        rcases List.mem_cons.1 hm with rfl | hm
        · rw [horder] at hk; have := Option.some.inj hk; omega
        · have hle := (List.pairwise_cons.1 (List.pairwise_append.1 hordered).2.1).1 m hm
          rw [horder, hk] at hle
          have hle : n ≤ k := hle
          omega
    · exfalso
      rw [foldl_line_of_not_mem State.rehome_othersKept hm t, Line.placedBus_congr (h.asg m),
        (Line.placedOrderOn_isSome bus _).1 (by rw [hk]; rfl)] at hmoved
      exact otherBus_ne bus (Option.some.inj hmoved).symm
  · rintro ⟨hm, hmoved⟩
    have hml : m ∈ ls := hls ▸ List.mem_append_left _ hm
    obtain ⟨k, hk⟩ := hkey m hml
    refine ⟨?_, by rw [hline m hm]; exact hmoved⟩
    have hle := (List.pairwise_append.1 hordered).2.2 m hm l List.mem_cons_self
    have hne : k ≠ n := fun e => hown m (fun e' => hdisjoint m hm l List.mem_cons_self e') (e ▸ hk)
    rw [horder, hk] at hle
    have hle : k ≤ n := hle
    exact ⟨k, hk, by omega⟩

theorem Displaced.rehomed (h : Displaced bus ls s t) (hl : l ∈ ls) (ha : (s.line l).asg = some a)
    (hp : a.placement = .placed bus o n) (hown : ∀ m, m ≠ l → (s.line m).placedOrderOn bus ≠ some n) :
    Rehomed bus l a o n s (ls.foldl State.rehome t) := by
  obtain ⟨front, back, hls⟩ := List.append_of_mem hl
  have hperm := h.movedBefore_perm hls ha hp hown
  have hnodup := h.nodup
  rw [hls] at hnodup
  obtain ⟨hfront, hback, hdisjoint⟩ := List.nodup_append.1 hnodup
  have hlfront : l ∉ front := fun hm => hdisjoint l hm l List.mem_cons_self rfl
  have hlback : l ∉ back := (List.nodup_cons.1 hback).1
  have hrehoming := rehoming_foldl bus front t hfront fun m hm => by
    rw [Line.placedBus_congr (h.asg m)]
    exact h.placed m (hls ▸ List.mem_append_left _ hm)
  have hline (m : LineId) (hm : m ∈ front) : (ls.foldl State.rehome t).line m = (front.foldl State.rehome t).line m := by
    rw [hls, List.foldl_append]
    exact foldl_line_of_not_mem State.rehome_othersKept (fun hb => hdisjoint m hm m hb rfl) _
  have hloads (g : Slot) : ((movedBefore bus n s (ls.foldl State.rehome t)).map fun m =>
      ((ls.foldl State.rehome t).line m).loadOn s.pattern (otherBus bus) g).sum =
        ((movedTo bus front (front.foldl State.rehome t)).map fun m =>
          ((front.foldl State.rehome t).line m).loadOn t.pattern (otherBus bus) g).sum := by
    rw [(hperm.map _).sum_eq, h.pattern]
    exact congrArg List.sum (List.map_congr_left fun m hm => by rw [hline m (List.mem_filter.1 hm).1])
  have hall : ls.foldl State.rehome t = back.foldl State.rehome ((front.foldl State.rehome t).rehome l) := by
    rw [hls, List.foldl_append]; rfl
  have hlast : (ls.foldl State.rehome t).line l = ((front.foldl State.rehome t).rehome l).line l := by
    rw [hall]; exact foldl_line_of_not_mem State.rehome_othersKept hlback _
  have hhome : WentHome bus l a o (t.Good (otherBus bus)) (ls.foldl State.rehome t) :=
    (rehoming_foldl bus ls t h.nodup fun m hm => by rw [Line.placedBus_congr (h.asg m)]; exact h.placed m hm).home l hl a o n
      ((h.asg l).trans ha) hp
  have hcount : (front.foldl State.rehome t).placedCount =
      s.placedCount + (movedBefore bus n s (ls.foldl State.rehome t)).length := by
    rw [hrehoming.count, h.count, hperm.length_eq]
  have hau : ((front.foldl State.rehome t).line l).asg = some a := by
    rw [hrehoming.others l hlfront, h.asg]; exact ha
  have hfits : ((front.foldl State.rehome t).Good (otherBus bus) ∧
      (front.foldl State.rehome t).fits a (otherBus bus) o = true) ↔
        (s.bus (otherBus bus)).status = .good ∧ ∀ g, (s.bus (otherBus bus)).loads.get g +
          ((movedBefore bus n s (ls.foldl State.rehome t)).map fun m =>
            ((ls.foldl State.rehome t).line m).loadOn s.pattern (otherBus bus) g).sum + loadAt s.pattern a o g ≤
              (s.bus (otherBus bus)).budget := by
    obtain ⟨hstatus, hbudget, hother⟩ := h.other
    refine and_congr ?_ ?_
    · rw [hrehoming.good, State.Good, hstatus]
    · rw [State.fits_iff]
      refine forall_congr' fun g => ?_
      rw [hrehoming.loads, hloads, hrehoming.busKept, hrehoming.pattern, h.pattern, hbudget, hother]
  obtain ⟨c, hc, hsame, hgoes⟩ := hhome
  refine ⟨c, hc, hsame, ?_⟩
  split
  · rename_i hmoves
    obtain ⟨hgood, hfit⟩ := hfits.2 hmoves
    have hline := State.place_line (front.foldl State.rehome t) l a (otherBus bus) o l
    rw [← State.rehome_of_fits hau hp hgood hfit, ← hlast, if_pos rfl] at hline
    rw [hline] at hc
    rw [← Option.some.inj hc, ← hcount]
  · rename_i hwaits
    have hline := State.joinWaiting_line (front.foldl State.rehome t) l a l
    rw [← State.rehome_of_not_fits hau hp fun hm => hwaits (hfits.1 hm), ← hlast, if_pos rfl] at hline
    rw [hline] at hc
    have hwaiting : c.placement = .waiting := by rw [← Option.some.inj hc]
    rcases hgoes with ⟨-, k, hk⟩ | hgoes
    · exact absurd (hwaiting.symm.trans hk) nofun
    · exact hgoes

end Place

end Sys2Proof.Machine
end

section
/-! PROOFS. A bus fault (R49): the assignments the bus carried, each on the other bus or waiting. -/

namespace Sys2Proof.Machine

/-! ### What the planner's operations leave -/

/-- Only the lines and the buses may differ. -/
def BusFrame (s t : State) : Prop :=
  t = { s with lines := t.lines, busA := t.busA, busB := t.busB }

section Frame

variable {s t u : State} {bus : Bus} {ls : List LineId}

theorem BusFrame.refl (s : State) : BusFrame s s := rfl

theorem BusFrame.trans (h : BusFrame s t) (k : BusFrame t u) : BusFrame s u :=
  have hs : ({ t with lines := u.lines, busA := u.busA, busB := u.busB } : State) =
      { s with lines := u.lines, busA := u.busA, busB := u.busB } :=
    congrArg (fun v : State => { v with lines := u.lines, busA := u.busA, busB := u.busB }) h
  Eq.trans (show u = { t with lines := u.lines, busA := u.busA, busB := u.busB } from k) hs

theorem BusFrame.codes (h : BusFrame s t) : t.codes = s.codes := by rw [BusFrame] at h; rw [h]
theorem BusFrame.placedCount (h : BusFrame s t) : t.placedCount = s.placedCount := by rw [BusFrame] at h; rw [h]

theorem BusFrame.modBus (s : State) (bus : Bus) (f : BusRecord → BusRecord) : BusFrame s (s.modBus bus f) := by
  cases bus <;> rfl

theorem BusFrame.foldl {α : Type} {f : State → α → State} (h : ∀ s a, BusFrame s (f s a)) (xs : List α) (s : State) :
    BusFrame s (xs.foldl f s) :=
  foldl_preserves (P := BusFrame s) (fun t a ht => ht.trans (h t a)) xs (.refl s)

theorem BusFrame.unload (s : State) (l : LineId) : BusFrame s (s.unload l) := by rw [s.unload_eq l]; rfl

theorem BusFrame.earlyQuench (s : State) (l : LineId) (c : CutCause) : BusFrame s (s.earlyQuench l c) := rfl

theorem BusFrame.quenchBus (s : State) (bus : Bus) : BusFrame s (s.quenchBus bus) :=
  .foldl (fun t l => by split <;> rfl) _ s

/-- A line-by-line operation that changes no bus. -/
theorem foldl_bus {α : Type} {f : State → α → State} (h : ∀ s a v, (f s a).bus v = s.bus v) (xs : List α) (s : State)
    (v : Bus) : (xs.foldl f s).bus v = s.bus v := foldl_kept (fun s : State => s.bus v) (fun s a => h s a v) xs s

theorem State.quenchBus_bus (s : State) (bus v : Bus) : (s.quenchBus bus).bus v = s.bus v := by
  refine foldl_bus (fun t l w => ?_) _ s v
  split
  · exact t.earlyQuench_bus l _ w
  · rfl

/-- What is taken off a bus leaves the other as it is. -/
theorem State.unloadAll_bus_ne (hls : ∀ l ∈ ls, (s.line l).placedBus = some bus) {v : Bus} (hne : v ≠ bus) :
    (ls.foldl State.unload s).bus v = s.bus v := by
  induction ls generalizing s with
  | nil => rfl
  | cons l ls ih =>
    have hloads : ((s.unload l).bus v).loads = (s.bus v).loads := by
      refine Vector.ext fun i hi => ?_
      have hload := s.unload_loads l v ⟨i, hi⟩
      rw [Line.loadOn_of_unplaced _ v _ (by
        rw [hls l List.mem_cons_self]; exact fun e => hne (Option.some.inj e).symm), Nat.sub_zero] at hload
      exact hload
    have hline (m : LineId) : (s.unload l).line m = s.line m := by rw [s.unload_eq l]; rfl
    rw [List.foldl_cons, ih fun m hm => by rw [hline]; exact hls m (List.mem_cons_of_mem l hm), s.unload_bus l v, hloads]

theorem LoadSums.of_asg {out : List LineId} (h : LoadSums out s) (hloads : ∀ v, (t.bus v).loads = (s.bus v).loads)
    (hpattern : t.pattern = s.pattern) (hasg : ∀ l, (t.line l).asg = (s.line l).asg) : LoadSums out t := fun v g => by
  rw [hloads v, h v g]
  exact Finset.sum_congr rfl fun m _ => (State.carried_eq_of_line hpattern (hasg m) .rfl v g).symm

theorem Line.earlyQuench_relay (c : CutCause) (x : Line) : (x.earlyQuench c).relay =
    if x.Driven then { x.relay with phase := .quench, quenchKind := some .early, timer := some 30 } else x.relay := by
  rcases Line.earlyQuench_cases c x with ⟨h, e⟩ | ⟨h, e⟩ | ⟨h, e⟩ <;> rw [e]
  · rw [if_pos (.inl h)]
  · rw [if_pos (.inr h)]
  · rw [if_neg (by rw [Line.Driven]; rcases h with h | h <;> rw [h] <;> decide)]

theorem Line.earlyQuench_record (c : CutCause) (x : Line) : (x.earlyQuench c).record = x.record := by
  rcases Line.earlyQuench_cases c x with ⟨-, e⟩ | ⟨-, e⟩ | ⟨-, e⟩ <;> rw [e]

end Frame

/-! ### The state in which the displaced assignments are tried -/

section Fault

variable (s : State) (bus : Bus)

/-- A FAULTED bus with its bursts cut and its assignments taken off. -/
def State.cleared : State :=
  (((s.setStatus bus .faulted).quenchBus bus).linesOn bus).foldl State.unload ((s.setStatus bus .faulted).quenchBus bus)

theorem faultTaken_eq : faultTaken bus s =
    ((((s.setStatus bus .faulted).quenchBus bus).linesOn bus).foldl State.rehome (s.cleared bus)).reportBus bus := rfl

theorem State.cleared_line (l : LineId) : (s.cleared bus).line l =
    if (s.line l).relay.busSelect = some bus then (s.line l).earlyQuench .busFault else s.line l := by
  rw [State.cleared, State.unloadAll_line, State.quenchBus_line, State.setStatus_line]

theorem State.cleared_asg (l : LineId) : ((s.cleared bus).line l).asg = (s.line l).asg := by
  rw [State.cleared_line]
  split
  · exact Line.earlyQuench_asg _ _
  · rfl

theorem BusFrame.cleared : BusFrame s (s.cleared bus) :=
  ((BusFrame.modBus s bus _).trans (.quenchBus _ bus)).trans (.foldl .unload _ _)

theorem State.mem_faultedLines (l : LineId) :
    l ∈ ((s.setStatus bus .faulted).quenchBus bus).linesOn bus ↔ (s.line l).placedBus = some bus := by
  rw [State.mem_linesOn, Line.placedBus_of_ticket ((PlanKept.quenchBus _ bus).ticket l), State.setStatus_line]

theorem State.cleared_bus (v : Bus) : (s.cleared bus).bus v =
    if v = bus then { s.bus v with status := .faulted, filterTimer := none, loads := ((s.cleared bus).bus v).loads }
    else s.bus v := by
  have hbus : ((s.setStatus bus .faulted).quenchBus bus).bus v =
      if v = bus then { s.bus v with status := .faulted, filterTimer := none } else s.bus v := by
    rw [State.quenchBus_bus, State.setStatus_bus]
  split
  · rename_i e
    rw [if_pos e] at hbus
    have hall := State.unloadAll_bus (((s.setStatus bus .faulted).quenchBus bus).linesOn bus)
      ((s.setStatus bus .faulted).quenchBus bus) v
    rw [hbus] at hall
    exact hall
  · rename_i e
    rw [if_neg e] at hbus
    rw [State.cleared, State.unloadAll_bus_ne (fun l hl => (State.mem_linesOn _ _ _).1 hl) e, hbus]

theorem State.cleared_displaced :
    Displaced bus (((s.setStatus bus .faulted).quenchBus bus).linesOn bus) s (s.cleared bus) where
  nodup := State.linesOn_nodup _ bus
  placed m hm := (s.mem_faultedLines bus m).1 hm
  ordered := by
    have horder (m : LineId) : (((s.setStatus bus .faulted).quenchBus bus).line m).placedOrderOn bus =
        (s.line m).placedOrderOn bus := by
      refine Line.placedOrderOn_congr ?_ bus
      rw [State.quenchBus_line, State.setStatus_line]
      split
      · exact Line.earlyQuench_asg _ _
      · rfl
    have hsorted := sortBy_pairwise (fun m => ((((s.setStatus bus .faulted).quenchBus bus).line m).placedOrderOn bus).getD 0)
      (allLines.filter fun m => ((((s.setStatus bus .faulted).quenchBus bus).line m).placedOrderOn bus).isSome)
    simp only [horder] at hsorted
    unfold State.linesOn
    simp only [horder]
    exact hsorted
  asg := s.cleared_asg bus
  pattern := State.pattern_congr (BusFrame.cleared s bus).codes
  count := (BusFrame.cleared s bus).placedCount
  other := by rw [State.cleared_bus, if_neg (otherBus_ne bus)]; exact ⟨rfl, rfl, rfl⟩

theorem State.cleared_loads (h : LoadLaw s) (g : Slot) : ((s.cleared bus).bus bus).loads.get g = 0 := by
  have hsums : LoadSums [] ((s.setStatus bus .faulted).quenchBus bus) := by
    refine ((loadLaw_iff s).1 h).1.of_asg (fun v => ?_) (State.pattern_congr ?_) fun l => ?_
    · rw [State.quenchBus_bus, State.setStatus_bus]; split <;> rfl
    · exact (BusFrame.quenchBus _ bus).codes.trans (s.modBus_codes bus _)
    · rw [State.quenchBus_line, State.setStatus_line]
      split
      · exact Line.earlyQuench_asg _ _
      · rfl
  refine (hsums.unloadAll (State.linesOn_nodup _ bus) fun _ _ => List.not_mem_nil).eq_zero (fun l hl => ?_) g
  rw [State.unloadAll_line] at hl
  rw [List.append_nil, List.mem_reverse, State.mem_linesOn]
  exact hl

end Fault

/-! ### The fault reported (R31, R49) -/

section Report

variable {s t : State} {bus : Bus}

theorem State.reportBus_line (l : LineId) : (s.reportBus bus).line l = s.line l := by
  rw [State.reportBus_eq]
  split
  · exact State.queueReport_line _ _ _
  · exact State.modBus_line _ _ _ _

theorem State.reportBus_bus (v : Bus) : (s.reportBus bus).bus v =
    { s.bus v with stateLatch := ((s.reportBus bus).bus v).stateLatch } := by
  rw [State.reportBus_eq]
  split
  · rw [State.queueReport_bus]
  · rw [State.modBus_bus]
    split <;> rfl

theorem State.reportBus_planner : (s.reportBus bus).waiting = s.waiting ∧ (s.reportBus bus).placedCount = s.placedCount := by
  rw [State.reportBus_eq]
  split
  · rw [State.queueReport_eq]; exact ⟨rfl, rfl⟩
  · cases bus <;> exact ⟨rfl, rfl⟩

theorem State.reportBus_frame : s.reportBus bus =
    { s with busA := (s.reportBus bus).busA, busB := (s.reportBus bus).busB, reports := (s.reportBus bus).reports } := by
  rw [State.reportBus_eq]
  split
  · rw [State.queueReport_eq]
  · cases bus <;> rfl

theorem State.reportBus_told (h : s.reports.enables.busState = true) :
    (s.reportBus bus).reports.queue = queueWith s.reports.queue (.busState bus (s.bus bus).status) ∧
      ((s.reportBus bus).bus bus).stateLatch = (s.bus bus).stateLatch := by
  rw [State.reportBus_eq, if_pos h, State.queueReport_bus]
  exact ⟨State.queueReport_queue _ _, rfl⟩

theorem State.reportBus_latched (h : s.reports.enables.busState = false) :
    (s.reportBus bus).reports = s.reports ∧ ((s.reportBus bus).bus bus).stateLatch = true := by
  rw [State.reportBus_eq, if_neg (by simp [h])]
  exact ⟨s.modBus_reports bus _, by rw [State.modBus_bus, if_pos rfl]⟩

/-- Where an assignment goes is read from the lines and the waiting list. -/
theorem Rehomed.congr {u : State} {l : LineId} {a : Assignment} {o : Slot} {n : Nat} (h : Rehomed bus l a o n s t)
    (hline : ∀ m, u.line m = t.line m) (hwaiting : u.waiting = t.waiting) : Rehomed bus l a o n s u := by
  have hmoved : movedBefore bus n s u = movedBefore bus n s t := by simp only [movedBefore, hline]
  unfold Rehomed at h ⊢
  simp only [hmoved, hline, hwaiting]
  exact h

/-- After its trial a line's assignment is not on the bus. -/
theorem Rehoming.leaves {ls : List LineId} (h : Rehoming bus ls s t) {l : LineId} (hl : l ∈ ls)
    (hplaced : (s.line l).placedBus = some bus) : (t.line l).placedBus ≠ some bus := by
  obtain ⟨a, o, n, ha, hp⟩ := Line.placedBus_eq_some_iff.1 hplaced
  obtain ⟨c, hc, -, hgoes⟩ := h.home l hl a o n ha hp
  rcases hgoes with ⟨-, k, hk⟩ | ⟨hk, -⟩
  · rw [Line.placedBus_of_placed hc hk]
    exact fun e => otherBus_ne bus (Option.some.inj e)
  · rw [Line.placedBus_of_waiting hc hk]; nofun

/-- After the trials of all its lines no assignment is on the bus. -/
theorem Rehoming.left {ls : List LineId} (h : Rehoming bus ls s t) (hall : ∀ l, l ∈ ls ↔ (s.line l).placedBus = some bus)
    (l : LineId) : (t.line l).placedBus ≠ some bus := by
  by_cases hl : l ∈ ls
  · exact h.leaves hl ((hall l).1 hl)
  · rw [h.others l hl]
    exact fun e => hl ((hall l).2 e)

/-- Settles O33. The assignments taken off the bus are tried one after the other (`Rehoming`, `Displaced.rehomed`). -/
theorem busFaultDisplacesItsAssignments : Obligations.BusFaultDisplacesItsAssignments := by
  unfold Obligations.BusFaultDisplacesItsAssignments
  intro bus s hgood htimer
  have hexec : exec (.busFault bus) s = .next (faultTaken bus s) := congrArg Host.Outcome.next (if_pos ⟨hgood, htimer⟩)
  have hdisplaced := s.cleared_displaced bus
  have hmem := s.mem_faultedLines bus
  have hline := s.cleared_line bus
  have hasg := s.cleared_asg bus
  have hbus := s.cleared_bus bus
  have hzero := s.cleared_loads bus
  have hframe := BusFrame.cleared s bus
  rw [faultTaken_eq] at hexec
  generalize ((s.setStatus bus .faulted).quenchBus bus).linesOn bus = ls at hexec hdisplaced hmem
  generalize s.cleared bus = u at *
  have hrehomed (l : LineId) (a : Assignment) (o : Slot) (n : Nat) := hdisplaced.rehomed (l := l) (a := a) (o := o) (n := n)
  have hrehoming := rehoming_foldl bus ls u hdisplaced.nodup fun m hm => by
    rw [Line.placedBus_congr (hasg m)]; exact (hmem m).1 hm
  generalize ls.foldl State.rehome u = v at hexec hrehomed hrehoming
  have hrelay (l : LineId) : ((v.reportBus bus).line l).relay = (if (s.line l).relay.busSelect = some bus then
      (s.line l).earlyQuench .busFault else s.line l).relay := by
    rw [State.reportBus_line, hrehoming.line l, hline]
  have hvbus : v.bus bus = { s.bus bus with status := .faulted, filterTimer := none, loads := (v.bus bus).loads } := by
    rw [hrehoming.busKept bus, hbus, if_pos rfl]
  have henables : v.reports.enables = s.reports.enables := by rw [hrehoming.frame, hframe]
  have hreports : v.reports = s.reports := by rw [hrehoming.frame, hframe]
  refine ⟨_, hexec, ?_, ?_, ?_, ?_, fun h g => ?_, fun l => ?_, fun l hl => ?_, fun l hl => ?_, fun l hl => ?_,
    fun l a w o n hp he => ?_, fun l a w o n hp he hown => ?_, fun h => ?_, fun h => ?_, fun l => ?_, ?_⟩
  · rw [State.reportBus_bus, hvbus]
  · rw [State.reportBus_bus, hvbus]
  · rw [State.reportBus_bus, hvbus]
  · rw [State.reportBus_bus, hrehoming.busKept, hbus, if_neg (otherBus_ne bus)]
  · rw [State.reportBus_bus, hrehoming.own]; exact hzero h g
  · rw [State.reportBus_line]
    exact hrehoming.left (fun k => by rw [Line.placedBus_congr (hasg k)]; exact hmem k) l
  · rw [hrelay, if_pos hl, Line.earlyQuench_relay, if_pos ((RelayRecord.busSelect_iff _ _).1 hl).1]
  · rw [hrelay, if_neg hl]
  · rw [State.reportBus_line, hrehoming.others l fun hm => hl ((hmem l).1 hm), hasg]
  · obtain ⟨ha, hplaced⟩ := Line.placed_eq_some_iff.1 hp
    subst he
    obtain ⟨c, hc, hsame, hgoes⟩ := hrehoming.home l ((hmem l).2 (Line.placedBus_of_placed ha hplaced)) a o n
      ((hasg l).trans ha) hplaced
    refine ⟨c, by rw [State.reportBus_line]; exact hc, hsame, hgoes.imp And.right ?_⟩
    rw [State.reportBus_planner.1]
    exact id
  · obtain ⟨ha, hplaced⟩ := Line.placed_eq_some_iff.1 hp
    subst he
    exact (hrehomed l a o n ((hmem l).2 (Line.placedBus_of_placed ha hplaced)) ha hplaced hown).congr
      (fun m => State.reportBus_line m) State.reportBus_planner.1
  · have htold := State.reportBus_told (s := v) (bus := bus) (henables ▸ h)
    rw [hvbus, hreports] at htold
    exact htold
  · have hlatched := State.reportBus_latched (s := v) (bus := bus) (henables ▸ h)
    exact ⟨hlatched.1.trans hreports, hlatched.2⟩
  · rw [State.callState, State.reportBus_line, hrehoming.line l, hline]
    split
    · exact congrArg LineRecord.callState (Line.earlyQuench_record _ _)
    · rfl
  · have hreported := State.reportBus_frame (s := v) (bus := bus)
    generalize v.reportBus bus = w at hreported ⊢
    rw [hreported, hrehoming.frame, hframe]

end Report

end Sys2Proof.Machine
end

section
/-! PROOFS. SET_BUS (R52, R53): the assignments a lowered budget takes off a bus, and where they go. -/

namespace Sys2Proof.Machine

section Shed

variable {s : State} {bus : Bus} {n : Nat}

/-- A bus with its new budget. -/
def State.budgeted (s : State) (bus : Bus) (n : Nat) : State := s.modBus bus fun r => { r with budget := n }

theorem State.budgeted_line (l : LineId) : (s.budgeted bus n).line l = s.line l := State.modBus_line _ _ _ _

theorem State.budgeted_bus (v : Bus) :
    (s.budgeted bus n).bus v = if v = bus then { s.bus v with budget := n } else s.bus v := s.modBus_bus bus _ v

theorem State.linesOn_congr {t : State} (h : ∀ l, t.line l = s.line l) (bus : Bus) : t.linesOn bus = s.linesOn bus := by
  unfold State.linesOn
  simp only [h]

/-- What a lowered budget takes off a bus, the newest first: the lines `pre` of those the bus carries, in descending
order of their placed-order numbers, and the state in which they are tried on the other bus. -/
structure ShedOff (s : State) (bus : Bus) (n : Nat) (pre post : List LineId) (u : State) : Prop where
  split : s.linesOn bus = post.reverse ++ pre.reverse
  result : (s.budgeted bus n).shedBus bus = pre.reverse.foldl State.rehome u
  line : ∀ m, u.line m = if m ∈ pre then (s.line m).earlyQuench .budget else s.line m
  busKept : ∀ v, u.bus v = if v = bus then { s.bus v with budget := n, loads := (u.bus v).loads } else s.bus v
  frame : BusFrame s u
  loads : u.bus bus = (pre.foldl State.unload (s.budgeted bus n)).bus bus
  ended : post = [] ∨ (u.bus bus).peak ≤ n
  need : ∀ front m back, pre = front ++ m :: back →
    n < ((front.foldl State.unload (s.budgeted bus n)).bus bus).peak

theorem State.shedOff (s : State) (bus : Bus) (n : Nat) : ∃ pre post u, ShedOff s bus n pre post u := by
  obtain ⟨pre, post, hsplit, hshed, hend, hneed⟩ := shed_eq bus ((s.budgeted bus n).linesOn bus).reverse (s.budgeted bus n)
  have hbudget : ((s.budgeted bus n).bus bus).budget = n := by rw [State.budgeted_bus, if_pos rfl]
  have hlines := State.linesOn_congr (fun l => s.budgeted_line (bus := bus) (n := n) l) bus
  have hplaced (l : LineId) (hl : l ∈ pre) : ((s.budgeted bus n).line l).placedBus = some bus :=
    (State.mem_linesOn _ _ _).1 (List.mem_reverse.1 (hsplit ▸ List.mem_append_left post hl))
  have hpre : pre.Nodup := by
    have hnodup : (pre ++ post).Nodup := hsplit ▸ List.nodup_reverse.2 (State.linesOn_nodup _ bus)
    exact (List.nodup_append.1 hnodup).1
  have hcut (v : Bus) := foldl_bus (f := fun t l => t.earlyQuench l .budget) (fun t l w => t.earlyQuench_bus l .budget w) pre
    (pre.foldl State.unload (s.budgeted bus n)) v
  refine ⟨pre, post, pre.foldl (fun t l => t.earlyQuench l .budget) (pre.foldl State.unload (s.budgeted bus n)),
    ⟨?_, ?_, fun m => ?_, fun v => ?_, ?_, hcut bus, ?_, ?_⟩⟩
  · rw [← hlines, ← List.reverse_append, ← hsplit, List.reverse_reverse]
  · unfold State.shedBus
    rw [hshed]
  · rw [earlyQuenchAll_line .budget hpre, State.unloadAll_line, State.budgeted_line]
  · rw [hcut v]
    by_cases e : v = bus
    · have hall := State.unloadAll_bus pre (s.budgeted bus n) v
      rw [State.budgeted_bus, if_pos e] at hall
      rw [if_pos e]
      exact hall
    · rw [if_neg e, State.unloadAll_bus_ne hplaced e, State.budgeted_bus, if_neg e]
  · exact ((BusFrame.modBus s bus _).trans (.foldl .unload pre _)).trans (.foldl (fun t l => .earlyQuench t l .budget) pre _)
  · rw [hbudget] at hend; rw [hcut bus]; exact hend
  · simpa only [hbudget] using hneed

end Shed

section SetBus

variable {s u : State} {bus : Bus} {n : Nat} {pre post : List LineId}

theorem ShedOff.mem (h : ShedOff s bus n pre post u) (l : LineId) : (s.line l).placedBus = some bus ↔ l ∈ post ∨ l ∈ pre := by
  rw [← State.mem_linesOn, h.split, List.mem_append, List.mem_reverse, List.mem_reverse]

theorem ShedOff.ordered (h : ShedOff s bus n pre post u) : (post.reverse ++ pre.reverse).Pairwise fun m k =>
    ((s.line m).placedOrderOn bus).getD 0 ≤ ((s.line k).placedOrderOn bus).getD 0 := by
  rw [← h.split]
  exact sortBy_pairwise _ _

theorem ShedOff.nodup (h : ShedOff s bus n pre post u) : (post.reverse ++ pre.reverse).Nodup := by
  rw [← h.split]
  exact s.linesOn_nodup bus

theorem ShedOff.asg (h : ShedOff s bus n pre post u) (m : LineId) : (u.line m).asg = (s.line m).asg := by
  rw [h.line m]
  split
  · exact Line.earlyQuench_asg _ _
  · rfl

theorem ShedOff.displaced (h : ShedOff s bus n pre post u) : Displaced bus pre.reverse s u where
  nodup := (List.nodup_append.1 h.nodup).2.1
  placed m hm := (h.mem m).2 (.inr (List.mem_reverse.1 hm))
  ordered := (List.pairwise_append.1 h.ordered).2.1
  asg := h.asg
  pattern := State.pattern_congr h.frame.codes
  count := h.frame.placedCount
  other := by rw [h.busKept, if_neg (otherBus_ne bus)]; exact ⟨rfl, rfl, rfl⟩

theorem ShedOff.rehoming (h : ShedOff s bus n pre post u) :
    Rehoming bus pre.reverse u ((s.budgeted bus n).shedBus bus) := by
  rw [h.result]
  refine rehoming_foldl bus _ u h.displaced.nodup fun m hm => ?_
  rw [Line.placedBus_congr (h.asg m)]
  exact h.displaced.placed m hm

/-- Within its budget the bus keeps all it carries (R53). -/
theorem State.shedBus_of_within {t : State} (h : (t.bus bus).peak ≤ (t.bus bus).budget) : t.shedBus bus = t := by
  have hshed (ls : List LineId) : shed bus ls t = ([], t) := by
    cases ls with
    | nil => rfl
    | cons l ls => exact if_pos h
  unfold State.shedBus
  rw [hshed]
  rfl

theorem ShedOff.sums (h : LoadLaw s) : LoadSums [] (s.budgeted bus n) := by
  refine ((loadLaw_iff s).1 h).1.of_asg (fun v => ?_) (State.pattern_congr (s.modBus_codes bus _)) fun l => ?_
  · rw [State.budgeted_bus]; split <;> rfl
  · rw [State.budgeted_line]

/-- What is left on the bus is within the budget. -/
theorem ShedOff.peak_le (h : ShedOff s bus n pre post u) (hs : LoadLaw s) : (u.bus bus).peak ≤ n := by
  rcases h.ended with hnil | hpeak
  · refine BusRecord.peak_le fun g => ?_
    have hzero : ((pre.foldl State.unload (s.budgeted bus n)).bus bus).loads.get g = 0 := by
      refine ((ShedOff.sums hs).unloadAll (List.nodup_reverse.1 h.displaced.nodup) fun _ _ => List.not_mem_nil).eq_zero
        (fun l hl => ?_) g
      rw [State.unloadAll_line, State.budgeted_line] at hl
      have hl := (h.mem l).1 hl
      rw [hnil] at hl
      simpa using hl
    rw [h.loads, hzero]
    exact Nat.zero_le _
  · exact hpeak

/-- The lines on the bus that were not taken off before a line are not younger than it. -/
theorem ShedOff.order_le (h : ShedOff s bus n pre post u) {front back : List LineId} {l m : LineId}
    (hsplit : pre = front ++ l :: back) (hm : m ∈ post ∨ m ∈ pre) (hfront : m ∉ front) :
    ((s.line m).placedOrderOn bus).getD 0 ≤ ((s.line l).placedOrderOn bus).getD 0 := by
  have hordered := h.ordered
  rw [hsplit, List.reverse_append, List.reverse_cons, List.pairwise_append, List.pairwise_append,
    List.pairwise_append] at hordered
  obtain ⟨-, ⟨⟨-, -, hback⟩, -, -⟩, hpost⟩ := hordered
  rcases hm with hm | hm
  · exact hpost m (List.mem_reverse.2 hm) l (by simp)
  · rw [hsplit, List.mem_append, List.mem_cons] at hm
    rcases hm with hm | rfl | hm
    · exact absurd hm hfront
    · exact le_refl _
    · exact hback m (List.mem_reverse.2 hm) l (by simp)

/-- A younger assignment than one that is taken off is off the bus as well. -/
theorem ShedOff.younger (h : ShedOff s bus n pre post u) {l m : LineId} (hl : l ∈ pre) (hm : m ∈ post ∨ m ∈ pre)
    (hlt : ((s.line l).placedOrderOn bus).getD 0 < ((s.line m).placedOrderOn bus).getD 0) : m ∈ pre := by
  rcases hm with hm | hm
  · have hle := (List.pairwise_append.1 h.ordered).2.2 m (List.mem_reverse.2 hm) l (List.mem_reverse.2 hl)
    omega
  · exact hm

/-- No assignment is taken off without need: with it and those older than it, some slot is over the budget (R53). -/
theorem ShedOff.needed (h : ShedOff s bus n pre post u) (hs : LoadLaw s) {l : LineId} (hl : l ∈ pre) {k : Nat}
    (hk : (s.line l).placedOrderOn bus = some k) : ∃ g, n < (allLines.map fun m =>
      if ((s.line m).placedOrderOn bus).any (· ≤ k) then (s.line m).loadOn s.pattern bus g else 0).sum := by
  obtain ⟨front, back, hsplit⟩ := List.append_of_mem hl
  have hpeak := h.need front l back hsplit
  have hover : ∃ g, n < ((front.foldl State.unload (s.budgeted bus n)).bus bus).loads.get g := by
    by_contra hno
    push Not at hno
    exact absurd (BusRecord.peak_le hno) (Nat.not_le_of_lt hpeak)
  obtain ⟨g, hg⟩ := hover
  have hnodup : front.Nodup := by
    have hpre := List.nodup_reverse.1 h.displaced.nodup
    rw [hsplit] at hpre
    exact (List.nodup_append.1 hpre).1
  have hsum := (ShedOff.sums (bus := bus) (n := n) hs).unloadAll hnodup (fun _ _ => List.not_mem_nil) bus g
  refine ⟨g, Nat.lt_of_lt_of_le (hsum ▸ hg) ?_⟩
  rw [sum_allLines]
  refine Finset.sum_le_sum fun m _ => ?_
  have hline : (front.foldl State.unload (s.budgeted bus n)).line m = s.line m := by
    rw [State.unloadAll_line, State.budgeted_line]
  have hpattern : (front.foldl State.unload (s.budgeted bus n)).pattern = s.pattern := by
    refine State.pattern_congr ?_
    rw [State.unloadAll_eq]
    exact s.modBus_codes bus _
  unfold State.carried
  rw [hline, hpattern, List.append_nil]
  by_cases hm : m ∈ front
  · rw [if_pos (List.mem_reverse.2 hm)]; exact Nat.zero_le _
  · rw [if_neg (by rw [List.mem_reverse]; exact hm)]
    by_cases hp : (s.line m).placedBus = some bus
    · obtain ⟨j, hj⟩ := Option.isSome_iff_exists.1 ((Line.placedOrderOn_isSome bus _).2 hp)
      have hle := h.order_le hsplit ((h.mem m).1 hp) hm
      rw [hj, hk] at hle
      rw [if_pos (by rw [hj]; simpa using hle)]
    · rw [Line.loadOn_of_unplaced _ _ _ hp]; exact Nat.zero_le _

/-- Settles O31. -/
theorem setBusStoresAndSheds : Obligations.SetBusStoresAndSheds := by
  unfold Obligations.SetBusStoresAndSheds
  intro bus b budget s
  have hexec (r : State) (hr : (s.budgeted bus (min 60 budget.toNat)).shedBus bus = r)
      (hbudget : (r.bus bus).budget = min 60 budget.toNat) : exec (.setBus (busByte bus) budget) s =
        .next (reply 0xA1 ⟨r, .ok, [busByte bus, byteOf (min 60 budget.toNat)]⟩) := by
    subst hr
    refine congrArg Host.Outcome.next (congrArg (reply 0xA1) ?_)
    unfold setBusAnswer
    rw [readBus_busByte]
    show (⟨_, _, [busByte bus, byteOf (((s.budgeted bus (min 60 budget.toNat)).shedBus bus).bus bus).budget]⟩ : Answer) = _
    rw [hbudget]
    rfl
  obtain ⟨pre, post, u, h⟩ := s.shedOff bus (min 60 budget.toNat)
  have hrehoming := h.rehoming
  have hrehomed (l : LineId) (a : Assignment) (o : Slot) (n : Nat) := h.displaced.rehomed (l := l) (a := a) (o := o) (n := n)
  rw [← h.result] at hrehomed
  have hbudget : (((s.budgeted bus (min 60 budget.toNat)).shedBus bus).bus bus).budget = min 60 budget.toNat := by
    rw [hrehoming.busKept, h.busKept, if_pos rfl]
  have hshed := hexec _ rfl hbudget
  have hstays (l : LineId) (hl : l ∉ pre) :
      (((s.budgeted bus (min 60 budget.toNat)).shedBus bus).line l).asg = (s.line l).asg := by
    rw [hrehoming.others l (by rw [List.mem_reverse]; exact hl), h.asg]
  have hleaves (l : LineId) (hl : l ∈ pre) := hrehoming.leaves (List.mem_reverse.2 hl)
    ((Line.placedBus_congr (h.asg l)).trans ((h.mem l).2 (.inr hl)))
  have hundriven (l : LineId) (hl : l ∈ pre) :
      ¬(((s.budgeted bus (min 60 budget.toNat)).shedBus bus).line l).Driven := by
    have hcut := Line.earlyQuench_undriven .budget (s.line l)
    rw [hrehoming.line l, h.line, if_pos hl]
    exact hcut
  have hplacement (l : LineId) (a : Assignment) (hl : l ∈ pre) (ha : (s.line l).asg = some a) :
      ∃ o n, a.placement = .placed bus o n := by
    obtain ⟨b, o, n, hb, hp⟩ := Line.placedBus_eq_some_iff.1 ((h.mem l).2 (.inr hl))
    exact ⟨o, n, Option.some.inj (hb.symm.trans ha) ▸ hp⟩
  refine ⟨fun hb => ?badBus, fun hpeak => ?within, _, hshed, hbudget, ?status, fun hs => ?peak, fun l a ha => ?same,
    fun l a v o n hp hv => ?lines, fun l => ?state, ?frame⟩
  case badBus =>
    refine congrArg Host.Outcome.next (congrArg (reply 0xA1) ?_)
    unfold setBusAnswer
    rw [readBus_of_gt hb]
    rfl
  case within =>
    refine hexec (s.budgeted bus _) (State.shedBus_of_within ?_) ?_ <;> rw [State.budgeted_bus, if_pos rfl]
    exact hpeak
  case status => rw [hrehoming.busKept, h.busKept, if_pos rfl]
  case peak =>
    refine BusRecord.peak_le fun g => ?_
    rw [hrehoming.own]
    exact (BusRecord.le_peak _ g).trans (h.peak_le hs)
  case same =>
    by_cases hl : l ∈ pre
    · obtain ⟨o, n, hp⟩ := hplacement l a hl ha
      obtain ⟨c, hc, hsame, -⟩ := hrehoming.home l (List.mem_reverse.2 hl) a o n ((h.asg l).trans ha) hp
      exact ⟨c, hc, hsame⟩
    · exact ⟨a, by rw [hstays l hl]; exact ha, rfl, rfl, rfl, rfl, rfl, rfl⟩
  case lines =>
    obtain ⟨ha, hplaced⟩ := Line.placed_eq_some_iff.1 hp
    subst hv
    have horder := Line.placedOrderOn_of_placed ha hplaced
    by_cases hl : l ∈ pre
    · have hl' := List.mem_reverse.2 hl
      obtain ⟨c, hc, -, hgoes⟩ := hrehoming.home l hl' a o n ((h.asg l).trans ha) hplaced
      refine .inr ⟨hleaves l hl, ?_, ?_, fun c' w p m hp' => ?_, fun c' hc' hwaits => ?_, fun hown => ?_,
        fun m c' w p k hp' hw hlt => ?_, fun hs => h.needed hs hl horder⟩
      · exact fun e => hundriven l hl (.inl e)
      · exact fun e => hundriven l hl (.inr e)
      · obtain ⟨hc', hp'⟩ := Line.placed_eq_some_iff.1 hp'
        obtain rfl := Option.some.inj (hc.symm.trans hc')
        rcases hgoes with ⟨hgood, j, hj⟩ | ⟨hw, -⟩
        · obtain ⟨-, rfl, -⟩ := Placement.placed.inj (hj.symm.trans hp')
          exact ⟨rfl, h.displaced.other.1 ▸ hgood⟩
        · exact absurd (hw.symm.trans hp') nofun
      · obtain rfl := Option.some.inj (hc.symm.trans hc')
        rcases hgoes with ⟨-, j, hj⟩ | ⟨-, hw, hm⟩
        · exact absurd (hwaits.symm.trans hj) nofun
        · exact ⟨hw, hm⟩
      · exact hrehomed l a o n hl' ha hplaced hown
      · obtain ⟨hc', hp'⟩ := Line.placed_eq_some_iff.1 hp'
        subst hw
        refine hleaves m (h.younger hl ((h.mem m).1 (Line.placedBus_of_placed hc' hp')) ?_)
        rw [horder, Line.placedOrderOn_of_placed hc' hp']
        exact hlt
    · exact .inl (by rw [hstays l hl]; exact ha)
  case state =>
    rw [State.callState, hrehoming.line l, h.line]
    split
    · exact congrArg LineRecord.callState (Line.earlyQuench_record _ _)
    · rfl
  case frame =>
    have hframe := hrehoming.frame
    have hcut := h.frame
    generalize (s.budgeted bus (min 60 budget.toNat)).shedBus bus = w at hframe ⊢
    rw [hframe, hcut]

end SetBus

end Sys2Proof.Machine
end

section
/-! PROOFS. The replies to the link's commands (R163, R169, R171, R173): every command has one, of its own kind, and it
fits in a frame. -/

namespace Sys2Proof.Machine

/-! ### No command touches the link before its reply is built -/

section LinkKept

variable (s : State) (l : LineId)

theorem pollFill_link (n room : Nat) : (pollFill n room s).2.2.link = s.link := by
  induction n generalizing room s with
  | zero => rfl
  | succ n ih =>
    cases hq : s.reports.queue with
    | nil =>
      have hnone : pollFill (n + 1) room s = ([], 0, s) := by rw [pollFill, hq]
      rw [hnone]
    | cons r rest =>
      by_cases hroom : reportSize s.dialOf r ≤ room
      · rw [pollFill_cons hq hroom]
        refine (ih _ _).trans ?_
        rw [State.serveFirst, State.serve_eq]
      · rw [pollFill_of_full hq hroom]

theorem State.recompute_link : (s.recompute l).link = s.link :=
  (reportIfChanged_scheduleKept l s _).link

theorem setParametersAccepted_link (mask : DByte) (values : Vector DByte 13) :
    (setParametersAccepted mask values s).link = s.link := by
  unfold setParametersAccepted
  dsimp only
  split
  · exact foldl_kept State.link State.recompute_link allLines _
  · rfl

theorem configureState_link (unequip : Bool) : (configureState l unequip s).link = s.link := by
  have hunequips (t : State) : (((t.emptyDigits l).modScan l ScannerRecord.freeze).setCallState l .unequipped).link = t.link :=
    (t.emptyDigits_scheduleKept l).link
  unfold configureState
  split
  · split
    · rfl
    · dsimp only
      split
      · rw [State.queueReport_link]; rfl
      · rfl
  · split
    · exact (hunequips _).trans (s.abortJobs_scheduleKept l).link
    · rfl
  · split
    · exact hunequips s
    · rfl
  · rfl

theorem configureAccepted_link (tip ring : Nat) (mode : DialMode) (n : Nat) (ps : List Party) :
    (configureAccepted l tip ring mode n ps s).link = s.link :=
  ((State.arbitrate_link _).trans (reportIfChanged_scheduleKept l s _).link).trans (configureState_link _ l ps.isEmpty)

theorem blockAccepted_link : (blockAccepted l s).link = s.link := by
  by_cases hb : s.callState l = .blocked
  · rw [blockAccepted_of_blocked hb]
  · rw [blockAccepted_eq hb, State.arbitrate_link]
    refine Eq.trans ?_ (s.removeAssignment_fixedKept l .removal).link
    exact (State.emptyDigits_scheduleKept _ l).link.trans (State.abortJobs_scheduleKept _ l).link

theorem unblockAccepted_link : (unblockAccepted l s).link = s.link := by
  unfold unblockAccepted
  dsimp only
  rw [State.arbitrate_link]
  split
  · rw [State.queueReport_link]; rfl
  · rfl

theorem testLineAccepted_link : (testLineAccepted l s).link = s.link := by
  unfold testLineAccepted
  split
  · rfl
  · rw [State.arbitrate_link]; rfl

theorem setBusAccepted_link (bus : Bus) (n : Nat) : (setBusAccepted bus n s).link = s.link := by
  obtain ⟨pre, post, u, h⟩ := s.shedOff bus (min 60 n)
  have hshed : setBusAccepted bus n s = (s.budgeted bus (min 60 n)).shedBus bus := rfl
  rw [hshed, h.rehoming.frame, h.frame]

theorem ringAccepted_link (p : Party) (n : Nat) : (ringAccepted l p n s).link = s.link := by
  have hopened : (s.ringOpened l p).link = s.link := (s.ringOpened_scheduleKept l p).link
  rw [ringAccepted_eq, State.arbitrate_link]
  exact (State.createAssignment_configKept (s.ringOpened l p) l _ _ _ _).link.trans hopened

theorem cancelEffect_link {t : State} (h : cancelEffect l s = some t) : t.link = s.link := by
  have hremoved := (s.removeAssignment_fixedKept l .removal).link
  unfold cancelEffect at h
  split at h
  · exact Option.some.inj h ▸ hremoved
  · exact Option.some.inj h ▸ hremoved
  · exact Option.some.inj h ▸ (s.returnToCaller_scheduleKept l).link
  · exact Option.some.inj h ▸ (s.abortJobs_scheduleKept l).link
  · exact absurd h nofun

theorem connectAccepted_link : (connectAccepted l s).link = s.link :=
  (State.arbitrate_link _).trans (s.leaveOriginating_scheduleKept l).link

theorem releaseAccepted_link : (releaseAccepted l s).link = s.link := by
  unfold releaseAccepted
  dsimp only
  rw [State.arbitrate_link, State.setCallState_link]
  split
  · exact (s.leaveOriginating_scheduleKept l).link
  · rfl

theorem revertAccepted_link (d c : PartyNo) (recallOn : Bool) : (revertAccepted l d c recallOn s).link = s.link := by
  rw [revertAccepted_eq, State.arbitrate_link]
  exact (s.revertHeld_scheduleKept l d c recallOn).link

theorem restartAll_link : (restartAll s).link = s.link := by
  have hended : s.endRinging.link = s.link := by
    rw [State.endRinging, foldl_kept State.link fun t l => State.earlyQuench_link t l .restart,
      foldl_kept State.link fun t l => (t.removeAssignment_fixedKept l .restart).link]
  have hparked (t : State) (l : LineId) : (t.reportParked l).link = t.link := by
    unfold State.reportParked
    split
    · rw [State.queueReport_link]
    · rfl
  have hmapped : (s.endRinging.mapLines Line.restarted).link = s.link := (State.mapLines_link _ _).trans hended
  unfold restartAll
  dsimp only
  generalize s.endRinging.mapLines Line.restarted = t at hmapped
  rw [State.arbitrate_link, foldl_kept State.link hparked]
  exact hmapped

end LinkKept

/-! ### The answer of each command -/

/-- The reply kind and the answer of a command of the link; of an event, none is sent. -/
def commandAnswer (i : Instr) (s : State) : Byte × Answer :=
  match i with
  | .poll => (0x81, pollAnswer s)
  | .restart _ => (0x82, ⟨restartAll s, .ok, []⟩)
  | .setParameters mask values => (0x83, setParametersAnswer mask values s)
  | .setReports e => (0x84, setReportsAnswer e s)
  | .configureLine l t r m n ps => (0x90, configureLineAnswer l t r m n ps s)
  | .block l => (0x91, blockAnswer l s)
  | .unblock l => (0x92, unblockAnswer l s)
  | .readLine l => (0x93, readLineAnswer l s)
  | .testLine l => (0x94, testLineAnswer l s)
  | .setCode c bs => (0xA0, setCodeAnswer c bs s)
  | .setBus b n => (0xA1, setBusAnswer b n s)
  | .readSchedule b => (0xA2, readScheduleAnswer b s)
  | .ring l p n => (0xB0, ringAnswer l p n s)
  | .cancel l => (0xB1, cancelAnswer l s)
  | .connect l => (0xB2, connectAnswer l s)
  | .release l => (0xB3, releaseAnswer l s)
  | .revert l d r x => (0xB4, revertAnswer l d r x s)
  | _ => (0xFF, refuse .unknownKind s)

theorem restartStep_false (s : State) : restartStep false s = reply 0x82 ⟨restartAll s, .ok, []⟩ := by
  unfold restartStep
  generalize restartAll s = u
  exact if_neg Bool.false_ne_true

theorem exec_eq_reply {i : Instr} {kp : Byte × List Byte} (h : encodeCommand i = some kp) (s : State) :
    exec i s = .next (reply (commandAnswer i s).1 (commandAnswer i s).2) := by
  rw [exec_eq_runCommand h s]
  cases i with
  | restart b =>
    cases b with
    | false => exact congrArg Host.Outcome.next (restartStep_false s)
    | true => exact absurd h nofun
  | poll | setParameters | setReports | configureLine | block | unblock | readLine | testLine | setCode | setBus
  | readSchedule | ring | cancel | connect | release | revert | unknownKind => rfl
  | _ => exact absurd h nofun

/-- The kind of a reply: 0x80 and the command's own, and 0xFF for a kind that is not listed (R173). -/
theorem commandAnswer_kind {i : Instr} {k : Byte} {p : List Byte} (h : encodeCommand i = some (k, p)) (s : State)
    (hlisted : ¬∃ k' p', i = .unknownKind k' p') : (commandAnswer i s).1 = 0x80 + k := by
  cases i with
  | restart b =>
    cases b with
    | false => obtain ⟨rfl, -⟩ := Prod.mk.inj (Option.some.inj h); rfl
    | true => exact absurd h nofun
  | unknownKind k' p' => exact absurd ⟨k', p', rfl⟩ hlisted
  | poll | setParameters | setReports | configureLine | block | unblock | readLine | testLine | setCode | setBus
  | readSchedule | ring | cancel | connect | release | revert =>
    obtain ⟨rfl, -⟩ := Prod.mk.inj (Option.some.inj h); rfl
  | _ => exact absurd h nofun

/-- A command's answer leaves the link as it was. -/
theorem commandAnswer_link (i : Instr) (s : State) : (commandAnswer i s).2.state.link = s.link := by
  cases i with
  | poll => exact pollFill_link s 4 45
  | restart => exact restartAll_link s
  | setParameters mask values => exact setParametersAccepted_link s mask values
  | configureLine line tip ring mode n ps =>
    show (configureLineAnswer line tip ring mode n ps s).state.link = s.link
    unfold configureLineAnswer
    split
    · rfl
    · split
      · rfl
      · split
        · split
          · rfl
          · exact configureAccepted_link s _ _ _ _ _ _
        · rfl
  | block line =>
    show (blockAnswer line s).state.link = s.link
    unfold blockAnswer
    split
    · rfl
    · split
      · rfl
      · exact blockAccepted_link s _
  | unblock line =>
    show (unblockAnswer line s).state.link = s.link
    unfold unblockAnswer
    split
    · rfl
    · split
      · exact unblockAccepted_link s _
      · rfl
  | readLine line =>
    show (readLineAnswer line s).state.link = s.link
    unfold readLineAnswer
    split <;> rfl
  | testLine line =>
    show (testLineAnswer line s).state.link = s.link
    unfold testLineAnswer
    split
    · rfl
    · split
      · exact testLineAccepted_link s _
      · rfl
  | setCode c bs =>
    show (setCodeAnswer c bs s).state.link = s.link
    unfold setCodeAnswer
    split
    · rfl
    · split <;> rfl
  | setBus b n =>
    show (setBusAnswer b n s).state.link = s.link
    unfold setBusAnswer
    split
    · rfl
    · exact setBusAccepted_link s _ _
  | readSchedule b =>
    show (readScheduleAnswer b s).state.link = s.link
    unfold readScheduleAnswer
    split
    · rfl
    · exact State.modBus_link _ _ _
  | ring line p n =>
    show (ringAnswer line p n s).state.link = s.link
    unfold ringAnswer
    split
    · rfl
    · split
      · rfl
      · split
        · rfl
        · split
          · rfl
          · split
            · rfl
            · split
              · exact ringAccepted_link s _ _ _
              · rfl
  | cancel line =>
    show (cancelAnswer line s).state.link = s.link
    unfold cancelAnswer
    split
    · rfl
    · split
      · rfl
      · rename_i h
        exact (State.arbitrate_link _).trans (cancelEffect_link s _ h)
  | connect line =>
    show (connectAnswer line s).state.link = s.link
    unfold connectAnswer
    split
    · rfl
    · split
      · exact connectAccepted_link s _
      · rfl
  | release line =>
    show (releaseAnswer line s).state.link = s.link
    unfold releaseAnswer
    split
    · rfl
    · split
      · exact releaseAccepted_link s _
      · rfl
  | revert line d r x =>
    show (revertAnswer line d r x s).state.link = s.link
    unfold revertAnswer
    split
    · rfl
    · split
      · rfl
      · split
        · split
          · rfl
          · exact revertAccepted_link s _ _ _ _
        · rfl
  | _ => rfl

/-- Settles O8. The reply itself is O7's. -/
theorem everyCommandIsAnswered : Obligations.EveryCommandIsAnswered := by
  unfold Obligations.EveryCommandIsAnswered
  intro i s k p h hidle
  have hlink := commandAnswer_link i s
  have hkind := commandAnswer_kind h s
  have hunknown : (∃ k' p', i = .unknownKind k' p') → (commandAnswer i s).1 = 0xFF ∧ (commandAnswer i s).2.result.byte = 1 := by
    rintro ⟨k', p', rfl⟩
    exact ⟨rfl, rfl⟩
  refine ⟨_, exec_eq_reply h s, ?_⟩
  generalize (commandAnswer i s).1 = kind at hkind hunknown ⊢
  generalize (commandAnswer i s).2 = a at hlink hunknown ⊢
  obtain ⟨u, result, fields⟩ := a
  dsimp only at hlink hunknown
  obtain ⟨hsilent, hanswers⟩ := replyCarriesAndClearsTheLatches kind u result fields
  refine ⟨fun hl => ?_, fun hl => ?_⟩
  · rw [State.listensOnly_iff, ← hlink] at hl
    rw [hsilent hl, hlink]
  · have hl' : ¬(u.link.address = 0 ∨ u.link.address = 31) := by
      rw [hlink, ← State.listensOnly_iff, hl]; nofun
    rw [not_or] at hl'
    obtain ⟨status, hreply, hbits⟩ := hanswers hl'.1 hl'.2
    refine ⟨kind, result.byte, status, fields, ?_, hunknown, hkind, ?_⟩
    · rw [hreply, hlink]
    · rw [hlink] at hbits
      obtain ⟨hwaiting, -, hframing, hgap, hlength, hcheck, hoverrun, -⟩ := hbits
      rw [hreply]
      exact ⟨rfl, hwaiting, hframing, hgap, hlength, hcheck, hoverrun⟩

end Sys2Proof.Machine
end

section
/-! PROOFS. A reply fits in a frame (R164, R179, R180). -/

namespace Sys2Proof.Machine

section Fields

variable (s : State)

theorem codeFields_length {s : State} {c : CodeId} (h : (s.pattern c).Valid) : (codeFields s c).length ≤ 9 := by
  have hlen := length_flatMap_of_uniform (f := fun b : Burst => [byteOf b.start, byteOf b.length]) (n := 2)
    (fun _ => rfl) (s.pattern c)
  have hfour := h.1
  rw [codeFields, List.length_cons, hlen]
  omega

theorem assignmentBytes_length (l : LineId) : (assignmentBytes s l).length = 5 := by
  unfold assignmentBytes
  split
  · rfl
  · rw [List.length_append]
    split <;> rfl

theorem lineSnapshot_length (l : LineId) : (lineSnapshot s l).length ≤ 46 := by
  have hasg := assignmentBytes_length s l
  unfold lineSnapshot
  simp only [sideBytes, List.length_append, List.length_cons, List.length_nil, wordBytes_length, hasg]
  decide

theorem placementFields_length (l : LineId) : (placementFields s l).length ≤ 3 := by
  unfold placementFields
  split
  · split <;> exact le_refl 3
  · exact Nat.zero_le _

theorem scheduleSnapshot_length (h : WaitingLaw s) (bus : Bus) : (scheduleSnapshot s bus).length ≤ 46 := by
  have hwaiting : s.waiting.length ≤ 16 := by simpa using h.nodup.length_le_card
  unfold scheduleSnapshot
  simp only [List.length_append, List.length_cons, List.length_nil, List.length_map, Vector.length_toList]
  omega

theorem pollAnswer_fields_length : (pollAnswer s).fields.length ≤ 46 := by
  have hfill (n room : Nat) (t : State) : (pollFill n room t).1.length ≤ room := by
    induction n generalizing room t with
    | zero => exact Nat.zero_le _
    | succ n ih =>
      cases hq : t.reports.queue with
      | nil =>
        have hnone : pollFill (n + 1) room t = ([], 0, t) := by rw [pollFill, hq]
        rw [hnone]; exact Nat.zero_le _
      | cons r rest =>
        by_cases hroom : reportSize t.dialOf r ≤ room
        · have hrest := ih (room - reportSize t.dialOf r) (t.serveFirst r rest)
          rw [pollFill_cons hq hroom, List.length_append, reportBytes_length]
          omega
        · rw [pollFill_of_full hq hroom]; exact Nat.zero_le _
  rw [pollAnswer_eq]
  exact Nat.succ_le_succ (hfill 4 45 s)

theorem params_fields_length (p : Params) : (p.toList.flatMap wordBytes).length = 26 := by
  rw [length_flatMap_of_uniform wordBytes_length]; rfl

end Fields

/-- A command's answer has at most 46 bytes of fields (R179, R180). -/
theorem commandAnswer_fields_length {s : State} (hwaiting : WaitingLaw s) (hcodes : CodeLaw s) (i : Instr) :
    (commandAnswer i s).2.fields.length ≤ 46 := by
  have hrefused (r : ResultCode) : (refuse r s).fields.length ≤ 46 := Nat.zero_le _
  cases i with
  | poll => exact pollAnswer_fields_length s
  | setParameters mask values => exact (params_fields_length _).trans_le (by decide)
  | configureLine line tip ring mode n ps =>
    show (configureLineAnswer line tip ring mode n ps s).fields.length ≤ 46
    unfold configureLineAnswer
    split
    · exact hrefused _
    · split
      · exact hrefused _
      · split
        · split
          · exact hrefused _
          · exact (by decide : 4 ≤ 46)
        · exact hrefused _
  | block line =>
    show (blockAnswer line s).fields.length ≤ 46
    unfold blockAnswer
    split
    · exact hrefused _
    · split
      · exact hrefused _
      · exact (by decide : 1 ≤ 46)
  | unblock line =>
    show (unblockAnswer line s).fields.length ≤ 46
    unfold unblockAnswer
    split
    · exact hrefused _
    · split
      · exact (by decide : 1 ≤ 46)
      · exact hrefused _
  | readLine line =>
    show (readLineAnswer line s).fields.length ≤ 46
    unfold readLineAnswer
    split
    · exact hrefused _
    · exact lineSnapshot_length s _
  | testLine line =>
    show (testLineAnswer line s).fields.length ≤ 46
    unfold testLineAnswer
    split
    · exact hrefused _
    · split
      · exact (by decide : 1 ≤ 46)
      · exact hrefused _
  | setCode c bs =>
    show (setCodeAnswer c bs s).fields.length ≤ 46
    unfold setCodeAnswer
    split
    · exact (by decide : 1 ≤ 46)
    · rename_i d _
      split
      · exact (codeFields_length (hcodes.valid d)).trans (by decide)
      · rename_i hnone
        have hvalid := ((checkPattern_eq_none_iff s d _).1 hnone).1
        refine (codeFields_length ?_).trans (by decide : 9 ≤ 46)
        rw [State.pattern_set_codes, if_pos rfl]
        exact hvalid
  | setBus b n =>
    show (setBusAnswer b n s).fields.length ≤ 46
    unfold setBusAnswer
    split
    · exact hrefused _
    · exact (by decide : 2 ≤ 46)
  | readSchedule b =>
    show (readScheduleAnswer b s).fields.length ≤ 46
    unfold readScheduleAnswer
    split
    · exact hrefused _
    · exact scheduleSnapshot_length s hwaiting _
  | ring line p n =>
    show (ringAnswer line p n s).fields.length ≤ 46
    unfold ringAnswer
    split
    · exact hrefused _
    · split
      · exact hrefused _
      · split
        · exact hrefused _
        · split
          · exact hrefused _
          · split
            · exact hrefused _
            · split
              · exact (placementFields_length _ _).trans (by decide)
              · exact hrefused _
  | cancel line =>
    show (cancelAnswer line s).fields.length ≤ 46
    unfold cancelAnswer
    split
    · exact hrefused _
    · split
      · exact hrefused _
      · exact (by decide : 1 ≤ 46)
  | connect line =>
    show (connectAnswer line s).fields.length ≤ 46
    unfold connectAnswer
    split
    · exact hrefused _
    · split
      · exact (by decide : 1 ≤ 46)
      · exact hrefused _
  | release line =>
    show (releaseAnswer line s).fields.length ≤ 46
    unfold releaseAnswer
    split
    · exact hrefused _
    · split
      · exact (by decide : 1 ≤ 46)
      · exact hrefused _
  | revert line d r x =>
    show (revertAnswer line d r x s).fields.length ≤ 46
    unfold revertAnswer
    split
    · exact hrefused _
    · split
      · exact hrefused _
      · split
        · split
          · exact hrefused _
          · exact (by decide : 1 ≤ 46)
        · exact hrefused _
  | setReports => exact (by decide : 1 ≤ 46)
  | _ => exact Nat.zero_le _

/-- Settles O9. -/
theorem everyReplyFitsInAFrame : Obligations.EveryReplyFitsInAFrame := by
  unfold Obligations.EveryReplyFitsInAFrame
  intro i s hcommand hanswers hwaiting hcodes t ht f hf
  obtain ⟨kp, he⟩ := Option.ne_none_iff_exists'.1 hcommand
  have hlink := commandAnswer_link i s
  have hfields := commandAnswer_fields_length hwaiting hcodes i
  have hstate : (commandAnswer i s).2.state.listensOnly = false := by
    rw [State.listensOnly, hlink]; exact hanswers
  obtain rfl := Host.Outcome.next.inj ((exec_eq_reply he s).symm.trans ht)
  rw [reply_of_answers _ hstate] at hf
  obtain rfl := Option.some.inj hf
  show (commandAnswer i s).2.fields.length + 2 ≤ 48
  omega

end Sys2Proof.Machine
end

section
/-! PROOFS. RESTART (R18, R56, R71, R91, R109, R129, R146, R160, R177). -/

namespace Sys2Proof.Machine

/-! ### The end of all ringing (R56, R71) -/

section EndRinging

variable {s : State}

theorem State.endRinging_frame (s : State) : s.endRinging = { s with
    lines := s.endRinging.lines, busA := s.endRinging.busA, busB := s.endRinging.busB
    waiting := s.endRinging.waiting } := by
  have hremoved : ∀ t l, (t : State) = { s with lines := t.lines, busA := t.busA, busB := t.busB, waiting := t.waiting } →
      t.removeAssignment l .restart = { s with
        lines := (t.removeAssignment l .restart).lines, busA := (t.removeAssignment l .restart).busA
        busB := (t.removeAssignment l .restart).busB, waiting := (t.removeAssignment l .restart).waiting } := by
    intro t l ht
    rw [State.removeAssignment_eq, ht]
  have hquenched : ∀ t l, (t : State) = { s with lines := t.lines, busA := t.busA, busB := t.busB, waiting := t.waiting } →
      t.earlyQuench l .restart = { s with
        lines := (t.earlyQuench l .restart).lines, busA := (t.earlyQuench l .restart).busA
        busB := (t.earlyQuench l .restart).busB, waiting := (t.earlyQuench l .restart).waiting } := by
    intro t l ht
    rw [ht]; rfl
  exact foldl_preserves (P := fun t => t = { s with lines := t.lines, busA := t.busA, busB := t.busB, waiting := t.waiting })
    hquenched allLines (foldl_preserves hremoved allLines rfl)

/-- Only the loads of a bus change when its assignments are removed. -/
theorem State.endRinging_bus (v : Bus) : s.endRinging.bus v = { s.bus v with loads := (s.endRinging.bus v).loads } := by
  rw [State.endRinging, foldl_bus fun t l w => t.earlyQuench_bus l .restart w]
  refine foldl_preserves (P := fun t => t.bus v = { s.bus v with loads := (t.bus v).loads }) (fun t l ht => ?_) allLines rfl
  rw [State.removeAssignment_bus, ht]

theorem State.endRinging_asg (l : LineId) : (s.endRinging.line l).asg = none := by
  rw [State.endRinging_line, Line.ringingEnded]

/-- A removal leaves only entries of waiting assignments on the waiting list, if it holds no others. -/
theorem State.removeAssignment_waits {t : State} (h : ∀ m ∈ t.waiting, (t.line m).waits = true) (l : LineId) (c : CutCause)
    {m : LineId} (hm : m ∈ (t.removeAssignment l c).waiting) : ((t.removeAssignment l c).line m).waits = true := by
  cases ha : (t.line l).asg with
  | none =>
    rw [State.removeAssignment_of_none c ha] at hm ⊢
    exact h m hm
  | some a =>
    cases hp : a.placement with
    | waiting =>
      rw [State.removeAssignment_of_waiting c ha hp] at hm
      obtain ⟨hm, hne⟩ := List.mem_filter.1 hm
      rw [t.removeAssignment_othersKept l c m (by simpa using hne)]
      exact h m hm
    | placed bus o n =>
      rw [State.removeAssignment_of_placed c ha hp] at hm
      have hlisted : m ∈ (t.subtractLoads a bus o).waiting := hm
      rw [State.subtractLoads, State.modBus_waiting] at hlisted
      have hne : m ≠ l := by
        rintro rfl
        obtain ⟨b, hb, hw⟩ := Line.waits_iff.1 (h m hlisted)
        obtain rfl := Option.some.inj (ha.symm.trans hb)
        exact absurd (hp.symm.trans hw) nofun
      rw [t.removeAssignment_othersKept l c m hne]
      exact h m hlisted

theorem State.endRinging_waiting (h : WaitingLaw s) : s.endRinging.waiting = [] := by
  have hwaits : ∀ l ∈ s.endRinging.waiting, (s.endRinging.line l).waits = true := by
    refine foldl_preserves (P := fun t => ∀ l ∈ t.waiting, (t.line l).waits = true) (fun t l ht m hm => ?_) allLines
      (foldl_preserves (P := fun t => ∀ l ∈ t.waiting, (t.line l).waits = true) (fun t l ht m hm => ?_) allLines
        fun l hl => (h.members l).1 hl)
    · rw [Line.waits_congr (x := t.line m)]
      · exact ht m hm
      · rw [State.earlyQuench_line]
        split
        · exact Line.earlyQuench_asg _ _
        · rfl
    · exact State.removeAssignment_waits ht l .restart hm
  refine List.eq_nil_iff_forall_not_mem.2 fun l hl => ?_
  obtain ⟨a, ha, -⟩ := Line.waits_iff.1 (hwaits l hl)
  exact absurd ((State.endRinging_asg l).symm.trans ha) nofun

theorem State.endRinging_loads (h : LoadLaw s) (bus : Bus) (g : Slot) : (s.endRinging.bus bus).loads.get g = 0 := by
  have hsums : LoadSums [] s.endRinging := by
    refine foldl_preserves (P := LoadSums []) (fun t l ht => ?_) allLines
      (foldl_preserves (P := LoadSums []) (fun t l ht => ht.removeAssignment List.not_mem_nil .restart) allLines
        ((loadLaw_iff s).1 h).1)
    refine ht.of_asg (fun v => by rw [State.earlyQuench_bus]) rfl fun m => ?_
    rw [State.earlyQuench_line]
    split
    · exact Line.earlyQuench_asg _ _
    · rfl
  refine hsums.eq_zero (fun l hl => ?_) g
  rw [Line.placedBus_of_none (State.endRinging_asg l)] at hl
  exact absurd hl nofun

end EndRinging

/-! ### The reports of a RESTART (R177) -/

theorem State.reportParked_all (ls : List LineId) (s : State) (h : s.reports.queue.length + ls.length ≤ 32) :
    ls.foldl State.reportParked s = { s with reports := { s.reports with
      queue := s.reports.queue ++ (ls.filter fun l => s.callState l = .parked).map .parked } } := by
  induction ls generalizing s with
  | nil => simp
  | cons l ls ih =>
    rw [List.length_cons] at h
    rw [List.foldl_cons]
    by_cases hp : s.callState l = .parked
    · have hqueued : s.reportParked l = { s with reports := { s.reports with queue := s.reports.queue ++ [.parked l] } } := by
        unfold State.reportParked State.queueReport
        rw [if_pos hp, if_pos (by show _ < 32; omega)]
      rw [hqueued, ih _ (by simp only [List.length_append, List.length_singleton]; omega),
        List.filter_cons_of_pos (by simpa using hp), List.map_cons, List.append_assoc, List.singleton_append]
      rfl
    · have hkept : s.reportParked l = s := if_neg hp
      rw [hkept, ih s (by omega), List.filter_cons_of_neg (by simpa using hp)]

section Restart

/-- No job and no report but RESTARTED is left (R129, R177). -/
def State.callsCleared (t : State) : State :=
  { t with msu := { t.msu with jobs := [], running := none }
           reports := { t.reports with queue := [.restarted], lost := false } }

/-- A PARKED report behind the others for each line that is PARKED. -/
def State.parkedTold (t : State) : State :=
  { t with reports := { t.reports with
      queue := t.reports.queue ++ (allLines.filter fun l => t.callState l = .parked).map .parked } }

/-- RESTART before the arbiter is asked. -/
def State.restartTold (s : State) : State := (s.endRinging.mapLines Line.restarted).callsCleared.parkedTold

theorem State.callsCleared_reported (t : State) :
    allLines.foldl State.reportParked t.callsCleared = t.callsCleared.parkedTold :=
  State.reportParked_all allLines t.callsCleared (by show 1 + allLines.length ≤ 32; decide)

variable (s : State)

theorem restartAll_eq : restartAll s = s.restartTold.arbitrate := by
  unfold restartAll State.restartTold
  dsimp only
  generalize s.endRinging.mapLines Line.restarted = t
  exact congrArg State.arbitrate t.callsCleared_reported

/-- What a RESTART makes of the lines, the buses and the rest once all ringing has ended. -/
theorem State.restartTold_of_ended {t : State} (h : s.endRinging = t) :
    (∀ l, s.restartTold.line l = (t.line l).restarted) ∧ (∀ v, s.restartTold.bus v = t.bus v) ∧
    s.restartTold.waiting = t.waiting ∧ s.restartTold.msu = { t.msu with jobs := [], running := none } ∧
    s.restartTold.reports = { t.reports with
      queue := .restarted :: (allLines.filter fun l => s.restartTold.callState l = .parked).map .parked, lost := false } ∧
    s.restartTold = { t with
      lines := s.restartTold.lines, msu := s.restartTold.msu, reports := s.restartTold.reports } := by
  have hline (l : LineId) := State.mapLines_line t Line.restarted l
  unfold State.restartTold
  rw [h]
  refine ⟨hline, fun v => by cases v <;> rfl, rfl, rfl, rfl, rfl⟩

end Restart

/-- What the arbiter does with no entry on the list: an insulation job at most, behind which the pointer moves (R117,
R118). -/
theorem State.arbitrate_of_no_jobs {s : State} (hjobs : s.msu.jobs = []) (hfree : s.msu.running = none) :
    (∀ r ∈ s.arbitrate.msu.running, r.kind = .insulation) ∧
      s.arbitrate.msu.pointer = (s.arbitrate.msu.running.map fun r => r.line + 1).getD s.msu.pointer := by
  have hkind : ∀ r ∈ s.arbitrate.msu.running, r.kind = .insulation := fun r hr =>
    State.arbitrate_head_insulation (l := r.line) (by rw [hfree]; nofun) (by rw [hjobs]; nofun) r hr rfl
  refine ⟨hkind, ?_⟩
  rcases s.arbitrate_cases with e | ⟨l, k, -, -, e⟩
  · rw [e, hfree]; rfl
  · have hk := hkind ⟨l, k, jobMs k, s.msu.startCount⟩ (by rw [e]; rfl)
    rw [e]
    exact if_pos hk

/-- The call state of a line that RESTART has treated (R18). -/
theorem restartState_eq (x : Line) : restartState x =
    if x.record.callState = .unequipped ∨ x.record.callState = .blocked then x.record.callState
    else if x.scan.closed = true then .parked else .idle := by
  unfold restartState
  split
  · rename_i h; rw [if_pos (.inl h), h]
  · rename_i h; rw [if_pos (.inr h), h]
  · rename_i h1 h2
    rw [if_neg (not_or.2 ⟨h1, h2⟩)]
    rfl

/-- Settles O60. -/
theorem restartEndsEveryCall : Obligations.RestartEndsEveryCall := by
  unfold Obligations.RestartEndsEveryCall
  intro s
  have htrue : exec (.restart true) s = .next (restartAll s) := by
    show Host.Outcome.next (restartStep true s) = _
    unfold restartStep
    generalize restartAll s = u
    rw [if_pos rfl]
  have hfalse : exec (.restart false) s = .next (reply 0x82 ⟨restartAll s, .ok, []⟩) :=
    congrArg Host.Outcome.next (restartStep_false s)
  have hframe := s.endRinging_frame
  have hended := s.endRinging_line
  have hloads := State.endRinging_loads (s := s)
  have hwaiting := State.endRinging_waiting (s := s)
  have hendedBus := State.endRinging_bus (s := s)
  generalize hr : s.endRinging = t at hframe hended hloads hwaiting hendedBus
  obtain ⟨hline, hbus, hlist, hmsu, hreports, htold⟩ := s.restartTold_of_ended hr
  rw [restartAll_eq] at htrue hfalse
  generalize s.restartTold = w at htrue hfalse hline hbus hlist hmsu hreports htold
  have hframed : w.arbitrate = { w with msu := w.arbitrate.msu } := by rw [State.arbitrate_eq]
  obtain ⟨hkind, hpointer⟩ := State.arbitrate_of_no_jobs (s := w) (by rw [hmsu]) (by rw [hmsu])
  have harbited := w.arbitrate_eq
  have hwbus (v : Bus) : w.arbitrate.bus v = t.bus v := by rw [← hbus v, hframed]; cases v <;> rfl
  have htmsu : t.msu = s.msu := by rw [hframe]
  have htreports : t.reports = s.reports := by rw [hframe]
  have hstate (l : LineId) : w.arbitrate.callState l = w.callState l := w.arbitrate_callState l
  refine ⟨_, htrue, hfalse, fun l => ?line, fun h => ?waiting, fun h bus g => ?loads, fun bus => ?bus, ?created, ?placed,
    ?jobs, hkind, ?backlog, ?mustRun, ?pointer, ?arrivals, ?tick, ?queue, ?lost, ?enables, ?frame⟩
  case line => 
    rw [State.arbitrate_line, hline, hended, Line.ringingEnded]
    refine ⟨?_, rfl, rfl, rfl, rfl, rfl, rfl, rfl, rfl, rfl, rfl, rfl, rfl, rfl, rfl⟩
    exact congrArg (fun st => { (s.line l).record with callState := st, earlyPickups := 0 }) (restartState_eq _)
  case waiting => rw [hframed, hlist]; exact hwaiting h
  case loads => rw [hwbus]; exact hloads h bus g
  case bus => rw [hwbus, hendedBus]; exact ⟨rfl, rfl, rfl, rfl, rfl⟩
  case created => rw [hframed, htold, hframe]
  case placed => rw [hframed, htold, hframe]
  case jobs => rw [State.arbitrate_jobs, hmsu]
  case backlog => rw [harbited, hmsu, htmsu]
  case mustRun => rw [harbited, hmsu, htmsu]
  case pointer => rw [hpointer, hmsu, htmsu]
  case arrivals => rw [harbited, hmsu, htmsu]
  case tick => rw [harbited, hmsu, htmsu]
  case queue => simp only [hstate, State.arbitrate_reports]; rw [hreports]
  case lost => rw [State.arbitrate_reports, hreports]
  case enables => rw [State.arbitrate_reports, hreports, htreports]
  case frame =>
    generalize w.arbitrate = v at hframed ⊢
    rw [hframed, htold, hframe]

end Sys2Proof.Machine
end

section
/-! PROOFS. SET_PARAMETERS and SET_REPORTS (R7, R74, R175, R176). -/

namespace Sys2Proof.Machine

/-! ### One line computed again (R74) -/

section Recompute

variable {s t u : State} {l : LineId}

/-- A line computed again: its thresholds under the parameters in force, its record as TRIP_MARGIN leaves it, and the rest
as it was. -/
structure LineRecomputed (p : Params) (x y : Line) : Prop where
  sides : ∀ sd, y.sides.get sd = computeThreshold p (x.sides.get sd)
  kept : y = { x with record := y.record, sides := y.sides }
  callState : y.record.callState = x.record.callState

theorem Line.kept_of_record {x y z : Line} {r : LineRecord} (hz : z = { y with record := r })
    (hy : y = { x with record := y.record, sides := y.sides }) : z = { x with record := z.record, sides := z.sides } := by
  rw [hz, hy]

theorem State.recompute_line : LineRecomputed s.params (s.line l) ((s.recompute l).line l) := by
  have hline : ((s.modLine l (updateSides s.params id id)).line l) = updateSides s.params id id (s.line l) :=
    State.modLine_line_self _ _ _
  have heq := (updateSides_follows s.params id id (s.line l)).kept
  have hkept : updateSides s.params id id (s.line l) = { s.line l with
      record := (updateSides s.params id id (s.line l)).record, sides := (updateSides s.params id id (s.line l)).sides } := by
    unfold updateSides
    rw [agreeTripMargin_eq]
  have hsides := updateSides_sides s.params id id (s.line l)
  have htold := reportIfChanged_line (l := l) (b := s) (s := s.modLine l (updateSides s.params id id))
  rw [State.recompute]
  refine ⟨fun sd => ?_, ?_, ?_⟩
  · rw [reportIfChanged_sides, hline, hsides]; cases sd <;> rfl
  · exact Line.kept_of_record htold (hline.trans (hkept.trans (by rw [hline])))
  · have hstate := reportIfChanged_callState (l := l) (b := s) (s := s.modLine l (updateSides s.params id id)) l
    refine hstate.trans ?_
    rw [State.callState, hline, heq]

theorem State.recompute_frame : s.recompute l = { s with
    lines := (s.recompute l).lines, reports := (s.recompute l).reports } := by
  rw [State.recompute]
  rcases reportIfChanged_cases l s (s.modLine l (updateSides s.params id id)) with e | e | e <;> rw [e]
  · rfl
  · rw [State.queueReport_eq]; rfl
  · rfl

theorem State.recompute_follows : TripMarginFollows l s (s.recompute l) ∧
    (s.recompute l).reports = pushReports s.reports (conditionReport l s (s.recompute l)).toList := by
  have hfollows : RecordFollows (s.line l) ((s.modLine l (updateSides s.params id id)).line l) := by
    rw [State.modLine_line_self]; exact updateSides_follows _ _ _ _
  exact reportIfChanged_follows hfollows rfl

theorem pushReports_enables (q : ReportQueue) (rs : List Report) : (pushReports q rs).enables = q.enables := by
  induction rs generalizing q with
  | nil => rfl
  | cons r rs ih =>
    refine (ih _).trans ?_
    dsimp only
    split <;> rfl

theorem pushReports_append (q : ReportQueue) (rs rs' : List Report) :
    pushReports q (rs ++ rs') = pushReports (pushReports q rs) rs' := List.foldl_append

/-- The LINE_CONDITION report of a line is read from the line before and after and from the enables. -/
theorem conditionReport_congr {s' u' : State} (hs : s'.line l = s.line l) (hu : u'.line l = u.line l)
    (he : s'.reports.enables = s.reports.enables) : conditionReport l s' u' = conditionReport l s u := by
  unfold conditionReport State.callState
  rw [hs, hu, he]

theorem TripMarginFollows.congr {s' u' : State} (h : TripMarginFollows l s u) (hs : s'.line l = s.line l)
    (hu : u'.line l = u.line l) (he : s'.reports.enables = s.reports.enables) : TripMarginFollows l s' u' := by
  obtain ⟨h1, h2, h3, h4⟩ := h
  have hreport := conditionReport_congr (u := u) (u' := u') hs hu he
  constructor <;> rw [hs, hu]
  · exact h1
  · exact h2
  · rw [hreport]; exact h3
  · exact h4

/-- What the computation of several lines, one after the other, leaves. -/
structure Recomputed (ls : List LineId) (s u : State) : Prop where
  others : ∀ l, l ∉ ls → u.line l = s.line l
  line : ∀ l ∈ ls, LineRecomputed s.params (s.line l) (u.line l)
  follows : ∀ l ∈ ls, TripMarginFollows l s u
  reports : u.reports = pushReports s.reports (ls.filterMap fun l => conditionReport l s u)
  frame : u = { s with lines := u.lines, reports := u.reports }

theorem recomputed_foldl (ls : List LineId) (hls : ls.Nodup) (s : State) : Recomputed ls s (ls.foldl State.recompute s) := by
  induction ls generalizing s with
  | nil => exact ⟨fun _ _ => rfl, nofun, nofun, rfl, rfl⟩
  | cons l ls ih =>
    obtain ⟨hl, hls⟩ := List.nodup_cons.1 hls
    obtain ⟨hothers, hline, hfollows, hreports, hframe⟩ := ih hls (s.recompute l)
    obtain ⟨hfirst, htold⟩ := State.recompute_follows (s := s) (l := l)
    have henables : (s.recompute l).reports.enables = s.reports.enables := by rw [htold, pushReports_enables]
    have hkept (m : LineId) (hm : m ∈ ls) : (s.recompute l).line m = s.line m :=
      s.recompute_othersKept l m fun e : m = l => hl (e ▸ hm)
    rw [List.foldl_cons]
    generalize ls.foldl State.recompute (s.recompute l) = u at hothers hline hfollows hreports hframe ⊢
    have hlast : u.line l = (s.recompute l).line l := hothers l hl
    refine ⟨fun m hm => ?_, fun m hm => ?_, fun m hm => ?_, ?_, ?_⟩
    · rw [List.mem_cons, not_or] at hm
      rw [hothers m hm.2, s.recompute_othersKept l m hm.1]
    · rcases List.mem_cons.1 hm with rfl | hm
      · rw [hlast]; exact State.recompute_line
      · have h := hline m hm
        rwa [hkept m hm, State.recompute_params] at h
    · rcases List.mem_cons.1 hm with rfl | hm
      · exact hfirst.congr rfl hlast rfl
      · exact (hfollows m hm).congr (hkept m hm).symm rfl henables.symm
    · have hrest : (ls.filterMap fun m => conditionReport m (s.recompute l) u) =
          ls.filterMap fun m => conditionReport m s u :=
        List.filterMap_congr fun m hm => conditionReport_congr (hkept m hm) rfl henables
      have hhead : conditionReport l s (s.recompute l) = conditionReport l s u := (conditionReport_congr rfl hlast rfl).symm
      have hcons : ((l :: ls).filterMap fun m => conditionReport m s u) =
          (conditionReport l s u).toList ++ ls.filterMap fun m => conditionReport m s u := by
        rw [List.filterMap_cons]
        cases conditionReport l s u <;> rfl
      rw [hreports, htold, hrest, hhead, hcons, pushReports_append]
    · rw [hframe, State.recompute_frame]

end Recompute

/-! ### The parameters (R175) -/

theorem selected_eq {bit : Bool} {lo hi v stored : Nat} (h : lo ≤ stored) :
    selected bit lo hi v stored = max lo (if bit = true then min hi v else stored) := by
  unfold selected clampTo
  split
  · rfl
  · omega

theorem selectedAbove_eq (bit : Bool) (lo hi v stored : Nat) :
    selectedAbove bit lo hi v stored = max lo (if bit = true then min hi v else stored) := by
  unfold selectedAbove clampTo
  split <;> rfl

theorem setParametersAccepted_params (mask : DByte) (v : Vector DByte 13) (s : State) :
    (setParametersAccepted mask v s).params = s.params.set mask v := by
  unfold setParametersAccepted
  dsimp only
  split
  · exact foldl_recompute_params _ _
  · rfl

/-- Each parameter is clamped where its bit is set, and otherwise held to a range that has moved. -/
theorem Params.set_selected (mask : DByte) (v : Vector DByte 13) {p : Params} (h : ParamLaw p) (b : Fin 13) (lo hi : Nat)
    (hb : (b, lo, hi) ∈ [((0 : Fin 13), 2, 6), (1, (p.set mask v).confirm, 20), (2, 20, 100), (3, 20, 100),
      (4, (p.set mask v).tmin + 20, 200), (5, 24, 72), (6, 1, 60), (7, 2, 10), (8, 10, 120), (9, 5, 60), (10, 1, 60),
      (11, 5, 200), (12, (p.set mask v).degradeLimit + 10, 500)]) :
    (p.set mask v).toList[b.val]? =
      some (max lo (if mask.getLsbD b.val = true then min hi (v.get b).toNat else p.toList[b.val]?.getD 0)) := by
  simp only [List.mem_cons, Prod.mk.injEq, List.not_mem_nil, or_false] at hb
  rcases hb with ⟨rfl, rfl, rfl⟩ | ⟨rfl, rfl, rfl⟩ | ⟨rfl, rfl, rfl⟩ | ⟨rfl, rfl, rfl⟩ | ⟨rfl, rfl, rfl⟩ | ⟨rfl, rfl, rfl⟩ |
    ⟨rfl, rfl, rfl⟩ | ⟨rfl, rfl, rfl⟩ | ⟨rfl, rfl, rfl⟩ | ⟨rfl, rfl, rfl⟩ | ⟨rfl, rfl, rfl⟩ | ⟨rfl, rfl, rfl⟩ | ⟨rfl, rfl, rfl⟩
  · exact congrArg some (selected_eq h.confirm.1)
  · exact congrArg some (selectedAbove_eq _ _ _ _ _)
  · exact congrArg some (selected_eq h.marginDefault.1)
  · exact congrArg some (selected_eq h.tmin.1)
  · exact congrArg some (selectedAbove_eq _ _ _ _ _)
  · exact congrArg some (selected_eq h.bias.1)
  · exact congrArg some (selected_eq h.ringCycles.1)
  · exact congrArg some (selected_eq h.interdigit.1)
  · exact congrArg some (selected_eq h.permanentSignal.1)
  · exact congrArg some (selected_eq h.revertHold.1)
  · exact congrArg some (selected_eq h.testTick.1)
  · exact congrArg some (selected_eq h.degradeLimit.1)
  · exact congrArg some (selectedAbove_eq _ _ _ _ _)

/-- Settles O59. -/
theorem setParametersClampsAndStores : Obligations.SetParametersClampsAndStores := by
  unfold Obligations.SetParametersClampsAndStores
  refine ⟨fun mask v s hp => ?_, fun e kind payload s => ⟨?_, rfl⟩⟩
  · have hparams := setParametersAccepted_params mask v s
    have hrecomputed (hmoved : (s.params.set mask v).tmin ≠ s.params.tmin ∨ (s.params.set mask v).tmax ≠ s.params.tmax) :
        Recomputed allLines { s with params := s.params.set mask v } (setParametersAccepted mask v s) := by
      rw [setParametersAccepted_of_moved hmoved]
      exact recomputed_foldl allLines allLines_nodup _
    refine ⟨setParametersAccepted mask v s, rfl, ?law, ?selected, fun hmoved => ?moved, fun htmin htmax => ?limits, ?rest⟩
    case law => rw [hparams]; exact Params.set_paramLaw mask v hp
    case selected => rw [hparams]; exact Params.set_selected mask v hp
    case moved =>
      rw [hparams] at hmoved
      obtain ⟨-, hline, hfollows, hreports, -⟩ := hrecomputed hmoved
      rw [hparams]
      refine ⟨fun l sd => (hline l (mem_allLines l)).sides sd, fun l => ?_, ?_⟩
      · exact (hfollows l (mem_allLines l)).congr rfl rfl rfl
      · exact hreports
    case limits =>
      rw [hparams] at htmin htmax
      rw [setParametersAccepted_of_limits htmin htmax]
    case rest =>
      by_cases hmoved : (s.params.set mask v).tmin ≠ s.params.tmin ∨ (s.params.set mask v).tmax ≠ s.params.tmax
      · obtain ⟨-, hline, -, -, hframe⟩ := hrecomputed hmoved
        refine ⟨fun l => ?_, ?_⟩
        · obtain ⟨-, hkept, hstate⟩ := hline l (mem_allLines l)
          refine ⟨hstate, ?_⟩
          rw [hkept]
          exact ⟨rfl, rfl, rfl, rfl, rfl, rfl, rfl⟩
        · generalize setParametersAccepted mask v s = u at hframe hparams ⊢
          rw [hframe]
      · simp only [ne_eq, not_or, not_not] at hmoved
        rw [setParametersAccepted_of_limits hmoved.1 hmoved.2]
        exact ⟨fun l => ⟨rfl, rfl, rfl, rfl, rfl, rfl, rfl, rfl⟩, rfl⟩
  · have henables : enablesByte ⟨e.getLsbD 0, e.getLsbD 1, e.getLsbD 2⟩ = e &&& 7 := by
      refine BitVec.eq_of_getLsbD_eq fun i hi => ?_
      rw [enablesByte, flagByte_getLsbD _ i hi, BitVec.getLsbD_and]
      interval_cases i <;> simp
    exact congrArg (fun x : Byte => Host.Outcome.next (reply 0x84 ⟨_, .ok, [x]⟩)) henables

end Sys2Proof.Machine
end

section
/-! PROOFS. CONFIGURE_LINE accepted (R9 to R11, R92). -/

namespace Sys2Proof.Machine

/-! ### The call state an accepted CONFIGURE_LINE sets (R11) -/

section State

variable {s : State} {l : LineId} {unequip : Bool}

/-- The call state of a line configured: UNEQUIPPED without parties, IDLE or PARKED by its loop when it is newly equipped,
and otherwise as it was. -/
def Line.configuredState (unequip : Bool) (x : Line) : CallState :=
  if unequip = true then .unequipped
  else if x.record.callState = .unequipped then (if x.scan.closed = true then .parked else .idle)
  else x.record.callState

/-- The reports that setting the call state queues: TEST_RESULT of an aborted test, with the line's marker gone, or
PARKED. -/
def State.configuredQueue (s : State) (l : LineId) (unequip : Bool) : List Report :=
  let q := if unequip = true ∧ s.callState l = .idle ∧ s.hasHostTest l = true then
      queueWith s.reports.queue (.testResult l none) else s.reports.queue
  if unequip = true ∧ s.callState l ≠ .unequipped then q.filter (· ≠ .digits l)
  else if unequip = false ∧ s.callState l = .unequipped ∧ (s.line l).scan.closed = true then queueWith q (.parked l)
  else q

/-- What setting the call state makes of a state. -/
structure Configured (l : LineId) (unequip : Bool) (s t : State) : Prop where
  line : t.line l = { s.line l with
    record := { (s.line l).record with callState := (s.line l).configuredState unequip }
    scan := if unequip = true ∧ s.callState l ≠ .unequipped then (s.line l).scan.freeze
      else if unequip = false ∧ s.callState l = .unequipped then (s.line l).scan.begin else (s.line l).scan
    dial := if unequip = true ∧ s.callState l ≠ .unequipped then
        { (s.line l).dial with collection := .off, pulseCount := 0, interdigit := none, digits := [],
                               errors := ⟨false, false, false⟩, complete := false, markerOwed := false }
      else (s.line l).dial }
  queue : t.reports.queue = s.configuredQueue l unequip
  enables : t.reports.enables = s.reports.enables
  parked : unequip = false → s.callState l = .unequipped → (s.line l).scan.closed = true →
    .parked l ∈ t.reports.queue ∨ t.reports.lost = true
  jobsKept : unequip = false ∨ s.callState l ≠ .idle → t.msu = s.msu
  jobsDropped : unequip = true → s.callState l = .idle → t.msu = s.msu.dropJobs l
  others : OthersKept l s t
  frame : t = { s with lines := t.lines, msu := t.msu, reports := t.reports }

theorem Line.enter_idle_of_open {x : Line} (h : x.scan.closed = false) :
    x.enter .idle = { x with record := { x.record with callState := .idle } } :=
  if_neg fun hc => Bool.false_ne_true (h.symm.trans hc.2.1)

theorem State.queueReport_mem_or_lost (s : State) (r : Report) :
    r ∈ (s.queueReport r).reports.queue ∨ (s.queueReport r).reports.lost = true := by
  unfold State.queueReport
  split
  · exact .inl (by simp)
  · exact .inr rfl

/-- A line without parties is taken out of service: its digits are emptied and its scanner frozen (R92, R106). -/
def State.unequipped (s : State) (l : LineId) : State :=
  ((s.emptyDigits l).modScan l ScannerRecord.freeze).setCallState l .unequipped

theorem State.unequipped_line : (s.unequipped l).line l = { s.line l with
    record := { (s.line l).record with callState := .unequipped }
    scan := (s.line l).scan.freeze
    dial := { (s.line l).dial with collection := .off, pulseCount := 0, interdigit := none, digits := [],
                                   errors := ⟨false, false, false⟩, complete := false, markerOwed := false } } := by
  rw [State.unequipped, State.setCallState_line_self, Line.enter_plain .unequipped _ nofun nofun nofun, State.modScan_line_self,
    State.emptyDigits_line]
  rfl

theorem State.unequipped_othersKept : OthersKept l s (s.unequipped l) :=
  ((s.emptyDigits_othersKept l).trans (State.modLine_othersKept _ l _)).trans (State.setCallState_othersKept _ l _)

theorem Configured.unequips (h : s.callState l = .blocked) : Configured l true s (s.unequipped l) := by
  have hne : s.callState l ≠ .unequipped := by rw [h]; nofun
  have hidle : s.callState l ≠ .idle := by rw [h]; nofun
  refine ⟨?_, ?_, rfl, nofun, fun _ => rfl, fun _ he => absurd he hidle, State.unequipped_othersKept, rfl⟩
  · rw [State.unequipped_line, if_pos ⟨rfl, hne⟩, if_pos ⟨rfl, hne⟩, Line.configuredState, if_pos rfl]
  · rw [State.configuredQueue, if_pos ⟨rfl, hne⟩, if_neg fun hc => hidle hc.2.1]; rfl

theorem Configured.aborts (h : s.callState l = .idle) : Configured l true s ((s.abortJobs l).unequipped l) := by
  have hne : s.callState l ≠ .unequipped := by rw [h]; nofun
  have haborted := s.abortJobs_eq l
  refine ⟨?_, ?_, ?_, nofun, fun hc => absurd h (hc.resolve_left nofun), fun _ _ => s.abortJobs_msu l,
    (s.abortJobs_othersKept l).trans State.unequipped_othersKept, ?_⟩
  · rw [State.unequipped_line, State.abortJobs_line, if_pos ⟨rfl, hne⟩, if_pos ⟨rfl, hne⟩, Line.configuredState, if_pos rfl]
  · have hqueue := s.abortJobs_queue l
    show (s.abortJobs l).reports.queue.filter _ = _
    rw [State.configuredQueue, if_pos ⟨rfl, hne⟩, hqueue]
    by_cases ht : s.hasHostTest l = true
    · rw [if_pos ht, if_pos ⟨rfl, h, ht⟩]
    · rw [if_neg ht, if_neg fun hc => ht hc.2.2]
  · show (s.abortJobs l).reports.enables = _
    rw [haborted]
    dsimp only
    split
    · rw [State.queueReport_eq]
    · rfl
  · generalize s.abortJobs l = t at haborted
    rw [State.unequipped, haborted]
    rfl

/-- A line newly equipped begins sampling from its held state (R92). -/
theorem Configured.equips (h : s.callState l = .unequipped) {st : CallState}
    (hst : st = if (s.line l).scan.closed = true then .parked else .idle) :
    Configured l false s (if st = .parked then ((s.modScan l ScannerRecord.begin).setCallState l st).queueReport (.parked l)
      else (s.modScan l ScannerRecord.begin).setCallState l st) := by
  have hline : ((s.modScan l ScannerRecord.begin).setCallState l st).line l = { s.line l with
      record := { (s.line l).record with callState := st }, scan := (s.line l).scan.begin } := by
    rw [State.setCallState_line_self, State.modScan_line_self]
    by_cases hc : (s.line l).scan.closed = true
    · rw [hst, if_pos hc, Line.enter_plain .parked _ nofun nofun nofun]
    · rw [hst, if_neg hc,
        Line.enter_idle_of_open (x := { s.line l with scan := (s.line l).scan.begin }) (Bool.eq_false_iff.2 hc)]
  have hothers := (s.modLine_othersKept l fun x => { x with scan := x.scan.begin }).trans
    (State.setCallState_othersKept (s.modScan l ScannerRecord.begin) l st)
  have hstate : (s.line l).configuredState false = st := by
    have hs : (s.line l).record.callState = .unequipped := h
    rw [Line.configuredState, if_neg Bool.false_ne_true, if_pos hs, hst]
  have hempty : ¬(false = true ∧ s.callState l ≠ .unequipped) := fun hc => absurd hc.1 nofun
  have hno : ¬(false = true ∧ s.callState l = .idle ∧ s.hasHostTest l = true) := fun hc => absurd hc.1 nofun
  by_cases hc : (s.line l).scan.closed = true
  · have hp : st = .parked := by rw [hst, if_pos hc]
    rw [if_pos hp]
    refine ⟨?_, ?_, ?_, fun _ _ _ => State.queueReport_mem_or_lost _ _, fun _ => ?_, nofun,
      hothers.trans (State.queueReport_othersKept _ l _), ?_⟩
    · rw [State.queueReport_line, hline, if_neg hempty, if_pos ⟨rfl, h⟩, if_neg hempty, hstate]
    · rw [State.queueReport_queue, State.configuredQueue, if_neg hempty, if_pos ⟨rfl, h, hc⟩, if_neg hno]; rfl
    · rw [State.queueReport_eq]; rfl
    · rw [State.queueReport_msu]; rfl
    · rw [State.queueReport_eq]; rfl
  · have hp : st ≠ .parked := by rw [hst, if_neg hc]; nofun
    rw [if_neg hp]
    refine ⟨?_, ?_, rfl, fun _ _ hc' => absurd hc' hc, fun _ => rfl, nofun, hothers, rfl⟩
    · rw [hline, if_neg hempty, if_pos ⟨rfl, h⟩, if_neg hempty, hstate]
    · rw [State.configuredQueue, if_neg hempty, if_neg fun hc' => hc hc'.2.2, if_neg hno]; rfl

theorem Configured.stays (h : unequip = true ∧ s.callState l = .unequipped ∨ unequip = false ∧ s.callState l ≠ .unequipped) :
    Configured l unequip s s := by
  have hempty : ¬(unequip = true ∧ s.callState l ≠ .unequipped) := by
    rcases h with ⟨-, h⟩ | ⟨h, -⟩
    · exact fun hc => hc.2 h
    · exact fun hc => absurd (h.symm.trans hc.1) nofun
  have hbegin : ¬(unequip = false ∧ s.callState l = .unequipped) := by
    rcases h with ⟨h, -⟩ | ⟨-, h⟩
    · exact fun hc => absurd (h.symm.trans hc.1) nofun
    · exact fun hc => h hc.2
  have hstate : (s.line l).configuredState unequip = (s.line l).record.callState := by
    unfold Line.configuredState
    rcases h with ⟨hu, h⟩ | ⟨hu, h⟩
    · rw [if_pos hu]; exact h.symm
    · rw [if_neg (by simp [hu]), if_neg (show ¬(s.line l).record.callState = .unequipped from h)]
  have hno : ¬(unequip = true ∧ s.callState l = .idle ∧ s.hasHostTest l = true) := fun hc =>
    hempty ⟨hc.1, by rw [hc.2.1]; nofun⟩
  refine ⟨?_, ?_, rfl, fun hu hs => absurd ⟨hu, hs⟩ hbegin, fun _ => rfl, fun hu hs => ?_, .refl l s, rfl⟩
  · rw [if_neg hempty, if_neg hempty, if_neg hbegin, hstate]
  · rw [State.configuredQueue, if_neg hempty, if_neg fun hc => hbegin ⟨hc.1, hc.2.1⟩, if_neg hno]
  · exact absurd ⟨hu, by rw [hs]; nofun⟩ hempty

theorem configureState_configured (h : s.callState l = .unequipped ∨ s.callState l = .idle ∨ s.callState l = .blocked) :
    Configured l unequip s (configureState l unequip s) := by
  unfold configureState
  rcases h with h | h | h <;> rw [h] <;> cases unequip
  · exact .equips h rfl
  · exact .stays (.inl ⟨rfl, h⟩)
  · exact .stays (.inr ⟨rfl, by rw [h]; nofun⟩)
  · exact .aborts h
  · exact .stays (.inr ⟨rfl, by rw [h]; nofun⟩)
  · exact .unequips h

end State

/-! ### The line record an accepted CONFIGURE_LINE writes (R10) -/

section Write

variable (p : Params) (tip ring : Nat) (mode : DialMode) (n : Nat) (ps : List Party) (x : Line)

/-- A line's record as CONFIGURE_LINE's operands give it. -/
def LineRecord.configured (r : LineRecord) : LineRecord :=
  { r with parties := sortBy (fun q => q.number.val) ps, loads := ⟨min 20 tip, min 20 ring⟩, dialMode := mode
           blockCount := max 1 (min 16 n) }

theorem writeLine_record : RecordFollows { x with record := x.record.configured tip ring mode n ps }
    (writeLine p tip ring mode n ps x) := updateSides_follows _ _ _ _

theorem writeLine_kept : writeLine p tip ring mode n ps x = { x with
    record := (writeLine p tip ring mode n ps x).record, sides := (writeLine p tip ring mode n ps x).sides } := by
  unfold writeLine updateSides
  rw [agreeTripMargin_eq]

theorem writeLine_sides (sd : Side) : (writeLine p tip ring mode n ps x).sides.get sd =
    computeThreshold p { x.sides.get sd with margin := p.marginDefault } := by
  unfold writeLine
  rw [updateSides_sides]
  cases sd <;> rfl

end Write

/-- Parties sorted by their numbers, which are distinct. -/
theorem sortParties_pairwise {ps : List Party} (h : (ps.map Party.number).Nodup) :
    (sortBy (fun q : Party => q.number.val) ps).Pairwise fun p q => p.number < q.number := by
  have hsorted := sortBy_pairwise (fun q : Party => q.number.val) ps
  have hnodup : ((sortBy (fun q : Party => q.number.val) ps).map Party.number).Nodup :=
    ((sortBy_perm (fun q : Party => q.number.val) ps).map _).nodup_iff.2 h
  refine (hsorted.and (List.pairwise_map.1 hnodup)).imp fun ⟨hle, hne⟩ => ?_
  exact lt_of_le_of_ne hle hne

theorem configureLineAnswer_of_ok {l : LineId} {tip ring count : Byte} {mode : DialMode} {ps : List Party} {s : State}
    (hlen : ps.length ≤ 8) (hstate : s.callState l = .unequipped ∨ s.callState l = .idle ∨ s.callState l = .blocked)
    (hnumbers : (ps.map Party.number).Nodup) (hsignatures : (ps.map fun p => (p.side, p.code)).Nodup)
    (hcodes : ∀ p ∈ ps, s.pattern p.code ≠ []) {u : State}
    (hu : configureAccepted l tip.toNat ring.toNat mode count.toNat ps s = u) :
    configureLineAnswer (lineByte l) tip ring mode.byte count (ps.map Party.field) s =
      ⟨u, .ok, [byteOf (u.line l).record.loads.tip, byteOf (u.line l).record.loads.ring,
        byteOf (u.line l).record.blockCount, (u.line l).record.callState.byte]⟩ := by
  have hcheck : checkParties s mode.byte (ps.map Party.field) = .ok (mode, ps) := by
    have hany : ¬(ps.any fun p => (s.pattern p.code).isEmpty) = true := by simpa using hcodes
    rw [checkParties_of_fields, if_neg (not_not.2 hnumbers), if_neg (not_not.2 hsignatures), if_neg hany]
  rw [configureLineAnswer, if_neg (by simpa using hlen), readLineId_lineByte]
  refine (if_pos hstate).trans ?_
  rw [hcheck, ← hu]

section Accepted

variable {l : LineId} {tip ring n : Nat} {mode : DialMode} {ps : List Party} {s u : State}

/-- What an accepted CONFIGURE_LINE makes of its line before the change of condition is reported: the record written, and
the call state set. -/
structure LineConfigured (l : LineId) (tip ring n : Nat) (mode : DialMode) (ps : List Party) (s w : State) : Prop where
  line : w.line l = { s.line l with
    record := (w.line l).record, sides := (w.line l).sides, scan := (w.line l).scan, dial := (w.line l).dial }
  record : (w.line l).record = { (s.line l).record.configured tip ring mode n ps with
    callState := (s.line l).configuredState ps.isEmpty
    reasons := { (s.line l).record.reasons with tripMargin := (w.line l).pinned }, condition := (w.line l).record.condition }
  condition : (w.line l).record.condition =
    if (w.line l).pinned = (s.line l).record.reasons.tripMargin then (s.line l).record.condition
    else if (w.line l).pinned = true then
      (if (s.line l).record.condition = .normal then .degraded else (s.line l).record.condition)
    else if (s.line l).record.condition = .degraded ∧ (s.line l).record.reasons.leak = false then .normal
    else (s.line l).record.condition
  sides : ∀ sd, (w.line l).sides.get sd =
    computeThreshold s.params { (s.line l).sides.get sd with margin := s.params.marginDefault }
  scan : (w.line l).scan = if ps = [] ∧ s.callState l ≠ .unequipped then (s.line l).scan.freeze
    else if ps ≠ [] ∧ s.callState l = .unequipped then (s.line l).scan.begin else (s.line l).scan
  dial : (w.line l).dial = if ps = [] ∧ s.callState l ≠ .unequipped then
      { (s.line l).dial with collection := .off, pulseCount := 0, interdigit := none, digits := [],
                             errors := ⟨false, false, false⟩, complete := false, markerOwed := false }
    else (s.line l).dial
  queue : w.reports.queue = s.configuredQueue l ps.isEmpty
  enables : w.reports.enables = s.reports.enables
  parked : ps ≠ [] → s.callState l = .unequipped → (s.line l).scan.closed = true →
    .parked l ∈ w.reports.queue ∨ w.reports.lost = true
  jobsKept : ps ≠ [] ∨ s.callState l ≠ .idle → w.msu = s.msu
  jobsDropped : ps = [] → s.callState l = .idle → w.msu = s.msu.dropJobs l
  others : OthersKept l s w
  frame : w = { s with lines := w.lines, msu := w.msu, reports := w.reports }

theorem configured_line (hstate : s.callState l = .unequipped ∨ s.callState l = .idle ∨ s.callState l = .blocked) :
    LineConfigured l tip ring n mode ps s
      (configureState l ps.isEmpty (s.modLine l (writeLine s.params tip ring mode n ps))) := by
  have hkept := writeLine_kept s.params tip ring mode n ps (s.line l)
  have hsides := writeLine_sides s.params tip ring mode n ps (s.line l)
  obtain ⟨hreasons, hcondition, hrecord, -⟩ := writeLine_record s.params tip ring mode n ps (s.line l)
  have hline := s.modLine_line_self l (writeLine s.params tip ring mode n ps)
  have hothers := s.modLine_othersKept l (writeLine s.params tip ring mode n ps)
  have hframe : s.modLine l (writeLine s.params tip ring mode n ps) =
      { s with lines := (s.modLine l (writeLine s.params tip ring mode n ps)).lines } := rfl
  generalize writeLine s.params tip ring mode n ps (s.line l) = y at hkept hsides hreasons hcondition hrecord hline
  generalize s.modLine l (writeLine s.params tip ring mode n ps) = t at hline hothers hframe ⊢
  have hcall : t.callState l = s.callState l := by rw [State.callState, hline, hrecord]; rfl
  have hscan : (t.line l).scan = (s.line l).scan := by rw [hline, hkept]
  have hdial : (t.line l).dial = (s.line l).dial := by rw [hline, hkept]
  have hmsu : t.msu = s.msu := by rw [hframe]
  have hreports : t.reports = s.reports := by rw [hframe]
  have htarget : (t.line l).configuredState ps.isEmpty = (s.line l).configuredState ps.isEmpty := by
    unfold Line.configuredState
    rw [hscan]
    have hcs : (t.line l).record.callState = (s.line l).record.callState := hcall
    rw [hcs]
  have hqueue : t.configuredQueue l ps.isEmpty = s.configuredQueue l ps.isEmpty := by
    unfold State.configuredQueue State.hasHostTest
    rw [hcall, hscan, hmsu, hreports]
  have hconf := configureState_configured (unequip := ps.isEmpty) (hcall ▸ hstate)
  generalize configureState l ps.isEmpty t = w at hconf ⊢
  obtain ⟨cline, cqueue, cenables, cparked, ckept, cdropped, cothers, cframe⟩ := hconf
  rw [hcall] at cparked ckept cdropped
  rw [hscan] at cparked
  rw [hcall, hscan, hdial, htarget, hline] at cline
  have hpinned : (w.line l).pinned = y.pinned := by rw [cline]; rfl
  have hcond : (w.line l).record.condition = y.record.condition := by rw [cline]
  refine ⟨?_, ?_, ?_, ?_, ?_, ?_, cqueue.trans hqueue, cenables.trans (congrArg (·.enables) hreports), ?_, ?_, ?_,
    hothers.trans cothers, ?_⟩
  · rw [cline, hkept]
  · rw [hcond, hpinned, cline, hrecord, hreasons]; rfl
  · rw [hcond, hpinned, hcondition]; rfl
  · intro sd
    have hsame : (w.line l).sides = y.sides := by rw [cline]
    rw [hsame, hsides]
  · rw [cline]; simp only [List.isEmpty_iff, List.isEmpty_eq_false_iff, ne_eq]
  · rw [cline]; simp only [List.isEmpty_iff, ne_eq]
  · exact fun hp => cparked (List.isEmpty_eq_false_iff.2 hp)
  · exact fun h => (ckept (h.imp_left List.isEmpty_eq_false_iff.2)).trans hmsu
  · exact fun hp hi => (cdropped (List.isEmpty_iff.2 hp) hi).trans (congrArg (·.dropJobs l) hmsu)
  · generalize t = t' at hframe cframe
    rw [cframe, hframe]

end Accepted

/-! ### The report of the change, and the command (R7, R11, R12) -/

section Told

variable {l : LineId} {b s : State}

theorem reportIfChanged_frame : reportIfChanged l b s =
    { s with lines := (reportIfChanged l b s).lines, reports := (reportIfChanged l b s).reports } := by
  rcases reportIfChanged_cases l b s with e | e | e <;> rw [e]
  · rw [State.queueReport_eq]
  · rfl

theorem State.queueReport_keeps (s : State) (d : Report) {r : Report} (h : r ∈ s.reports.queue ∨ s.reports.lost = true) :
    r ∈ (s.queueReport d).reports.queue ∨ (s.queueReport d).reports.lost = true := by
  rw [State.queueReport_eq]
  refine h.imp (fun hm => ?_) fun hl => by rw [hl]; rfl
  unfold queueWith
  split
  · exact List.mem_append_left _ hm
  · exact hm

theorem reportIfChanged_mem_or_lost {r : Report} (h : r ∈ s.reports.queue ∨ s.reports.lost = true) :
    r ∈ (reportIfChanged l b s).reports.queue ∨ (reportIfChanged l b s).reports.lost = true := by
  rcases reportIfChanged_cases l b s with e | e | e <;> rw [e]
  · exact h
  · exact s.queueReport_keeps _ h
  · exact h

end Told

section Command

variable {l : LineId} {tip ring n : Nat} {mode : DialMode} {ps : List Party} {s w : State}

theorem Line.configuredState_eq_unequipped {x : Line} {unequip : Bool} :
    x.configuredState unequip = .unequipped ↔ unequip = true := by
  unfold Line.configuredState
  split
  · simp [*]
  · split
    · split <;> simp [*]
    · simp [*]

theorem LineConfigured.callState (h : LineConfigured l tip ring n mode ps s w) :
    w.callState l = (s.line l).configuredState ps.isEmpty := by
  rw [State.callState, h.record]

theorem LineConfigured.reported (h : LineConfigured l tip ring n mode ps s w) :
    ConditionReported l w ↔ ps ≠ [] ∧ s.reports.enables.lineCondition = true := by
  have hstate : (w.line l).record.callState ≠ .unequipped ↔ ps ≠ [] := by
    rw [show (w.line l).record.callState = _ from h.callState, ne_eq, Line.configuredState_eq_unequipped, List.isEmpty_iff]
  rw [ConditionReported, hstate, h.enables]

theorem LineConfigured.latched (h : LineConfigured l tip ring n mode ps s w) :
    (w.line l).record.latched = (s.line l).record.latched := by rw [h.record]; rfl

theorem LineConfigured.leaks (h : LineConfigured l tip ring n mode ps s w) : (w.line l).leaks = (s.line l).leaks := by
  rw [h.line]

/-- The queue as R11 and R106 leave it, read by the statement's own tests of the party list. -/
theorem State.configuredQueue_eq (s : State) (l : LineId) (ps : List Party) {q q' : List Report}
    (hq : q = if ps = [] ∧ s.callState l = .idle ∧ s.hasHostTest l = true then
      queueWith s.reports.queue (.testResult l none) else s.reports.queue)
    (hq' : q' = if ps = [] ∧ s.callState l ≠ .unequipped then q.filter (· ≠ .digits l)
      else if ps ≠ [] ∧ s.callState l = .unequipped ∧ (s.line l).scan.closed = true then queueWith q (.parked l)
      else q) : s.configuredQueue l ps.isEmpty = q' := by
  subst hq' hq
  unfold State.configuredQueue
  simp only [List.isEmpty_iff, List.isEmpty_eq_false_iff, ne_eq]

theorem State.not_mem_configuredQueue (s : State) (l : LineId) (h : s.callState l ≠ .unequipped) :
    .digits l ∉ s.configuredQueue l true := by
  rw [State.configuredQueue, if_pos ⟨rfl, h⟩]
  simp

end Command

/-- Settles O18. -/
theorem configureLineAccepted : Obligations.ConfigureLineAccepted := by
  unfold Obligations.ConfigureLineAccepted
  intro l tip ring count mode ps s hlen hstate hnumbers hsignatures hcodes
  have hanswer := configureLineAnswer_of_ok (tip := tip) (ring := ring) (count := count) (mode := mode)
    hlen hstate hnumbers hsignatures hcodes rfl
  have hw := configured_line (tip := tip.toNat) (ring := ring.toNat) (n := count.toNat) (mode := mode) (ps := ps) hstate
  have hu : configureAccepted l tip.toNat ring.toNat mode count.toNat ps s = (reportIfChanged l s (configureState l
    ps.isEmpty (s.modLine l (writeLine s.params tip.toNat ring.toNat mode count.toNat ps)))).arbitrate := rfl
  rw [hu] at hanswer
  generalize configureState l ps.isEmpty (s.modLine l (writeLine s.params tip.toNat ring.toNat mode count.toNat ps)) = w
    at hw hanswer
  have hline : (reportIfChanged l s w).arbitrate.line l = _ := (State.arbitrate_line _ l).trans reportIfChanged_line
  have hreports : (reportIfChanged l s w).arbitrate.reports = (reportIfChanged l s w).reports := State.arbitrate_reports _
  have hcall : (reportIfChanged l s w).arbitrate.callState l = (s.line l).configuredState ps.isEmpty :=
    (State.arbitrate_callState _ l).trans ((reportIfChanged_callState l).trans hw.callState)
  have hjobs : (reportIfChanged l s w).arbitrate.msu.jobs = w.msu.jobs :=
    (State.arbitrate_jobs _).trans (congrArg (·.jobs) reportIfChanged_msu)
  have hdrop : (reportIfChanged l s w).msu = s.msu.dropJobs l → (reportIfChanged l s w).callState l ≠ .idle →
    JobsDropped l s (reportIfChanged l s w).arbitrate := jobsDropped_of_dropped
  have hothers : OthersKept l s (reportIfChanged l s w).arbitrate :=
    hw.others.trans ((reportIfChanged_othersKept l s w).trans fun m _ => State.arbitrate_line _ m)
  have hframe : (reportIfChanged l s w).arbitrate = { s with
      lines := (reportIfChanged l s w).arbitrate.lines, msu := (reportIfChanged l s w).arbitrate.msu
      reports := (reportIfChanged l s w).arbitrate.reports } := by
    have h₁ := hw.frame
    have h₂ : reportIfChanged l s w = _ := reportIfChanged_frame
    have h₃ := (reportIfChanged l s w).arbitrate_eq
    generalize (reportIfChanged l s w).arbitrate = u at h₃ ⊢
    generalize reportIfChanged l s w = z at h₂ h₃
    rw [h₃, h₂, h₁]
  generalize (reportIfChanged l s w).arbitrate = u at hanswer hline hreports hcall hjobs hdrop hothers hframe
  have hrecord : (u.line l).record = { (w.line l).record with latched := (u.line l).record.latched } := by rw [hline]
  have hsides : (u.line l).sides = (w.line l).sides := by rw [hline]
  have hkept := hw.line
  refine ⟨u, ?_, ?_, ?_, ?_, ?_, ?_, ?_, ?_, ?_, ?_, ?_, ?_, ?_, ?_, ?_, ?_, ?_, ?_, ?_, ?_, ?_, ?_, ?_, ?_, ?_, ?_, ?_,
    hothers, hframe⟩
  · refine congrArg Host.Outcome.next (congrArg (reply 0x90) (hanswer.trans ?_))
    rw [State.callState, hrecord, hw.record]
    rfl
  · rw [hrecord, hw.record]; exact sortBy_perm _ ps
  · rw [hrecord, hw.record]; exact sortParties_pairwise hnumbers
  · rw [hrecord, hw.record]; rfl
  · rw [hrecord, hw.record]; rfl
  · rw [hrecord, hw.record]; rfl
  · exact fun hp => hcall.trans (Line.configuredState_eq_unequipped.2 (List.isEmpty_iff.2 hp))
  · intro hp hs hopen
    rw [hcall, Line.configuredState, if_neg (by simpa using hp), if_pos (show (s.line l).record.callState = _ from hs),
      if_neg (by simp [hopen])]
  · intro hp hs hclosed
    refine ⟨?_, hreports ▸ reportIfChanged_mem_or_lost (hw.parked hp hs hclosed)⟩
    rw [hcall, Line.configuredState, if_neg (by simpa using hp), if_pos (show (s.line l).record.callState = _ from hs),
      if_pos hclosed]
  · have htrip : (u.line l).record.reasons.tripMargin = (w.line l).pinned := by rw [hrecord, hw.record]
    rw [htrip, hrecord]
    exact hw.condition
  · intro q hq q' hq'
    have hdue : w.reports.queue = q' := hw.queue.trans (s.configuredQueue_eq l ps hq hq')
    have hzqueue : u.reports.queue = _ := (congrArg (·.queue) hreports).trans reportIfChanged_queue
    have hlatch : (u.line l).record.latched.lineCondition = ((s.line l).record.latched.lineCondition ||
        decide (ConditionChanged l s w ∧ ¬ConditionReported l w)) := by
      rw [hline, ← hw.latched]
    have hreasons : (u.line l).record.reasons = (w.line l).record.reasons := by rw [hrecord]
    have hcondition : (u.line l).record.condition = (w.line l).record.condition := by rw [hrecord]
    rw [hdue, hw.leaks] at hzqueue
    rw [hzqueue, hlatch, hreasons, hcondition]
    refine ⟨fun hc hr => ?_, fun hchanged => ⟨fun hr => ?_, fun hr => ?_⟩⟩
    · have hno : ¬ConditionChanged l s w := fun h => h.elim (· hc) (· hr)
      rw [if_neg fun h => hno h.1, decide_eq_false fun h => hno h.1, Bool.or_false]
      exact ⟨rfl, rfl⟩
    · have hrep := hw.reported.2 hr
      rw [if_pos ⟨hchanged, hrep⟩, decide_eq_false fun h => h.2 hrep, Bool.or_false]
      exact ⟨rfl, rfl⟩
    · have hrep : ¬ConditionReported l w := fun h =>
        hr.elim (hw.reported.1 h).1 fun hf => absurd (hf.symm.trans (hw.reported.1 h).2) nofun
      rw [if_neg fun h => hrep h.2, decide_eq_true ⟨hchanged, hrep⟩, Bool.or_true]
      exact ⟨rfl, rfl⟩
  · intro hp hs
    rw [hcall, Line.configuredState, if_neg (by simpa using hp),
      if_neg (show ¬(s.line l).record.callState = .unequipped from hs)]
    rfl
  · intro sd; rw [hsides]; exact hw.sides sd
  · rw [hrecord, hw.record]
  · rw [hsides, hrecord, hw.record]; rfl
  · rw [hline]; exact congrArg (·.noise) hw.latched
  · rw [hrecord, hw.record]; rfl
  · rw [hline]; exact congrArg (·.leaks) hkept
  · rw [hline]; exact congrArg (·.asg) hkept
  · rw [hline]; exact congrArg (·.relay) hkept
  · rw [hline]; exact congrArg (·.det) hkept
  · rw [hline]; exact congrArg (·.call) hkept
  · rw [hline]; exact hw.scan
  · rw [hline]; exact hw.dial
  · intro hp hs
    have hrep : ¬ConditionReported l w := fun h => (hw.reported.1 h).1 hp
    rw [State.markerPending, hreports, reportIfChanged_queue, if_neg fun h => hrep h.2, hw.queue, hp]
    exact Bool.eq_false_iff.2 fun hm => s.not_mem_configuredQueue l hs (List.contains_iff_mem.1 hm)
  · intro h; rw [hjobs, hw.jobsKept h]
  · intro hp hi
    refine hdrop (reportIfChanged_msu.trans (hw.jobsDropped hp hi)) ?_
    rw [reportIfChanged_callState, hw.callState, Line.configuredState_eq_unequipped.2 (List.isEmpty_iff.2 hp)]
    nofun


end Sys2Proof.Machine
end

section
/-! PROOFS. The planner and the burst sequencer at a slot boundary, and the walk of the waiting list (R42, R43). -/

namespace Sys2Proof.Machine

/-! ### The walk -/

section Walk

variable {s t u : State} {l m : LineId} {ls ms : List LineId} {a : Assignment} {bus : Bus} {o : Slot}

/-- The walk from an entry that is passed over goes on behind it. -/
theorem walk_passes (ha : (s.line l).asg = some a) (hsearch : s.search a = none) (hwaited : a.waited < 2) :
    walk (l :: ls) s = walk ls s := by
  rw [walk]
  simp only [ha, hsearch]
  exact if_neg (Nat.not_le.2 hwaited)

theorem walk_passes_all {pre : List LineId}
    (h : ∀ p ∈ pre, ∃ b, (s.line p).asg = some b ∧ s.search b = none ∧ b.waited < 2) :
    walk (pre ++ ls) s = walk ls s := by
  induction pre with
  | nil => rfl
  | cons p pre ih =>
    obtain ⟨b, hb, hsearch, hwaited⟩ := h p List.mem_cons_self
    rw [List.cons_append, walk_passes hb hsearch hwaited, ih fun q hq => h q (List.mem_cons_of_mem _ hq)]

theorem walk_places (ha : (s.line l).asg = some a) (hsearch : s.search a = some (o, bus)) :
    walk (l :: ls) s = walk ls (s.place l a bus o) := by
  rw [walk]
  simp only [ha, hsearch]

theorem walk_held (ha : (s.line l).asg = some a) (hsearch : s.search a = none) (hwaited : 2 ≤ a.waited) :
    walk (l :: ls) s = s := by
  rw [walk]
  simp only [ha, hsearch]
  exact if_pos hwaited

/-- What a walk of some entries makes of a state: assignments of those entries are placed, and nothing else. -/
structure Walked (ls : List LineId) (s t : State) : Prop where
  line : ∀ l, t.line l = { s.line l with asg := (t.line l).asg }
  asg : ∀ l, ∃ p, (t.line l).asg = (s.line l).asg.map fun a => { a with placement := p }
  unvisited : ∀ l, l ∉ ls → t.line l = s.line l ∧ (l ∈ s.waiting → l ∈ t.waiting)
  waiting : ∀ l, l ∈ t.waiting → l ∈ s.waiting
  frame : t = { s with lines := t.lines, busA := t.busA, busB := t.busB, waiting := t.waiting, placedCount := t.placedCount }

theorem Walked.refl (ls : List LineId) (s : State) : Walked ls s s where
  line _ := rfl
  asg l := by
    cases h : (s.line l).asg with
    | none => exact ⟨.waiting, rfl⟩
    | some a => exact ⟨a.placement, rfl⟩
  unvisited _ _ := ⟨rfl, id⟩
  waiting _ := id
  frame := rfl

theorem Line.asg_trans {x y z : Line} (h : y = { x with asg := y.asg }) (k : z = { y with asg := z.asg }) :
    z = { x with asg := z.asg } := by
  rw [k, h]

theorem Walked.trans (h : Walked ls s t) (k : Walked ls t u) : Walked ls s u where
  line l := Line.asg_trans (h.line l) (k.line l)
  asg l := by
    obtain ⟨p, hp⟩ := h.asg l
    obtain ⟨q, hq⟩ := k.asg l
    exact ⟨q, by rw [hq, hp, Option.map_map]; rfl⟩
  unvisited l hl :=
    ⟨(k.unvisited l hl).1.trans (h.unvisited l hl).1, fun hm => (k.unvisited l hl).2 ((h.unvisited l hl).2 hm)⟩
  waiting l hm := h.waiting l (k.waiting l hm)
  frame := by
    have h' := h.frame
    have k' := k.frame
    rw [k', h']

theorem Walked.mono (h : Walked ls s t) (hsub : ∀ l ∈ ls, l ∈ ms) : Walked ms s t :=
  { h with unvisited := fun l hl => h.unvisited l fun hm => hl (hsub l hm) }

theorem Walked.place (ha : (s.line l).asg = some a) (bus : Bus) (o : Slot) : Walked [l] s (s.place l a bus o) where
  line m := by
    rw [State.place_line]
    split <;> rfl
  asg m := by
    rw [State.place_line]
    by_cases e : m = l
    · rw [if_pos e, e, ha]; exact ⟨_, rfl⟩
    · rw [if_neg e]; exact (Walked.refl [] s).asg m
  unvisited m hm := by
    have hne : m ≠ l := fun e => hm (List.mem_singleton.2 e)
    refine ⟨by rw [State.place_line, if_neg hne], fun hw => ?_⟩
    rw [State.place_waiting]
    exact List.mem_filter.2 ⟨hw, decide_eq_true hne⟩
  waiting m hm := (List.mem_filter.1 (State.place_waiting s l a bus o ▸ hm)).1
  frame := by rw [State.place_eq]

theorem walked (ls : List LineId) (s : State) : Walked ls s (walk ls s) := by
  induction ls generalizing s with
  | nil => exact .refl [] s
  | cons l ls ih =>
    have hrest (t : State) : Walked (l :: ls) t (walk ls t) := (ih t).mono fun _ => List.mem_cons_of_mem _
    unfold walk
    split
    · exact hrest s
    · rename_i a ha
      split
      · rename_i o bus _
        have hplaced := Walked.place ha bus o
        have hhead : ∀ m ∈ [l], m ∈ l :: ls := fun m hm => List.mem_cons.2 (.inl (List.mem_singleton.1 hm))
        exact (hplaced.mono hhead).trans (hrest _)
      · split
        · exact .refl _ s
        · exact hrest s

end Walk

/-! ### The counts of the cycle boundary (R42, R44, R45) -/

/-- An assignment that goes on over the boundary out of a slot: a cycle boundary counts it down and ages it. -/
def Assignment.crossed (g : Slot) (a : Assignment) : Assignment := if g = 23 then a.countDown.age else a

/-- An assignment after the counts is the one before them, but for its count and its waited boundaries. -/
theorem Assignment.crossed_eq (g : Slot) (a : Assignment) : a.crossed g = { a with
    cyclesLeft := (a.crossed g).cyclesLeft, skipped := (a.crossed g).skipped, waited := (a.crossed g).waited } := by
  unfold Assignment.crossed Assignment.countDown Assignment.age
  split
  · split <;> split <;> rfl
  · rfl

/-- At a cycle boundary the assignments that come to their end are those whose count reaches 0 (R44, R45). -/
theorem Line.expired_countDown (x : Line) :
    ({ x with asg := x.asg.map Assignment.countDown } : Line).expired = x.endsAtBoundary 23 := by
  unfold Line.expired Line.endsAtBoundary
  cases ha : x.asg with
  | none => rfl
  | some a =>
    cases hs : a.skipped with
    | false => simp [Assignment.countDown, hs]
    | true =>
      simp only [Option.map_some, Assignment.countDown, hs, if_true]
      rw [decide_true, Bool.true_and]
      exact decide_eq_decide.2 (by omega)

theorem State.mem_expiredLines (s : State) (l : LineId) : l ∈ s.expiredLines ↔ (s.line l).expired = true := by
  rw [State.expiredLines, mem_sortBy, List.mem_filter]
  exact and_iff_right (mem_allLines l)

theorem State.expiredLines_nodup (s : State) : s.expiredLines.Nodup :=
  (sortBy_perm _ _).nodup_iff.2 (allLines_nodup.filter _)

/-- The state with every assignment counted down (R44). -/
def State.counted (s : State) : State := s.mapAssignments Assignment.countDown

theorem State.counted_line (s : State) (l : LineId) :
    s.counted.line l = { s.line l with asg := (s.line l).asg.map Assignment.countDown } := State.mapLines_line _ _ _

theorem State.mem_counted_expiredLines (s : State) (l : LineId) :
    l ∈ s.counted.expiredLines ↔ (s.line l).endsAtBoundary 23 = true := by
  rw [State.mem_expiredLines, State.counted_line, Line.expired_countDown]

theorem State.expire_scheduleKept (s : State) (l : LineId) : ScheduleKept (s.removeAssignment l .removal) (s.expire l) := by
  cases ha : (s.line l).asg with
  | none => rw [State.expire_of_none ha, State.removeAssignment_of_none .removal ha]; exact .of_rfl s s.lines s.msu s.reports
  | some a =>
    have hidle (r : Report) : ScheduleKept (s.removeAssignment l .removal)
        (((s.removeAssignment l .removal).setCallState l .idle).queueReport r) :=
      (State.setCallState_scheduleKept _ l _).trans (State.queueReport_scheduleKept _ _)
    cases hk : a.kind with
    | plain => rw [State.expire_of_plain ha hk]; exact (hidle _).trans (State.modCall_scheduleKept _ l _)
    | revert => rw [State.expire_of_revert ha hk]; exact (hidle _).trans (State.clearRevert_scheduleKept _ l)

/-- The party that NO_ANSWER names (R140, R154). -/
def Line.unanswered (kind : AssignmentKind) (x : Line) : Option (Fin 8) :=
  match kind with
  | .plain => x.call.ringingParty
  | .revert => x.call.called

theorem State.expire_reports {s : State} {l : LineId} {a : Assignment} (ha : (s.line l).asg = some a) :
    (s.expire l).reports = (s.queueReport (.noAnswer l ((s.line l).unanswered a.kind))).reports := by
  have hsame (r : Report) : (((s.removeAssignment l .removal).setCallState l .idle).queueReport r).reports =
      (s.queueReport r).reports := by
    rw [State.queueReport_reports, State.queueReport_reports, State.setCallState_reports, State.removeAssignment_reports]
  cases hk : a.kind with
  | plain => rw [State.expire_of_plain ha hk]; exact hsame _
  | revert => rw [State.expire_of_revert ha hk]; exact hsame _

theorem State.removeAssignment_waiting_subset (s : State) (l : LineId) (c : CutCause) {m : LineId}
    (hm : m ∈ (s.removeAssignment l c).waiting) : m ∈ s.waiting := by
  cases ha : (s.line l).asg with
  | none => rwa [State.removeAssignment_of_none c ha] at hm
  | some a =>
    cases hp : a.placement with
    | waiting => rw [State.removeAssignment_of_waiting c ha hp] at hm; exact (List.mem_filter.1 hm).1
    | placed bus o n => rw [State.removeAssignment_of_placed c ha hp] at hm; cases bus <;> exact hm

/-- What the boundary keeps of a state, its expiries among it. -/
structure BoundaryKept (s t : State) : Prop extends FixedKept s t where
  sides : ∀ l, (t.line l).sides = (s.line l).sides
  dial : ∀ l, (t.line l).dial = (s.line l).dial
  leaks : ∀ l, (t.line l).leaks = (s.line l).leaks
  waiting : ∀ l, l ∈ t.waiting → l ∈ s.waiting
  reports : ∀ r, r ∈ s.reports.queue ∨ s.reports.lost = true → r ∈ t.reports.queue ∨ t.reports.lost = true

theorem BoundaryKept.refl (s : State) : BoundaryKept s s :=
  ⟨⟨rfl, rfl, rfl, rfl, rfl, rfl, rfl⟩, fun _ => rfl, fun _ => rfl, fun _ => rfl, fun _ => id, fun _ => id⟩

theorem BoundaryKept.trans {s t u : State} (h : BoundaryKept s t) (k : BoundaryKept t u) : BoundaryKept s u :=
  ⟨h.toFixedKept.trans k.toFixedKept, fun l => (k.sides l).trans (h.sides l), fun l => (k.dial l).trans (h.dial l),
    fun l => (k.leaks l).trans (h.leaks l), fun l hl => h.waiting l (k.waiting l hl),
    fun r hr => k.reports r (h.reports r hr)⟩

theorem BoundaryKept.expire (s : State) (l : LineId) : BoundaryKept s (s.expire l) := by
  have hline (m : LineId) : ((s.expire l).line m).sides = (s.line m).sides ∧
      ((s.expire l).line m).dial = (s.line m).dial ∧ ((s.expire l).line m).leaks = (s.line m).leaks := by
    by_cases e : m = l
    · subst e
      cases ha : (s.line m).asg with
      | none => rw [State.expire_of_none ha]; exact ⟨rfl, rfl, rfl⟩
      | some a =>
        rw [State.expire_line ha, Line.enter_sides, Line.enter_dial, Line.enter_leaks, State.removeAssignment_line_eq]
        exact ⟨rfl, rfl, rfl⟩
    · rw [s.expire_othersKept l m e]; exact ⟨rfl, rfl, rfl⟩
  refine ⟨s.expire_fixedKept l, fun m => (hline m).1, fun m => (hline m).2.1, fun m => (hline m).2.2, fun m hm => ?_,
    fun r hr => ?_⟩
  · exact s.removeAssignment_waiting_subset l .removal ((s.expire_scheduleKept l).waiting ▸ hm)
  · cases ha : (s.line l).asg with
    | none => rwa [State.expire_of_none ha]
    | some a => rw [State.expire_reports ha]; exact s.queueReport_keeps _ hr

theorem BoundaryKept.foldl (ls : List LineId) (s : State) : BoundaryKept s (ls.foldl State.expire s) :=
  foldl_preserves (P := BoundaryKept s) (fun t l h => h.trans (.expire t l)) ls (.refl s)

/-- What the counts of a cycle boundary make of a state. -/
theorem State.timeoutCount_expired (s : State) : BoundaryKept s.counted s.timeoutCount := .foldl _ _

/-- A line whose assignment goes on is only counted down. -/
theorem State.timeoutCount_line {s : State} {l : LineId} (h : (s.line l).endsAtBoundary 23 = false) :
    s.timeoutCount.line l = s.counted.line l := by
  refine foldl_line_of_not_mem State.expire_othersKept (fun hm => ?_) _
  exact absurd (h.symm.trans ((s.mem_counted_expiredLines l).1 hm)) nofun

theorem State.timeoutCount_of_goesOn {s : State} (h : ∀ l, (s.line l).endsAtBoundary 23 = false) :
    s.timeoutCount = s.counted := by
  have hnone : s.counted.expiredLines = [] := List.eq_nil_iff_forall_not_mem.2 fun l hm =>
    absurd ((h l).symm.trans ((s.mem_counted_expiredLines l).1 hm)) nofun
  exact congrArg (List.foldl State.expire s.counted) hnone

/-- A line whose assignment ends expires once, from the line as counted down (R45). -/
theorem State.timeoutCount_of_ends {s : State} {l : LineId} (h : (s.line l).endsAtBoundary 23 = true) :
    ∃ u : State, u.line l = s.counted.line l ∧ s.timeoutCount.line l = (u.expire l).line l ∧ BoundaryKept (u.expire l) s.timeoutCount := by
  obtain ⟨pre, post, hsplit⟩ := List.append_of_mem ((s.mem_counted_expiredLines l).2 h)
  have hnodup := hsplit ▸ s.counted.expiredLines_nodup
  have hpost : l ∉ post := (List.nodup_cons.1 (List.nodup_append.1 hnodup).2.1).1
  have hpre : l ∉ pre := fun hm => (List.nodup_append.1 hnodup).2.2 l hm l List.mem_cons_self rfl
  have hfold : s.timeoutCount = post.foldl State.expire ((pre.foldl State.expire s.counted).expire l) := by
    rw [State.timeoutCount]
    show s.counted.expiredLines.foldl State.expire s.counted = _
    rw [hsplit, List.foldl_append, List.foldl_cons]
  refine ⟨pre.foldl State.expire s.counted, foldl_line_of_not_mem State.expire_othersKept hpre _, ?_, ?_⟩
  · rw [hfold]; exact foldl_line_of_not_mem State.expire_othersKept hpost _
  · rw [hfold]; exact .foldl _ _

end Sys2Proof.Machine
end

section
/-! PROOFS. The state a slot boundary leaves before the walk of the waiting list, and the walk behind it (R42, R43). -/

namespace Sys2Proof.Machine

/-! ### A line at the boundary (R60, R61, R63) -/

section Line

variable {codes : CodeId → Pattern} {g : Slot} {x : Line}

/-- The boundary writes a line's relays, its scanner and its detector, and nothing else of it. -/
theorem Line.takeBoundary_eq (codes : CodeId → Pattern) (g : Slot) (x : Line) : x.takeBoundary codes g = { x with
    relay := (x.takeBoundary codes g).relay, scan := (x.takeBoundary codes g).scan
    det := (x.takeBoundary codes g).det } := by
  have hended : x.endDueQuench g = { x with
      relay := (x.endDueQuench g).relay, scan := (x.endDueQuench g).scan, det := (x.endDueQuench g).det } := by
    unfold Line.endDueQuench
    split <;> rfl
  have hkept := x.takeBoundary_kept codes g
  generalize x.takeBoundary codes g = y at hkept ⊢
  rw [hkept, hended]

theorem Assignment.burstAt_congr {a b : Assignment} (hp : b.placement = a.placement) (h₀ : b.stroke0 = a.stroke0)
    (h₁ : b.stroke1 = a.stroke1) (codes : CodeId → Pattern) (g : Slot) : b.burstAt codes g = a.burstAt codes g := by
  unfold Assignment.burstAt strokeAt strokeOver
  rw [hp, h₀, h₁]

/-- The count and the ageing of an assignment and the bursts of its line do not touch each other. -/
theorem Line.takeBoundary_map {f : Assignment → Assignment}
    (hf : ∀ a, (f a).placement = a.placement ∧ (f a).stroke0 = a.stroke0 ∧ (f a).stroke1 = a.stroke1) :
    ({ x with asg := x.asg.map f } : Line).takeBoundary codes g =
      { x.takeBoundary codes g with asg := x.asg.map f } := by
  have hended : ({ x with asg := x.asg.map f } : Line).endDueQuench g = { x.endDueQuench g with asg := x.asg.map f } := by
    unfold Line.endDueQuench
    split <;> rfl
  obtain ⟨-, hasg, -⟩ := x.endDueQuench_keeps g
  have hstart : ({ x.endDueQuench g with asg := x.asg.map f } : Line).burstStart codes g =
      (x.endDueQuench g).burstStart codes g := by
    unfold Line.burstStart
    rw [hasg, Option.bind_map]
    have hsame : (fun a => (f a).burstAt codes g) = fun a => a.burstAt codes g := funext fun a =>
      Assignment.burstAt_congr (hf a).1 (hf a).2.1 (hf a).2.2 codes g
    exact if_congr Iff.rfl (congrArg x.asg.bind hsame) rfl
  unfold Line.takeBoundary
  dsimp only
  rw [hended, hstart]
  split <;> rfl

theorem Line.endsAtBoundary_congr {y : Line} (h : y.asg = x.asg) (g : Slot) : y.endsAtBoundary g = x.endsAtBoundary g := by
  unfold Line.endsAtBoundary
  rw [h]

end Line

/-! ### The state before the walk -/

/-- The state a slot boundary leaves before the walk of the waiting list: the slot counter on, the bursts taken, the
assignments counted down and the waiting ones aged. -/
def State.crossed (sequencerFirst : Bool) (s : State) : State :=
  let z := { s with slot := s.slot + 1 }
  (if sequencerFirst then z.sequencerBoundary.plannerCount else z.plannerCount.sequencerBoundary).plannerAge

theorem exec_slotBoundary (first : Bool) (s : State) :
    exec (.slotBoundary first) s = .next (s.crossed first).plannerWalk.arbitrate := rfl

section Crossed

variable {first : Bool} {s : State} {l : LineId}

theorem State.sequencerBoundary_line (s : State) (l : LineId) :
    s.sequencerBoundary.line l = (s.line l).takeBoundary s.pattern s.slot := State.mapLines_line _ _ _

theorem BoundaryKept.sequencerBoundary (s : State) : BoundaryKept s s.sequencerBoundary := by
  refine ⟨⟨rfl, rfl, rfl, rfl, rfl, rfl, rfl⟩, fun l => ?_, fun l => ?_, fun l => ?_, fun _ => id, fun _ => id⟩ <;>
    rw [State.sequencerBoundary_line, Line.takeBoundary_eq]

theorem BoundaryKept.mapAssignments (s : State) (f : Assignment → Assignment) : BoundaryKept s (s.mapAssignments f) := by
  have hline (l : LineId) : (s.mapAssignments f).line l = { s.line l with asg := (s.line l).asg.map f } :=
    State.mapLines_line _ _ _
  refine ⟨⟨rfl, rfl, rfl, rfl, rfl, rfl, rfl⟩, fun l => ?_, fun l => ?_, fun l => ?_, fun _ => id, fun _ => id⟩ <;>
    rw [hline]

theorem BoundaryKept.plannerCount (s : State) : BoundaryKept s s.plannerCount := by
  unfold State.plannerCount
  split
  · exact (BoundaryKept.mapAssignments s Assignment.countDown).trans s.timeoutCount_expired
  · exact .refl s

theorem BoundaryKept.plannerAge (s : State) : BoundaryKept s s.plannerAge := by
  unfold State.plannerAge
  split
  · exact .mapAssignments s _
  · exact .refl s

theorem BoundaryKept.crossed (first : Bool) (s : State) : BoundaryKept { s with slot := s.slot + 1 } (s.crossed first) := by
  refine BoundaryKept.trans ?_ (.plannerAge _)
  split
  · exact (BoundaryKept.sequencerBoundary _).trans (.plannerCount _)
  · exact (BoundaryKept.plannerCount _).trans (.sequencerBoundary _)

theorem Slot.add_one_eq_zero (g : Slot) : g + 1 = 0 ↔ g = 23 := by revert g; decide

theorem State.crossed_of_inside (h : s.slot ≠ 23) (first : Bool) :
    s.crossed first = ({ s with slot := s.slot + 1 } : State).sequencerBoundary := by
  have hne : ¬s.slot + 1 = 0 := fun e => h ((Slot.add_one_eq_zero _).1 e)
  have hcount (t : State) (ht : t.slot = s.slot + 1) : t.plannerCount = t := if_neg (by rw [ht]; exact hne)
  have hage (t : State) (ht : t.slot = s.slot + 1) : t.plannerAge = t := if_neg (by rw [ht]; exact hne)
  unfold State.crossed
  dsimp only
  rw [hcount _ rfl, hcount _ rfl, ite_self, hage _ rfl]

/-- At a cycle boundary the counts come before or behind the bursts, and the ageing behind both (R42, R45). -/
theorem State.crossed_of_cycle (h : s.slot = 23) (first : Bool) : s.crossed first =
    (if first then ({ s with slot := s.slot + 1 } : State).sequencerBoundary.timeoutCount
      else ({ s with slot := s.slot + 1 } : State).timeoutCount.sequencerBoundary).mapAssignments Assignment.age := by
  have hzero : s.slot + 1 = 0 := (Slot.add_one_eq_zero _).2 h
  have hcount (t : State) (ht : t.slot = s.slot + 1) : t.plannerCount = t.timeoutCount := if_pos (ht.trans hzero)
  have hage (t : State) (ht : t.slot = s.slot + 1) : t.plannerAge = t.mapAssignments Assignment.age :=
    if_pos (ht.trans hzero)
  have hslot : (if first then ({ s with slot := s.slot + 1 } : State).sequencerBoundary.timeoutCount
      else ({ s with slot := s.slot + 1 } : State).timeoutCount.sequencerBoundary).slot = s.slot + 1 := by
    split
    · exact (State.timeoutCount_expired _).slot
    · exact (BoundaryKept.sequencerBoundary _).slot.trans (State.timeoutCount_expired _).slot
  unfold State.crossed
  dsimp only
  rw [hcount _ rfl, hcount _ rfl, hage _ hslot]

theorem Assignment.countDown_plan (a : Assignment) :
    a.countDown.placement = a.placement ∧ a.countDown.stroke0 = a.stroke0 ∧ a.countDown.stroke1 = a.stroke1 := by
  unfold Assignment.countDown
  split <;> exact ⟨rfl, rfl, rfl⟩

theorem Option.map_crossed_of_inside {g : Slot} (h : g ≠ 23) (o : Option Assignment) : o.map (·.crossed g) = o := by
  have hsame : (fun a : Assignment => a.crossed g) = id := funext fun _ => if_neg h
  rw [hsame, Option.map_id, id]

theorem Option.map_crossed_of_cycle {g : Slot} (h : g = 23) (o : Option Assignment) :
    o.map (·.crossed g) = (o.map Assignment.countDown).map Assignment.age := by
  have hsame : (fun a : Assignment => a.crossed g) = Assignment.age ∘ Assignment.countDown := funext fun _ => if_pos h
  rw [hsame, ← Option.map_map]

/-- A line whose assignment goes on takes the boundary, and its assignment is counted down and aged. -/
theorem State.crossed_line (h : (s.line l).endsAtBoundary s.slot = false) : (s.crossed first).line l =
    { (s.line l).takeBoundary s.pattern (s.slot + 1) with asg := (s.line l).asg.map (·.crossed s.slot) } := by
  have hburst := ({ s with slot := s.slot + 1 } : State).sequencerBoundary_line l
  by_cases hslot : s.slot = 23
  · have hends : (s.line l).endsAtBoundary 23 = false := by rwa [hslot] at h
    have hcounted : (if first then ({ s with slot := s.slot + 1 } : State).sequencerBoundary.timeoutCount
        else ({ s with slot := s.slot + 1 } : State).timeoutCount.sequencerBoundary).line l =
        { (s.line l).takeBoundary s.pattern (s.slot + 1) with asg := (s.line l).asg.map Assignment.countDown } := by
      cases first with
      | true =>
        have hasg : (({ s with slot := s.slot + 1 } : State).sequencerBoundary.line l).asg = (s.line l).asg := by
          rw [hburst]; exact Line.takeBoundary_asg _ _ _
        have hgoes := (Line.endsAtBoundary_congr hasg 23).trans hends
        refine (State.timeoutCount_line hgoes).trans ?_
        rw [State.counted_line, hasg, hburst]
        rfl
      | false =>
        have hgoes : (({ s with slot := s.slot + 1 } : State).line l).endsAtBoundary 23 = false := hends
        have hkept := State.timeoutCount_expired { s with slot := s.slot + 1 }
        have hcount := (State.timeoutCount_line hgoes).trans (State.counted_line _ l)
        have hpattern : (State.timeoutCount { s with slot := s.slot + 1 }).pattern = s.pattern :=
          congrArg (fun c (k : CodeId) => c.get k) hkept.codes
        have hslot' : (State.timeoutCount { s with slot := s.slot + 1 }).slot = s.slot + 1 := hkept.slot
        refine (State.sequencerBoundary_line _ l).trans ?_
        rw [hpattern, hslot', hcount]
        exact Line.takeBoundary_map Assignment.countDown_plan
    rw [State.crossed_of_cycle hslot]
    refine (State.mapLines_line _ _ l).trans ?_
    rw [hcounted, Option.map_crossed_of_cycle hslot]
  · rw [State.crossed_of_inside hslot, hburst, Option.map_crossed_of_inside hslot, ← Line.takeBoundary_asg s.pattern (s.slot + 1)]
    rfl

/-- With no assignment at its end the boundary writes the lines and the slot counter, and nothing else. -/
theorem State.crossed_of_goesOn (h : ∀ l, (s.line l).endsAtBoundary s.slot = false) :
    s.crossed first = { s with slot := s.slot + 1, lines := (s.crossed first).lines } := by
  by_cases hslot : s.slot = 23
  · have hends (l : LineId) : (s.line l).endsAtBoundary 23 = false := by have := h l; rwa [hslot] at this
    have hseq : ({ s with slot := s.slot + 1 } : State).sequencerBoundary.timeoutCount =
        ({ s with slot := s.slot + 1 } : State).sequencerBoundary.counted :=
      State.timeoutCount_of_goesOn fun l => by
        refine (Line.endsAtBoundary_congr ?_ 23).trans (hends l)
        rw [State.sequencerBoundary_line]
        exact Line.takeBoundary_asg _ _ _
    have hplan : ({ s with slot := s.slot + 1 } : State).timeoutCount = ({ s with slot := s.slot + 1 } : State).counted :=
      State.timeoutCount_of_goesOn hends
    rw [State.crossed_of_cycle hslot, hseq, hplan]
    split <;> rfl
  · rw [State.crossed_of_inside hslot]
    rfl

end Crossed

end Sys2Proof.Machine
end

section
/-! PROOFS. The waiting list at a slot boundary at which no assignment ends (R42, R43). -/

namespace Sys2Proof.Machine

section Head

variable {s : State} {first : Bool} {m : LineId} {a : Assignment} {pre post : List LineId}

/-- A placement attempt reads an assignment's strokes alone (R36). -/
theorem State.search_stroked {a b : Assignment} (h₀ : b.stroke0 = a.stroke0) (h₁ : b.stroke1 = a.stroke1) (s : State) :
    s.search b = s.search a := by
  unfold State.search State.fits loadAt strokeAt strokeOver
  rw [h₀, h₁]

theorem State.waitedAfter_eq (s : State) (a : Assignment) : (a.crossed s.slot).waited = s.waitedAfter a := by
  have hplan := a.countDown_plan.1
  have hwaited : a.countDown.waited = a.waited := by unfold Assignment.countDown; split <;> rfl
  unfold State.waitedAfter Assignment.crossed
  by_cases h : s.slot = 23
  · rw [if_pos h, Assignment.age]
    cases hp : a.placement with
    | waiting => rw [hplan, hp, if_pos ⟨h, rfl⟩, ← hwaited]
    | placed bus o n => rw [hplan, hp, if_neg fun hc => absurd hc.2 nofun, ← hwaited]
  · rw [if_neg h, if_neg fun hc => h hc.1]

/-- At a boundary that ends no assignment an entry's attempt is the one the state before it would make. -/
theorem State.crossed_search (h : ∀ l, (s.line l).endsAtBoundary s.slot = false) (a : Assignment) :
    (s.crossed first).search (a.crossed s.slot) = State.search { s with slot := s.slot + 1 } a := by
  have hstrokes := a.crossed_eq s.slot
  have hattempt : (s.crossed first).search (a.crossed s.slot) = (s.crossed first).search a :=
    State.search_stroked (by rw [hstrokes]) (by rw [hstrokes]) _
  rw [hattempt, State.crossed_of_goesOn h]
  rfl

theorem State.crossed_asg (h : (s.line m).endsAtBoundary s.slot = false) :
    ((s.crossed first).line m).asg = (s.line m).asg.map (·.crossed s.slot) := by
  rw [State.crossed_line h]

theorem State.PassesOver.crossed (h : ∀ l, (s.line l).endsAtBoundary s.slot = false) (hp : s.PassesOver m) :
    ∃ b, ((s.crossed first).line m).asg = some b ∧ (s.crossed first).search b = none ∧ b.waited < 2 := by
  obtain ⟨b, hb, hsearch, hwaited⟩ := hp
  refine ⟨b.crossed s.slot, ?_, (s.crossed_search h b).trans hsearch, s.waitedAfter_eq b ▸ hwaited⟩
  rw [State.crossed_asg (h m), hb, Option.map_some]

theorem Option.map_placement_crossed (g : Slot) (o : Option Assignment) :
    (o.map (·.crossed g)).map Assignment.placement = o.map Assignment.placement := by
  rw [Option.map_map]
  refine congrArg (fun f => o.map f) (funext fun a => ?_)
  have h := a.crossed_eq g
  show (a.crossed g).placement = a.placement
  rw [h]

/-- No assignment has moved between two states. -/
def Unmoved (s t : State) : Prop :=
  t.waiting = s.waiting ∧ t.busA = s.busA ∧ t.busB = s.busB ∧ t.placedCount = s.placedCount ∧
    ∀ l, (t.line l).asg.map Assignment.placement = (s.line l).asg.map Assignment.placement

theorem Unmoved.arbitrated {s t : State} (h : Unmoved s t) : Unmoved s t.arbitrate := by
  obtain ⟨hwaiting, ha, hb, hcount, hasg⟩ := h
  have hkept := State.arbitrate_scheduleKept t
  refine ⟨hkept.waiting.trans hwaiting, hkept.busA.trans ha, hkept.busB.trans hb, hkept.placedCount.trans hcount, fun l => ?_⟩
  rw [State.arbitrate_line, hasg]

/-- Before its walk a boundary that ends no assignment moves none. -/
theorem State.crossed_unmoved (h : ∀ l, (s.line l).endsAtBoundary s.slot = false) : Unmoved s (s.crossed first) := by
  have hframe : s.crossed first = _ := State.crossed_of_goesOn h
  refine ⟨?_, ?_, ?_, ?_, fun l => ?_⟩
  · rw [hframe]
  · rw [hframe]
  · rw [hframe]
  · rw [hframe]
  · rw [State.crossed_asg (h l), Option.map_placement_crossed]

/-- Behind the entries that are passed over, the first that fits is placed as its attempt has it, and those passed over
wait on. -/
theorem State.walk_first_fit {o : Slot} {bus : Bus} (hnodup : (pre ++ m :: post).Nodup)
    (hpre : ∀ p ∈ pre, ∃ b, (s.line p).asg = some b ∧ s.search b = none ∧ b.waited < 2)
    (ha : (s.line m).asg = some a) (hsearch : s.search a = some (o, bus)) :
    ((walk (pre ++ m :: post) s).line m).asg = some { a with placement := .placed bus o s.placedCount } ∧
      m ∉ (walk (pre ++ m :: post) s).waiting ∧
      ∀ p ∈ pre, (p ∈ s.waiting → p ∈ (walk (pre ++ m :: post) s).waiting) ∧
        (walk (pre ++ m :: post) s).line p = s.line p := by
  obtain ⟨-, hrest, hdisjoint⟩ := List.nodup_append.1 hnodup
  have hpost : m ∉ post := (List.nodup_cons.1 hrest).1
  rw [walk_passes_all hpre, walk_places ha hsearch]
  have hwalked := walked post (s.place m a bus o)
  have hplaced := Walked.place ha bus o
  refine ⟨?_, fun hm => ?_, fun p hp => ?_⟩
  · rw [(hwalked.unvisited m hpost).1, State.place_line, if_pos rfl]
  · have hw := hwalked.waiting m hm
    rw [State.place_waiting] at hw
    exact absurd rfl (of_decide_eq_true (List.mem_filter.1 hw).2)
  · have hne : p ∉ [m] := fun e => hdisjoint p hp m List.mem_cons_self (List.mem_singleton.1 e)
    have hnot : p ∉ post := fun e => hdisjoint p hp p (List.mem_cons_of_mem _ e) rfl
    obtain ⟨hline, hmem⟩ := hwalked.unvisited p hnot
    obtain ⟨hline', hmem'⟩ := hplaced.unvisited p hne
    exact ⟨fun hw => hmem (hmem' hw), hline.trans hline'⟩

end Head

/-- Settles O29. -/
theorem waitingListHeadAtASlotBoundary : Obligations.WaitingListHeadAtASlotBoundary := by
  unfold Obligations.WaitingListHeadAtASlotBoundary
  refine ⟨fun first s hgoes => ⟨_, exec_slotBoundary first s, fun l a ha => ?_,
    fun pre m post hsplit hnodup hpre a ha => ⟨fun o bus hsearch => ?_, fun hsearch haged => ?_⟩, fun hall => ?_⟩,
    fun u pre post m a o bus hpre ha hsearch => (walk_passes_all hpre).trans (walk_places ha hsearch)⟩
  · have hcrossed := a.crossed_eq s.slot
    obtain ⟨p, hp⟩ := (walked (s.crossed first).waiting (s.crossed first)).asg l
    rw [State.crossed_asg (hgoes l), ha] at hp
    refine ⟨{ a.crossed s.slot with placement := p }, by rw [State.arbitrate_line]; exact hp, ?_⟩
    refine ⟨?_, ?_, ?_, ?_, s.waitedAfter_eq a⟩ <;> rw [hcrossed]
  · obtain ⟨hwait, -, -, hcount, -⟩ := State.crossed_unmoved (first := first) hgoes
    have hwaiting : (s.crossed first).waiting = pre ++ m :: post := hwait.trans hsplit
    have hentry : ((s.crossed first).line m).asg = some (a.crossed s.slot) := by rw [State.crossed_asg (hgoes m), ha]; rfl
    obtain ⟨hplaced, hoff, hpassed⟩ := State.walk_first_fit (hsplit ▸ hnodup) (fun p hp => (hpre p hp).crossed hgoes) hentry
      ((s.crossed_search hgoes a).trans hsearch)
    rw [← hwaiting] at hplaced hoff hpassed
    refine ⟨⟨_, by rw [State.arbitrate_line]; exact hplaced, by rw [hcount]⟩, ?_, fun p hp => ⟨?_, fun b hb => ?_⟩⟩
    · rw [(State.arbitrate_scheduleKept _).waiting]; exact hoff
    · rw [(State.arbitrate_scheduleKept _).waiting]
      exact (hpassed p hp).1 (hwaiting ▸ List.mem_append_left _ hp)
    · refine ⟨b.crossed s.slot, ?_, by rw [b.crossed_eq s.slot]⟩
      rw [State.arbitrate_line]
      refine (congrArg Line.asg (hpassed p hp).2).trans ?_
      rw [State.crossed_asg (hgoes p), hb]
      rfl
  · have hunmoved := State.crossed_unmoved (first := first) hgoes
    have hentry : ((s.crossed first).line m).asg = some (a.crossed s.slot) := by rw [State.crossed_asg (hgoes m), ha]; rfl
    have hwalk : (s.crossed first).plannerWalk = s.crossed first := by
      rw [State.plannerWalk, hunmoved.1.trans hsplit, walk_passes_all fun p hp => (hpre p hp).crossed hgoes]
      exact walk_held hentry ((s.crossed_search hgoes a).trans hsearch) (s.waitedAfter_eq a ▸ haged)
    rw [hwalk]
    exact hunmoved.arbitrated
  · have hunmoved := State.crossed_unmoved (first := first) hgoes
    have hwalk : (s.crossed first).plannerWalk = s.crossed first := by
      have hpassed := walk_passes_all (ls := []) fun p hp => (hall p (hunmoved.1 ▸ hp)).crossed (first := first) hgoes
      rwa [List.append_nil] at hpassed
    rw [hwalk]
    exact hunmoved.arbitrated

end Sys2Proof.Machine
end

section
/-! PROOFS. The bursts of a slot boundary on one line, and on every line (R60, R61, R63). -/

namespace Sys2Proof.Machine

section Bursts

variable {codes : CodeId → Pattern} {g : Slot} {x : Line}

/-! ### One line at the boundary -/

theorem Line.endDueQuench_of_not_quench (h : x.relay.phase ≠ .quench) (g : Slot) : x.endDueQuench g = x := by
  refine if_neg fun hdue => h ?_
  exact of_decide_eq_true (Bool.and_eq_true_iff.1 hdue).1

theorem Line.burstStart_of_not_silent (h : x.relay.phase ≠ .silent) (codes : CodeId → Pattern) (g : Slot) :
    x.burstStart codes g = none := if_neg fun hs => h hs.1

/-- A line on which no burst begins records whether it is SILENT, behind the end of its QUENCH. -/
theorem Line.takeBoundary_of_no_burst (h : (x.endDueQuench g).burstStart codes g = none) :
    x.takeBoundary codes g = { x.endDueQuench g with
      relay := { (x.endDueQuench g).relay with quiet := decide ((x.endDueQuench g).relay.phase = .silent) } } := by
  unfold Line.takeBoundary
  dsimp only
  rw [h]

theorem Line.takeBoundary_of_burst {b : BurstStart} (h : (x.endDueQuench g).burstStart codes g = some b) :
    x.takeBoundary codes g = { (x.endDueQuench g).arm b with
      relay := { ((x.endDueQuench g).arm b).relay with quiet := false } } := by
  unfold Line.takeBoundary
  dsimp only
  rw [h]
  rfl

/-- In ARM and in RING the boundary changes the quiet field alone. -/
theorem Line.takeBoundary_of_driven (h : x.relay.phase = .arm ∨ x.relay.phase = .ring) :
    x.takeBoundary codes g = { x with relay := { x.relay with quiet := false } } := by
  have hquench : x.relay.phase ≠ .quench := by rcases h with h | h <;> rw [h] <;> nofun
  have hsilent : x.relay.phase ≠ .silent := by rcases h with h | h <;> rw [h] <;> nofun
  have hended := x.endDueQuench_of_not_quench hquench g
  rw [Line.takeBoundary_of_no_burst (hended.symm ▸ x.burstStart_of_not_silent hsilent codes g), hended,
    decide_eq_false hsilent]

/-- A QUENCH that is due ends, and no burst begins on a line that was not quiet (R60, R63). -/
theorem Line.takeBoundary_of_due (h : x.relay.quenchDue g = true) (hquiet : x.relay.quiet = false) :
    x.takeBoundary codes g = { x.endQuench with relay := { x.endQuench.relay with quiet := true } } := by
  have hended : x.endDueQuench g = x.endQuench := if_pos h
  have hstays : x.endQuench.relay.quiet = x.relay.quiet := by rw [Line.endQuench_eq]
  have hnone : x.endQuench.burstStart codes g = none := if_neg fun hs =>
    Bool.false_ne_true ((hstays.trans hquiet).symm.trans hs.2)
  rw [Line.takeBoundary_of_no_burst (hended.symm ▸ hnone), hended]
  rfl

/-- A QUENCH that is not due goes on. -/
theorem Line.takeBoundary_of_quench (hphase : x.relay.phase = .quench) (h : x.relay.quenchDue g = false) :
    x.takeBoundary codes g = { x with relay := { x.relay with quiet := false } } := by
  have hsilent : x.relay.phase ≠ .silent := by rw [hphase]; nofun
  have hended : x.endDueQuench g = x := if_neg (by rw [h]; nofun)
  rw [Line.takeBoundary_of_no_burst (hended.symm ▸ x.burstStart_of_not_silent hsilent codes g), hended,
    decide_eq_false hsilent]

theorem Line.takeBoundary_of_silent (hphase : x.relay.phase = .silent) (h : x.burstStart codes g = none) :
    x.takeBoundary codes g = { x with relay := { x.relay with quiet := true } } := by
  have hended := x.endDueQuench_of_not_quench (by rw [hphase]; nofun) g
  rw [Line.takeBoundary_of_no_burst (hended.symm ▸ h), hended, decide_eq_true hphase]

/-! ### The burst that begins (R60) -/

theorem strokeOver_eq (a : Assignment) (o g : Slot) :
    strokeOver a o g = (a.strokeOfHalf (placeOf o g)).map fun k => (k, placeOf o g % 12) := by
  have hlt := placeOf_lt o g
  unfold strokeOver Assignment.strokeOfHalf
  generalize placeOf o g = p at hlt
  by_cases hp : p < 12
  · rw [if_pos hp, if_pos hp, Nat.mod_eq_of_lt hp]; rfl
  · have hmod : p % 12 = p - 12 := by omega
    rw [if_neg hp, if_neg hp, hmod]

variable {a : Assignment} {bus : Bus} {o : Slot} {n : Nat}

theorem Assignment.burstAt_of_begins {k : Stroke} (hp : a.placement = .placed bus o n)
    (hk : strokeAt codes a o g = some k) (hbefore : strokeAt codes a o (g - 1) = none) :
    ∃ b ∈ codes k.code, b.start ≤ placeOf o g % 12 ∧ placeOf o g % 12 < b.start + b.length ∧
      a.burstAt codes g = some ⟨bus, k.side, g + Fin.ofNat 24 (b.length - 1)⟩ := by
  obtain ⟨hhalf, hrings⟩ := (strokeAt_eq_some_iff codes a o g k).1 hk
  obtain ⟨b, hfind⟩ := Option.isSome_iff_exists.1 (List.find?_isSome.2 (List.any_eq_true.1 hrings))
  have hb := List.find?_some hfind
  obtain ⟨hstart, hend⟩ := Bool.and_eq_true_iff.1 hb
  refine ⟨b, List.mem_of_find?_eq_some hfind, of_decide_eq_true hstart, of_decide_eq_true hend, ?_⟩
  unfold Assignment.burstAt
  rw [hp]
  simp only [strokeOver_eq, hhalf, Option.map_some, hbefore]
  rw [hfind]
  rfl

theorem Assignment.burstAt_of_no_stroke (hp : a.placement = .placed bus o n)
    (h : strokeAt codes a o g = none ∨ strokeAt codes a o (g - 1) ≠ none) : a.burstAt codes g = none := by
  unfold Assignment.burstAt
  rw [hp]
  dsimp only
  split
  · rename_i k p hover hbefore
    rcases h with hnone | hsome
    · have hsilent : ringsAt (codes k.code) p = false := by
        refine Bool.eq_false_iff.2 fun hr => ?_
        unfold strokeAt at hnone
        rw [hover] at hnone
        dsimp only at hnone
        rw [if_pos hr] at hnone
        exact absurd hnone nofun
      have hno : (codes k.code).find? (fun b => b.rings p) = none :=
        List.find?_eq_none.2 fun b hb hr => Bool.false_ne_true (hsilent.symm.trans (List.any_eq_true.2 ⟨b, hb, hr⟩))
      rw [hno]
      rfl
    · exact absurd hbefore hsome
  · rfl

/-- No burst begins on a line that is not quiet, has nothing placed, or whose assignment does not start a stroke (R60). -/
theorem Line.burstStart_of_no_stroke (h : x.relay.quiet = false ∨ x.placed = none ∨
    ∀ a bus o n, x.placed = some (a, bus, o, n) → strokeAt codes a o g = none ∨ strokeAt codes a o (g - 1) ≠ none) :
    x.burstStart codes g = none := by
  unfold Line.burstStart
  split
  · rename_i hs
    cases ha : x.asg with
    | none => rfl
    | some a =>
      refine Option.bind_some .. |>.trans ?_
      cases hp : a.placement with
      | waiting => unfold Assignment.burstAt; rw [hp]
      | placed bus o n =>
        have hplaced : x.placed = some (a, bus, o, n) := Line.placed_eq_some_iff.2 ⟨ha, hp⟩
        rcases h with h | h | h
        · exact absurd (h.symm.trans hs.2) Bool.false_ne_true
        · exact absurd (hplaced.symm.trans h) nofun
        · exact Assignment.burstAt_of_no_stroke hp (h a bus o n hplaced)
  · rfl

/-- A burst begins on a SILENT and quiet line whose assignment starts a stroke (R60, R95). -/
theorem Line.takeBoundary_begins {k : Stroke} (hphase : x.relay.phase = .silent) (hquiet : x.relay.quiet = true)
    (hplaced : x.placed = some (a, bus, o, n)) (hk : strokeAt codes a o g = some k)
    (hbefore : strokeAt codes a o (g - 1) = none) :
    ∃ b ∈ codes k.code, b.start ≤ placeOf o g % 12 ∧ placeOf o g % 12 < b.start + b.length ∧
      x.takeBoundary codes g = { x with
        relay := { x.relay with phase := .arm, bus := some bus, side := some k.side
                                lastSlot := some (g + Fin.ofNat 24 (b.length - 1)), quiet := false, timer := some 20 }
        scan := { x.scan with filterCount := 0, reacquireCount := 0, reacquiring := false, closedHold := none
                              breakTimer := none, makeTimer := none } } := by
  obtain ⟨ha, hp⟩ := Line.placed_eq_some_iff.1 hplaced
  obtain ⟨b, hb, hstart, hend, hburst⟩ := Assignment.burstAt_of_begins hp hk hbefore
  have hended := x.endDueQuench_of_not_quench (by rw [hphase]; nofun) g
  have hbegins : x.burstStart codes g = some ⟨bus, k.side, g + Fin.ofNat 24 (b.length - 1)⟩ := by
    rw [Line.burstStart, if_pos ⟨hphase, hquiet⟩, ha]
    exact hburst
  refine ⟨b, hb, hstart, hend, ?_⟩
  rw [Line.takeBoundary_of_burst (hended.symm ▸ hbegins), hended]
  rfl

end Bursts

/-! ### Every line at the boundary -/

section Boundary

variable {first : Bool} {s : State} {l : LineId}

theorem RelayRecord.quenchDue_iff {g : Slot} {r : RelayRecord} (h : r.phase = .quench) :
    r.quenchDue g = true ↔ r.quenchKind = some .normal ∨ r.lastSlot = some (g - 1) := by
  rw [RelayRecord.quenchDue, h, decide_eq_true rfl, Bool.true_and, Bool.or_eq_true, decide_eq_true_eq, decide_eq_true_eq]

/-- A line whose assignment goes on is behind the boundary as the sequencer leaves it, but for its assignment. -/
theorem State.walked_line (h : (s.line l).endsAtBoundary s.slot = false) :
    (s.crossed first).plannerWalk.arbitrate.line l = { (s.line l).takeBoundary s.pattern (s.slot + 1) with
      asg := ((s.crossed first).plannerWalk.arbitrate.line l).asg } := by
  have hwalked := (walked (s.crossed first).waiting (s.crossed first)).line l
  have hline := State.crossed_line (first := first) h
  rw [State.arbitrate_line, State.plannerWalk]
  generalize (walk (s.crossed first).waiting (s.crossed first)).line l = y at hwalked ⊢
  generalize (s.crossed first).line l = v at hwalked hline
  rw [hwalked, hline]

/-- What a whole boundary keeps of a state before it. -/
theorem State.walked_frame (first : Bool) (s : State) : (s.crossed first).plannerWalk.arbitrate = { s with
    slot := s.slot + 1, lines := (s.crossed first).plannerWalk.arbitrate.lines
    busA := (s.crossed first).plannerWalk.arbitrate.busA, busB := (s.crossed first).plannerWalk.arbitrate.busB
    waiting := (s.crossed first).plannerWalk.arbitrate.waiting, msu := (s.crossed first).plannerWalk.arbitrate.msu
    reports := (s.crossed first).reports, placedCount := (s.crossed first).plannerWalk.arbitrate.placedCount } := by
  have hcrossed := (BoundaryKept.crossed first s).eq
  have hwalked : (s.crossed first).plannerWalk = _ := (walked (s.crossed first).waiting (s.crossed first)).frame
  have harbitrate := (s.crossed first).plannerWalk.arbitrate_eq
  generalize (s.crossed first).plannerWalk.arbitrate = t at harbitrate ⊢
  generalize (s.crossed first).plannerWalk = w at hwalked harbitrate
  generalize s.crossed first = z at hcrossed hwalked ⊢
  rw [harbitrate, hwalked, hcrossed]

end Boundary

/-- Settles O27. -/
theorem slotBoundaryBeginsAndEndsBursts : Obligations.SlotBoundaryBeginsAndEndsBursts := by
  unfold Obligations.SlotBoundaryBeginsAndEndsBursts
  refine fun first s => ⟨_, exec_slotBoundary first s, ?_, fun l hgoes => ?_, fun l => ?_, fun hgoes => ?_, ?_⟩
  · rw [State.walked_frame]
  · have hline := State.walked_line (first := first) hgoes
    have hback : s.slot + 1 - 1 = s.slot := add_sub_cancel_right _ _
    generalize (s.crossed first).plannerWalk.arbitrate.line l = y at hline ⊢
    generalize s.line l = x at hline ⊢
    generalize hg : s.slot + 1 = g at hline hback ⊢
    rw [hline]
    refine ⟨fun hphase hquiet a bus o n hplaced k hk hbefore => ?_, fun hphase hno => ?_, fun hdriven => ?_,
      fun hphase hquiet hdue => ?_, fun hphase hkind hlast => ?_, ?_, ?_, ?_⟩
    · obtain ⟨b, hb, hstart, hend, hbegins⟩ := Line.takeBoundary_begins hphase hquiet hplaced hk (hback.symm ▸ hbefore)
      rw [hbegins]
      exact ⟨rfl, ⟨b, hb, hstart, hend, rfl⟩, rfl⟩
    · rw [← hback] at hno
      rw [Line.takeBoundary_of_silent hphase (Line.burstStart_of_no_stroke hno)]
      exact ⟨rfl, rfl, rfl⟩
    · rw [Line.takeBoundary_of_driven hdriven]
      exact ⟨rfl, rfl, rfl⟩
    · rw [← hback] at hdue
      rw [Line.takeBoundary_of_due ((RelayRecord.quenchDue_iff hphase).2 hdue) hquiet, Line.endQuench_eq]
      exact ⟨rfl, rfl, rfl⟩
    · have hnot : x.relay.quenchDue g = false := Bool.eq_false_iff.2 fun hdue =>
        ((RelayRecord.quenchDue_iff hphase).1 hdue).elim hkind fun h => hlast (h.trans (congrArg some hback))
      rw [Line.takeBoundary_of_quench hphase hnot]
      exact ⟨rfl, rfl, rfl⟩
    · rw [Line.takeBoundary_eq]
    · rw [Line.takeBoundary_eq]
    · rw [Line.takeBoundary_eq]
  · have hkept := BoundaryKept.crossed first s
    have hwalked := (walked (s.crossed first).waiting (s.crossed first)).line l
    rw [State.arbitrate_line, State.plannerWalk, hwalked]
    exact ⟨hkept.sides l, hkept.dial l, hkept.leaks l⟩
  · have hreports := congrArg State.reports (State.crossed_of_goesOn (first := first) hgoes)
    rw [State.walked_frame]
    exact hreports
  · rw [State.walked_frame]
    exact ⟨rfl, rfl, rfl, rfl⟩

end Sys2Proof.Machine
end

section
/-! PROOFS. The timeout count of a cycle boundary and the expiries it brings (R42, R44, R45). -/

namespace Sys2Proof.Machine

/-! ### An assignment that goes on (R44) -/

section GoesOn

variable {first : Bool} {s : State} {l : LineId} {a : Assignment}

/-- An assignment that goes on is behind the boundary as it was, but for its counts and a placement by the walk. -/
theorem State.walked_asg (h : (s.line l).endsAtBoundary s.slot = false) (ha : (s.line l).asg = some a) :
    ∃ b ∈ ((s.crossed first).plannerWalk.arbitrate.line l).asg,
      Assignment.SameRing (a.crossed s.slot) b ∧ b.waited = s.waitedAfter a := by
  obtain ⟨p, hp⟩ := (walked (s.crossed first).waiting (s.crossed first)).asg l
  rw [State.crossed_asg h, ha] at hp
  exact ⟨{ a.crossed s.slot with placement := p }, by rw [State.arbitrate_line]; exact hp,
    ⟨rfl, rfl, rfl, rfl, rfl, rfl⟩, s.waitedAfter_eq a⟩

theorem Assignment.age_sameRing (a : Assignment) : Assignment.SameRing a a.age := by
  unfold Assignment.age
  split <;> exact ⟨rfl, rfl, rfl, rfl, rfl, rfl⟩

/-- At a cycle boundary such an assignment is counted down, and one boundary older if it waits. -/
theorem State.walked_asg_of_cycle (hslot : s.slot = 23) (h : (s.line l).endsAtBoundary s.slot = false)
    (ha : (s.line l).asg = some a) :
    ∃ b ∈ ((s.crossed first).plannerWalk.arbitrate.line l).asg, Assignment.SameRing a.countDown b ∧
      b.waited = if a.placement = .waiting then min 2 (a.waited + 1) else a.waited := by
  obtain ⟨b, hb, hring, hwaited⟩ := State.walked_asg (first := first) h ha
  refine ⟨b, hb, ?_, hwaited.trans (if_congr (and_iff_right hslot) rfl rfl)⟩
  obtain ⟨hkind, h₀, h₁, hcycles, hskipped, horder⟩ := hring
  obtain ⟨gkind, g₀, g₁, gcycles, gskipped, gorder⟩ := a.countDown.age_sameRing
  have hcrossed : a.crossed s.slot = a.countDown.age := if_pos hslot
  rw [hcrossed] at hkind h₀ h₁ hcycles hskipped horder
  exact ⟨hkind.trans gkind, h₀.trans g₀, h₁.trans g₁, hcycles.trans gcycles, hskipped.trans gskipped, horder.trans gorder⟩

theorem Line.endsAtBoundary_of_asg {x : Line} {g : Slot} (ha : x.asg = some a) (hg : g = 23) :
    x.endsAtBoundary g = if a.skipped then decide (a.cyclesLeft ≤ 1) else decide (a.cyclesLeft = 0) := by
  unfold Line.endsAtBoundary
  rw [ha, hg]
  dsimp only
  rw [decide_eq_true rfl, Bool.true_and]

end GoesOn

/-! ### An assignment that ends (R45, R140, R154) -/

section Ends

variable {s t u : State} {l : LineId} {b : Assignment} {x : Line}

/-- What is left of a line whose ring, of an assignment, has ended with NO_ANSWER. -/
structure Ended (l : LineId) (x : Line) (b : Assignment) (t : State) : Prop where
  asg : (t.line l).asg = none
  idle : (t.line l).record.callState = .idle
  undriven : (t.line l).relay.phase = .silent ∨ (t.line l).relay.phase = .quench
  call : (t.line l).call = x.call.expired b.kind
  waiting : b.placement = .waiting → l ∉ t.waiting
  told : .noAnswer l (x.unanswered b.kind) ∈ t.reports.queue ∨ t.reports.lost = true

theorem State.not_mem_removeAssignment_waiting (hb : (s.line l).asg = some b) (hp : b.placement = .waiting) (c : CutCause) :
    l ∉ (s.removeAssignment l c).waiting := by
  rw [State.removeAssignment_of_waiting c hb hp]
  exact fun hm => absurd rfl (of_decide_eq_true (List.mem_filter.1 hm).2)

theorem Ended.expire (hb : (u.line l).asg = some b)
    (hdriven : (u.line l).relay.phase = .arm ∨ (u.line l).relay.phase = .ring → (u.line l).placedBus.isSome = true) :
    Ended l (u.line l) b (u.expire l) := by
  have hremoved := u.removeAssignment_line_eq l .removal
  refine ⟨?_, ?_, ?_, ?_, fun hp => ?_, ?_⟩
  · rw [State.expire_line hb, Line.enter_asg, hremoved]
  · rw [State.expire_line hb, Line.enter_callState]
  · rw [State.expire_line hb, Line.enter_relay]
    cases hphase : (u.line l).relay.phase with
    | silent => rw [State.removeAssignment_relay_of_undriven .removal (.inl hphase)]; exact .inl hphase
    | quench => rw [State.removeAssignment_relay_of_undriven .removal (.inr hphase)]; exact .inr hphase
    | arm => rw [State.removeAssignment_relay_of_driven .removal (hdriven (.inl hphase)) (.inl hphase)]; exact .inr rfl
    | ring => rw [State.removeAssignment_relay_of_driven .removal (hdriven (.inr hphase)) (.inr hphase)]; exact .inr rfl
  · rw [State.expire_line hb]
  · rw [(u.expire_scheduleKept l).waiting]
    exact State.not_mem_removeAssignment_waiting hb hp .removal
  · rw [State.expire_reports hb]
    exact State.queueReport_mem_or_lost _ _

theorem Ended.boundaryKept (h : Ended l x b s) (k : BoundaryKept s t) (hline : t.line l = s.line l) : Ended l x b t := by
  obtain ⟨hasg, hidle, hundriven, hcall, hwaiting, htold⟩ := h
  exact ⟨hline ▸ hasg, hline ▸ hidle, hline ▸ hundriven, hline ▸ hcall, fun hp hm => hwaiting hp (k.waiting l hm),
    k.reports _ htold⟩

/-- The sequencer begins no burst on a line whose assignment is gone. -/
theorem Ended.sequencerBoundary (h : Ended l x b s) : Ended l x b s.sequencerBoundary := by
  obtain ⟨hasg, hidle, hundriven, hcall, hwaiting, htold⟩ := h
  have hline := s.sequencerBoundary_line l
  have hphase : ((s.line l).takeBoundary s.pattern s.slot).relay.phase = .silent ∨
      ((s.line l).takeBoundary s.pattern s.slot).relay.phase = .quench := by
    obtain ⟨-, ha, -⟩ := (s.line l).endDueQuench_keeps s.slot
    have hnone : ((s.line l).endDueQuench s.slot).burstStart s.pattern s.slot = none := by
      rw [Line.burstStart, ha, hasg]; exact ite_self _
    rw [Line.takeBoundary_of_no_burst hnone]
    unfold Line.endDueQuench
    split
    · exact .inl rfl
    · exact hundriven
  refine ⟨?_, ?_, ?_, ?_, hwaiting, htold⟩
  · rw [hline, Line.takeBoundary_asg, hasg]
  · rw [hline, Line.takeBoundary_eq]; exact hidle
  · rw [hline]; exact hphase
  · rw [hline, Line.takeBoundary_eq]; exact hcall

theorem Ended.mapAssignments (h : Ended l x b s) (f : Assignment → Assignment) : Ended l x b (s.mapAssignments f) := by
  refine h.boundaryKept (.mapAssignments s f) ((State.mapLines_line _ _ l).trans ?_)
  obtain ⟨hasg, -⟩ := h
  rw [hasg, Option.map_none, ← hasg]

theorem Ended.walked (h : Ended l x b s) (hw : Walked s.waiting s t) : Ended l x b t := by
  obtain ⟨hasg, hidle, hundriven, hcall, hwaiting, htold⟩ := h
  have hline := hw.line l
  obtain ⟨p, hp⟩ := hw.asg l
  have hreports : t.reports = s.reports := by rw [hw.frame]
  refine ⟨by rw [hp, hasg]; rfl, ?_, ?_, ?_, fun hp hm => hwaiting hp (hw.waiting l hm), hreports ▸ htold⟩
  · rw [hline]; exact hidle
  · rw [hline]; exact hundriven
  · rw [hline]; exact hcall

theorem Ended.arbitrate (h : Ended l x b s) : Ended l x b s.arbitrate := by
  obtain ⟨hasg, hidle, hundriven, hcall, hwaiting, htold⟩ := h
  have hline := s.arbitrate_line l
  have hkept := State.arbitrate_scheduleKept s
  exact ⟨hline ▸ hasg, hline ▸ hidle, hline ▸ hundriven, hline ▸ hcall, fun hp hm => hwaiting hp (hkept.waiting ▸ hm),
    (s.arbitrate_reports).symm ▸ htold⟩

theorem Ended.of_call {a : Assignment} {y : Line} (h : Ended l x b t) (hcall : x.call = y.call) (hkind : b.kind = a.kind)
    (hplacement : b.placement = a.placement) : Ended l y a t := by
  have hparty : x.unanswered b.kind = y.unanswered a.kind := by unfold Line.unanswered; rw [hkind, hcall]
  obtain ⟨hasg, hidle, hundriven, hcalled, hwaiting, htold⟩ := h
  exact ⟨hasg, hidle, hundriven, by rw [hcalled, hcall, hkind], fun hp => hwaiting (hplacement.trans hp), hparty ▸ htold⟩

theorem Line.placedBus_counted (x : Line) :
    ({ x with asg := x.asg.map Assignment.countDown } : Line).placedBus = x.placedBus := by
  unfold Line.placedBus
  cases x.asg with
  | none => rfl
  | some a =>
    dsimp only [Option.map_some]
    rw [a.countDown_plan.1]

/-- In ARM and RING a line has a placed assignment, and so it has behind the bursts of a boundary (R57, R60). -/
theorem RelayLaw.placed_of_driven (h : RelayLaw s) (l : LineId) :
    ((s.line l).Driven → (s.line l).placedBus.isSome = true) ∧
      ∀ codes g, ((s.line l).takeBoundary codes g).Driven → (s.line l).placedBus.isSome = true := by
  have hfits : RelayFits (fun _ => True) (s.line l) := ((relayLaw_iff s).1 h l).of_kept rfl rfl fun _ _ => trivial
  refine ⟨fun hd => ?_, fun codes g hd => ?_⟩
  · obtain ⟨he, hsome⟩ := hfits.placed hd
    exact he ▸ hsome
  · obtain ⟨he, hsome⟩ := (hfits.takeBoundary (fun _ _ => trivial) codes g).placed hd
    rw [← he, Line.placedBus_congr (Line.takeBoundary_asg codes g _)] at hsome
    exact hsome

section Cycle

variable {a : Assignment} (hslot : s.slot = 23) (hlaw : RelayLaw s) (ha : (s.line l).asg = some a)
  (hends : (s.line l).endsAtBoundary 23 = true)
include hslot hlaw ha hends

/-- With the burst sequencer first, the expiry cuts a burst that the boundary has begun (R45). -/
theorem State.crossed_ends_sequencerFirst : Ended l (s.line l) a (s.crossed true) ∧
    (((s.line l).takeBoundary s.pattern (s.slot + 1)).relay.phase = .arm → ((s.crossed true).line l).relay.phase = .quench) := by
  have hburst := ({ s with slot := s.slot + 1 } : State).sequencerBoundary_line l
  have hasg : (({ s with slot := s.slot + 1 } : State).sequencerBoundary.line l).asg = (s.line l).asg := by
    rw [hburst]; exact Line.takeBoundary_asg _ _ _
  obtain ⟨u, hu, hline, hkept⟩ := State.timeoutCount_of_ends ((Line.endsAtBoundary_congr hasg 23).trans hends)
  have hu' : u.line l = { (s.line l).takeBoundary s.pattern (s.slot + 1) with
      asg := (s.line l).asg.map Assignment.countDown } := by
    rw [hu, State.counted_line, hasg, hburst]; rfl
  have hentry : (u.line l).asg = some a.countDown := by rw [hu', ha]; rfl
  have hplaced : (u.line l).placedBus = (s.line l).placedBus := by
    rw [hu, State.counted_line, Line.placedBus_counted, Line.placedBus_congr hasg]
  have hdriven : (u.line l).Driven → (u.line l).placedBus.isSome = true := fun hd => by
    rw [hplaced]
    exact (hlaw.placed_of_driven l).2 s.pattern (s.slot + 1) (by rw [hu'] at hd; exact hd)
  have hcall : (u.line l).call = (s.line l).call := by rw [hu', Line.takeBoundary_eq]
  have hcrossed : s.crossed true = _ := State.crossed_of_cycle hslot true
  rw [hcrossed]
  refine ⟨(((Ended.expire hentry hdriven).boundaryKept hkept hline).mapAssignments _).of_call hcall
    a.countDown_kind a.countDown_plan.1, fun harm => ?_⟩
  have hphase : (u.line l).relay.phase = .arm := by rw [hu']; exact harm
  refine (congrArg (·.relay.phase) (State.mapLines_line _ _ l)).trans ?_
  refine (congrArg (·.relay.phase) hline).trans ?_
  rw [State.expire_line hentry, Line.enter_relay,
    State.removeAssignment_relay_of_driven .removal (hdriven (.inl hphase)) (.inl hphase)]

/-- With the planner first, no burst begins on a line whose assignment has expired (R45). -/
theorem State.crossed_ends_plannerFirst : Ended l (s.line l) a (s.crossed false) ∧
    ((s.line l).relay.phase = .silent → ((s.crossed false).line l).relay.phase = .silent) := by
  have hends' : (({ s with slot := s.slot + 1 } : State).line l).endsAtBoundary 23 = true := hends
  obtain ⟨u, hu, hline, hkept⟩ := State.timeoutCount_of_ends hends'
  have hu' : u.line l = { s.line l with asg := (s.line l).asg.map Assignment.countDown } := by
    rw [hu, State.counted_line]; rfl
  have hentry : (u.line l).asg = some a.countDown := by rw [hu', ha]; rfl
  have hplaced : (u.line l).placedBus = (s.line l).placedBus := by rw [hu', Line.placedBus_counted]
  have hdriven : (u.line l).Driven → (u.line l).placedBus.isSome = true := fun hd => by
    rw [hplaced]
    exact (hlaw.placed_of_driven l).1 (by rw [hu'] at hd; exact hd)
  have hcall : (u.line l).call = (s.line l).call := by rw [hu']
  have hended := (Ended.expire hentry hdriven).boundaryKept hkept hline
  have hcrossed : s.crossed false = _ := State.crossed_of_cycle hslot false
  rw [hcrossed]
  refine ⟨(hended.sequencerBoundary.mapAssignments _).of_call hcall a.countDown_kind a.countDown_plan.1,
    fun hsilent => ?_⟩
  have hphase : (u.line l).relay.phase = .silent := by rw [hu']; exact hsilent
  refine (congrArg (·.relay.phase) (State.mapLines_line _ _ l)).trans ?_
  refine (congrArg (·.relay.phase) (State.sequencerBoundary_line _ l)).trans ?_
  refine Line.takeBoundary_silent hended.asg ?_ _ _
  rw [hline, State.expire_line hentry, Line.enter_relay, State.removeAssignment_relay_of_undriven .removal (.inl hphase)]
  exact hphase

end Cycle

end Ends

section Count

variable {s : State} {l : LineId} {a : Assignment} (first : Bool) (hslot : s.slot = 23) (hlaw : RelayLaw s)
  (ha : (s.line l).asg = some a) (hends : (s.line l).endsAtBoundary 23 = true)
include hslot hlaw ha hends

theorem State.walked_ends : Ended l (s.line l) a (s.crossed first).plannerWalk.arbitrate := by
  have hcrossed : Ended l (s.line l) a (s.crossed first) := by
    cases first with
    | true => exact (State.crossed_ends_sequencerFirst hslot hlaw ha hends).1
    | false => exact (State.crossed_ends_plannerFirst hslot hlaw ha hends).1
  exact (hcrossed.walked (walked _ _)).arbitrate

/-- A burst that would begin where its assignment ends (R45, R60). -/
theorem State.walked_phase_of_ends {bus : Bus} {o : Slot} {n : Nat} {k : Stroke} (hp : a.placement = .placed bus o n)
    (hk : strokeAt s.pattern a o 0 = some k) (hbefore : strokeAt s.pattern a o 23 = none)
    (hsilent : (s.line l).relay.phase = .silent) (hquiet : (s.line l).relay.quiet = true) :
    ((s.crossed first).plannerWalk.arbitrate.line l).relay.phase = if first = true then .quench else .silent := by
  have hline : ((s.crossed first).plannerWalk.arbitrate.line l).relay = ((s.crossed first).line l).relay := by
    rw [State.arbitrate_line, State.plannerWalk, (walked (s.crossed first).waiting (s.crossed first)).line l]
  rw [hline]
  cases first with
  | true =>
    have hzero : s.slot + 1 = 0 := (Slot.add_one_eq_zero _).2 hslot
    refine (State.crossed_ends_sequencerFirst hslot hlaw ha hends).2 ?_
    obtain ⟨b, -, -, -, hbegins⟩ := Line.takeBoundary_begins (codes := s.pattern) (g := 0) hsilent hquiet
      (Line.placed_eq_some_iff.2 ⟨ha, hp⟩) hk hbefore
    rw [hzero, hbegins]
  | false => exact (State.crossed_ends_plannerFirst hslot hlaw ha hends).2 hsilent

end Count

/-- Settles O28. -/
theorem cycleBoundaryCountsDownRings : Obligations.CycleBoundaryCountsDownRings := by
  unfold Obligations.CycleBoundaryCountsDownRings
  refine fun first s hslot hlaw => ⟨_, exec_slotBoundary first s, ?_, fun l a ha hleft => ⟨fun hs => ?_, fun hs htwo => ?_,
    fun hs hone => ?_⟩⟩
  · rw [State.walked_frame]
    exact (Slot.add_one_eq_zero _).2 hslot
  · have hgoes : (s.line l).endsAtBoundary s.slot = false := by
      rw [Line.endsAtBoundary_of_asg ha hslot, hs]
      exact decide_eq_false (Nat.ne_of_gt hleft)
    have hcount : a.countDown = { a with skipped := true } := if_neg (by rw [hs]; nofun)
    exact hcount ▸ State.walked_asg_of_cycle hslot hgoes ha
  · have hgoes : (s.line l).endsAtBoundary s.slot = false := by
      rw [Line.endsAtBoundary_of_asg ha hslot, if_pos hs]
      exact decide_eq_false (Nat.not_le.2 htwo)
    have hcount : a.countDown = { a with cyclesLeft := a.cyclesLeft - 1 } := if_pos hs
    exact hcount ▸ State.walked_asg_of_cycle hslot hgoes ha
  · have hends : (s.line l).endsAtBoundary 23 = true := by
      rw [Line.endsAtBoundary_of_asg ha rfl, if_pos hs]
      exact decide_eq_true (Nat.le_of_eq hone)
    obtain ⟨hasg, hidle, hundriven, hcall, hwaiting, htold⟩ := State.walked_ends first hslot hlaw ha hends
    refine ⟨hasg, hidle, ?_, ?_, hwaiting, ?_, fun hk => ?_, fun hk => ?_, fun bus o n hp k hk hbefore hsilent hquiet =>
      State.walked_phase_of_ends first hslot hlaw ha hends hp hk hbefore hsilent hquiet⟩
    · rcases hundriven with h | h <;> rw [h] <;> nofun
    · rcases hundriven with h | h <;> rw [h] <;> nofun
    · cases hk : a.kind <;> rw [hk] at htold <;> exact htold
    · rw [hcall, hk]; rfl
    · rw [hcall, hk]; exact ⟨rfl, rfl⟩

end Sys2Proof.Machine
end
